-- ==== Sys2Proof/Word.lean ====
section
/-! DEFINITION. The byte and word types, and the plain conversions between byte strings and numbers. -/

namespace Sys2Proof

/-- One byte, as memory, images and messages hold it. -/
abbrev Byte := BitVec 8

/-- A byte string. -/
abbrev Bytes := List Byte

/-- A 32-bit word (event types, hashes, packets). -/
abbrev Word := BitVec 32

/-- A 64-bit word. -/
abbrev DWord := BitVec 64

end Sys2Proof
end

