-- ==== Sys2Proof/Syntax.lean ====
section
/-! DEFINITION. The commands of the block, one constructor per row of the operation and event table, with the operands
that each event brings (R26, Table 95), and the types of those operands. -/

namespace Sys2Proof

/-- A position on the reference raster (R59): frame modulo 2^32, line, phase in 1/65 536 RL. -/
structure Rrp where
  frame : Nat
  line : Nat
  phase : Nat
  deriving DecidableEq, Repr

/-- The seven access paths (R23). -/
inductive Path where
  | can
  | eth
  | pcie (p : Fin 4)
  | svc
  deriving DecidableEq, Repr

/-- Where an access entered: its path and, on Ethernet, the source address and UDP port (R31) and the port of the device
that it came in on, 0 for ETH0 and 1 for ETH1. -/
structure Origin where
  path : Path
  addr : Nat
  port : Nat
  eth : Fin 2
  deriving DecidableEq, Repr

/-- A dictionary message: the header of Table 2-3, the payload and the MAC as received. short marks a message with fewer
than the 16 header bytes (R30); slowRead a READ or READ_SEG whose result does not exist within 10 ms of its acceptance (R27). -/
structure Msg where
  version : Nat
  op : Nat
  node : Nat
  sub : Nat
  index : Nat
  length : Nat
  seq : Nat
  status : Nat
  payload : Bytes
  mac : Bytes
  short : Bool
  slowRead : Bool
  deriving DecidableEq, Repr

/-- Where a message that comes over the hive link entered the hive (R23, R31), and whether its access has no result within
10 ms of its acceptance (R27). -/
structure Entered where
  origin : Origin
  slow : Bool
  deriving DecidableEq, Repr

/-- The Ethernet port of an 802.1AS message and the gPTP domain that the message names (R65). -/
structure PtpPort where
  port : Fin 2
  ptpDomain : Nat
  deriving DecidableEq, Repr

/-- One USDO transfer on CAN (R42): the bus, the node addressed (0 broadcast), download or upload, the entry and the data
of a download. The framing of USDO is CiA 1301's. -/
structure Usdo where
  bus : Fin 2
  node : Nat
  write : Bool
  index : Nat
  sub : Nat
  data : Bytes
  deriving DecidableEq, Repr

/-- The containment regions of Table 1-6. -/
inductive Region where
  | out (n : Fin 8)
  | spare
  | grp (g : Fin 4)
  | time
  | comb
  | secure
  | mgmt
  | gpu
  | media
  | host (p : Fin 4)
  | net
  | audio
  | field
  | aon
  deriving DecidableEq, Repr

/-- Which register block a register access names: a slice's window in BAR0, or the BAR2 mailbox of a port (Table 2-8). -/
inductive RegSpace where
  | slice (sl : Fin 32)
  | mailbox (p : Fin 4)
  deriving DecidableEq, Repr

/-- One pixel, a value per component. -/
structure Rgb where
  r : Nat
  g : Nat
  b : Nat
  deriving DecidableEq, Repr

/-- The profile of a stream (R277). -/
inductive Profile where
  | constrainedBaseline
  | main
  | main10
  | other
  deriving DecidableEq, Repr

/-- A coded picture as the decoder reads it, by the codec that its job or feed names (R277, R279): whether its syntax holds, whether it
is an IDR or IRAP picture, whether the pictures it refers to are available; profile, level (51 for 5.1), 4:2:0, size, more than 8
bits a sample; its picture order count, and the largest reference count that the level allows. -/
structure Picture where
  syntaxOk : Bool
  irap : Bool
  refsOk : Bool
  profile : Profile
  level : Nat
  yuv420 : Bool
  width : Nat
  height : Nat
  deep : Bool
  poc : Int
  maxRefs : Nat
  deriving DecidableEq, Repr

/-- What a DisplayPort source sends to a capture input (R273): nothing, a link in training, or a stream: the rate of a lane in units
of 10 Mbit/s, the lanes, RGB 4:4:4 or not, bits per component, the pixel clock in kHz. -/
inductive Sent where
  | nothing
  | training
  | stream (rate lanes : Nat) (rgb : Bool) (bpc pixelKHz : Nat)
  deriving DecidableEq, Repr

/-- A primitive that a draw bins (R250): the bytes of its lists, and the tiles of 32 by 32 pixels that it touches, by column and row.
What it draws there is the shader programs' work. -/
structure Prim where
  bytes : Nat
  tiles : List (Nat × Nat)
  deriving DecidableEq, Repr

/-- The principal an access is made for (Table 16-1). -/
inductive Principal where
  | slice (sl : Fin 32)
  | port (p : Fin 4)
  | mgmt
  | secure
  deriving DecidableEq, Repr

/-- An access of DRAM as the controller accepts it (R384): who makes it, its requester code, the address, the length of a
read or the bytes of a write, and what the ECC of the words it reads shows (R379): the single-bit errors met, and whether
a word is uncorrectable in its primary and in its shadow. -/
structure DramReq where
  who : Principal
  requester : Nat
  addr : Nat
  len : Nat
  data : Option Bytes
  corrected : Nat
  badPrimary : Bool
  badShadow : Bool
  deriving DecidableEq, Repr

/-- A field of a port's configuration space that Table 15-1 or R421 speaks of, or any other register by its offset. -/
inductive CfgField where
  | vendorDevice
  | revisionClass
  | subsystem
  | deviceSerial
  | msixControl
  | pasidControl
  | powerControl
  | deviceControl
  | deviceCaps
  | linkCaps
  | pasidCaps
  | other (offset : Nat)
  deriving DecidableEq, Repr

/-- The commands: one constructor per row of the table of operations and events. -/
inductive Instr where
  /-- DIE_LINK_TRANSFER (R10): A transfer crosses the die link with CRC checking and up to three retries; persistent
  failure is a die-link fault. -/
  | dieLinkTransfer (t : Rrp) (crcFails : Nat)
  /-- DIE_LINK_LOSS (R11): Each die detects loss of the die link within 2 µs: the field die drives its outputs safe and
  stops bursts, and the main die marks field inputs and channels unknown. -/
  | dieLinkLoss (t : Rrp)
  /-- MGMT_CORE_RESTART (R12): The management core restarts while the last executor and every output keep running;
  tickets, kept replies and open DOMAIN writes are retired. -/
  | mgmtCoreRestart (t : Rrp)
  /-- MGMT_RESTART_COMPLETE (R52): The management core finishes restarting; paths answer again, CAN sends boot-up and
  EMCY 0xFF61, and deferred EMCYs are sent. -/
  | mgmtRestartComplete (t : Rrp)
  /-- REGION_ISOLATE (R16): The health monitor isolates a containment region; its boundaries take isolation values,
  requests to it complete with errors, and its pins go safe. -/
  | regionIsolate (t : Rrp) (g : Region)
  /-- TIMEBASE_COPY_FAULT (R17): One copy of the triple-voted last executor disagrees; it is outvoted and recorded, and
  a second copy fault before repair enters Hold. -/
  | timebaseCopyFault (t : Rrp)
  /-- READ (R30): A dictionary READ request returns the value of one entry, subject to format, path mask and access
  checks. -/
  | read (t : Rrp) (o : Origin) (m : Msg)
  /-- WRITE (R28): A dictionary WRITE request writes one entry of fixed size, after authentication, epoch, replay, path,
  range and mode checks, completing at once or PENDING. -/
  | write (t : Rrp) (o : Origin) (m : Msg) (slow : Bool)
  /-- TICKET (R51): A TICKET request retrieves the result of a pending access, returning PENDING, the final result, or
  TICKET_UNKNOWN. -/
  | ticket (t : Rrp) (o : Origin) (m : Msg)
  /-- READ_SEG (R30): A READ_SEG request returns up to 1 024 bytes of a DOMAIN entry from an offset. -/
  | readSeg (t : Rrp) (o : Origin) (m : Msg)
  /-- WRITE_SEG (R31): A WRITE_SEG request writes one segment of a DOMAIN write from one source, refusing segments from
  other sources or beyond the largest size. -/
  | writeSeg (t : Rrp) (o : Origin) (m : Msg)
  /-- WRITE_SEG_END (R31): A WRITE_SEG_END request completes a DOMAIN write if every byte up to the total length has
  been written, or refuses and discards it. -/
  | writeSegEnd (t : Rrp) (o : Origin) (m : Msg) (slow : Bool)
  /-- FORWARD_TIMEOUT (R56): A forwarded access with no answer from its target within 20 ms is answered
  NODE_UNREACHABLE. -/
  | forwardTimeout (t : Rrp) (msgNo : Nat)
  /-- ACCESS_FINAL (R27): A pending dictionary access reaches its final result, which its ticket then holds. -/
  | accessFinal (t : Rrp) (ticketNo : Nat)
  /-- TICKET_EXPIRE (R51): A final result not retrieved within 60 s is discarded and its ticket retired. -/
  | ticketExpire (t : Rrp) (ticketNo : Nat)
  /-- SOURCE_IDLE_DROP (R36): An Ethernet source idle for 300 s is no longer tracked. -/
  | sourceIdleDrop (t : Rrp) (addr port : Nat)
  /-- MBX_SUBMIT (R38): A write of SUBMIT to MBX_DOORBELL copies the mailbox request and executes it, or is ignored with
  OVERRUN while busy or holding a reply. -/
  | mbxSubmit (t : Rrp) (p : Fin 4) (slow : Bool)
  /-- MBX_REPLY_READY (R38): The mailbox reply is written to MBX_RESP, BUSY clears, RESP_VALID sets and the vector is
  raised if enabled. -/
  | mbxReplyReady (t : Rrp) (p : Fin 4)
  /-- MBX_ACK (R38): A write of ACK clears RESP_VALID so the mailbox can take the next request. -/
  | mbxAck (t : Rrp) (p : Fin 4)
  /-- SVC_FRAME (R39): A SLIP-framed message with CRC arrives on the service UART and is executed, or discarded on a CRC
  failure. -/
  | svcFrame (t : Rrp) (wire : Bytes) (slow : Bool)
  /-- USDO_REQUEST (R42): A unicast or broadcast USDO transfer on CAN reads or writes an entry, with Otmoell statuses
  mapped to abort codes. -/
  | usdoRequest (t : Rrp) (u : Usdo) (slow : Bool)
  /-- NMT_START (R43): The NMT start command enables PDOs without changing the device mode. -/
  | nmtStart (t : Rrp) (bus : Fin 2) (node : Nat)
  /-- NMT_STOP (R43): The NMT stop command disables PDOs without changing the device mode. -/
  | nmtStop (t : Rrp) (bus : Fin 2) (node : Nat)
  /-- NMT_PRE_OPERATIONAL (R43): The NMT pre-operational command changes only the CANopen communication state. -/
  | nmtPreOperational (t : Rrp) (bus : Fin 2) (node : Nat)
  /-- NMT_RESET_NODE (R43): The NMT reset node command resets the CANopen communication objects to their stored values. -/
  | nmtResetNode (t : Rrp) (bus : Fin 2) (node : Nat)
  /-- NMT_RESET_COMMUNICATION (R43): The NMT reset communication command resets the CANopen communication objects to
  their stored values. -/
  | nmtResetCommunication (t : Rrp) (bus : Fin 2) (node : Nat)
  /-- RPDO_RECEIVE (R44): A received RPDO writes its mapped PDO-mappable entries. -/
  | rpdoReceive (t : Rrp) (bus : Fin 2) (k : Fin 8) (data : Bytes)
  /-- RPDO_TIMEOUT (R44): An expected RPDO does not arrive in time and is reported with EMCY 0x8250. -/
  | rpdoTimeout (t : Rrp) (k : Fin 8)
  /-- TPDO_SEND (R44): A TPDO is sent with its mapped entries. -/
  | tpdoSend (t : Rrp) (k : Fin 8)
  /-- SYNC_PRODUCE (R45): At (f, 0, 0) with f mod k equal to 0 the device sends SYNC with its counter byte. -/
  | syncProduce (t : Rrp)
  /-- HEARTBEAT_SEND (R47): The heartbeat timer expires and the heartbeat is sent with the NMT state. -/
  | heartbeatSend (t : Rrp)
  /-- EMCY_PROXY (R49): A hive EMCY cell from a node with its CAN disabled is sent by each proxy device with the
  originating node's COB-ID. -/
  | emcyProxy (t : Rrp) (node : Nat) (emcy : Bytes)
  /-- REFSYNC_DATUM (R63): A REFSYNC datum is detected and compared with the raster, counting toward qualification. -/
  | refsyncDatum (t : Rrp) (periodOk : Bool) (gptpN : Nat)
  /-- REFSYNC_DATUM_MISSING (R63): The ±2 RL window of an expected REFSYNC datum closes empty; a second in a row loses
  the source. -/
  | refsyncDatumMissing (t : Rrp)
  /-- PTP_SYNC_RECEIVE (R65): An 802.1AS time message updates the gPTP time estimate and its qualification. -/
  | ptpSyncReceive (t : Rrp) (port : PtpPort) (slave asCapable stable : Bool) (hops grandmaster : Nat) (n : Nat) (err : Int)
  /-- PTP_SOURCE_LOST (R63): syncReceiptTimeout expires or the grandmaster identity changes, and the 802.1AS source is
  lost. -/
  | ptpSourceLost (t : Rrp)
  /-- HIVE_TIMING_RECEIVE (R83): A TIMING cell arrives, is corrected by the hop delay and counts toward qualification of
  the hive source. -/
  | hiveTimingReceive (t : Rrp) (rev : Bool) (cell : Bytes)
  /-- HIVE_TIMING_TIMEOUT (R63): No valid TIMING cell arrives for 600 RL and the hive source is lost. -/
  | hiveTimingTimeout (t : Rrp) (rev : Bool)
  /-- SOURCE_DWELL_EXPIRE (R67): An earlier source has stayed qualified for 10 s and the device slews onto it. -/
  | sourceDwellExpire (t : Rrp) (src : Nat)
  /-- TIMEBASE_LOCKED (R69): The phase error has stayed within ±0.01 RL for 16 consecutive frames and the state becomes
  LOCKED. -/
  | timebaseLocked (t : Rrp)
  /-- ACQUISITION_TIMEOUT (R72): No source qualifies within 12 frame periods of Bring-up and the device continues in
  FREE_RUN from frame 0. -/
  | acquisitionTimeout (t : Rrp)
  /-- FRAME_BOUNDARY (R97): A reference frame boundary advances the frame number, the cycle position and the audio
  cadence position. -/
  | frameBoundary (t : Rrp) (railReached : Bool)
  /-- FIO_INPUT_CHANGE (R76): A new FIO input level holds for the input filter time and is accepted as an event stamped
  with the RRP of its first sample. -/
  | fioInputChange (t : Rrp) (i : Fin 16) (level : Bool) (first : Rrp)
  /-- HIVE_CELL_RECEIVE (R81): A hive cell arrives and is checked, relayed with HOPS incremented, or removed at its
  destination or origin. -/
  | hiveCellReceive (t : Rrp) (rev : Bool) (cell : Bytes) (entered : Entered)
  /-- HIVE_LANE_FAIL (R79): One lane of a hop fails; the hop continues at half rate and a hive link fault is reported. -/
  | hiveLaneFail (t : Rrp) (rev : Bool) (lane : Fin 2) (out : Bool)
  /-- HIVE_TIMING_SEND (R83): At each line that is a multiple of 150 the device sends TIMING cells on its forward and
  reverse lanes. -/
  | hiveTimingSend (t : Rrp)
  /-- HIVE_DELAY_EXCHANGE (R83): Once per frame the device exchanges DELAY cells with each neighbour and updates the hop
  delay. -/
  | hiveDelayExchange (t : Rrp) (out : Bool) (roundTrip turnaround : Nat)
  /-- ENUM_SEND (R85): Once per second the head sends an ENUM cell with count 0. -/
  | enumSend (t : Rrp)
  /-- ENUM_RECEIVE (R86): A device takes its hive position from an ENUM cell and relays it, or reports a hive
  configuration fault. -/
  | enumReceive (t : Rrp) (cell : Bytes)
  /-- BARRIER_ARM (R87): A BARRIER ARM cell for a target frame reaches the coordinator. -/
  | barrierArm (t : Rrp) (cell : Bytes)
  /-- BARRIER_DECIDE (R87): At (F − 1, 0, 0) the coordinator sends COMMIT if it holds an ARM from every device, and
  otherwise ABORT. -/
  | barrierDecide (t : Rrp)
  /-- BARRIER_COMMIT (R87): A BARRIER COMMIT cell is received and held by a device. -/
  | barrierCommit (t : Rrp) (cell : Bytes)
  /-- BARRIER_ABORT (R87): A BARRIER ABORT cell is received and Barrier Result records the abort. -/
  | barrierAbort (t : Rrp) (cell : Bytes)
  /-- BARRIER_DEADLINE (R88): At (F − 1, L_ref/2, 0) a device decides to act at F if it holds COMMIT, and reports a
  missed COMMIT. -/
  | barrierDeadline (t : Rrp)
  /-- LATCH (R164): The LATCH row event of output n fixes the layer set of the next output frame and completes the flips
  due at it. -/
  | latch (t : Rrp) (n : Fin 8) (j : Fin 2)
  /-- GPU_WINDOW (R102): The GPU_WINDOW row event opens a window for a context on its powered clusters, resetting any
  cluster still held when the context is 32. -/
  | gpuWindow (t : Rrp) (ctx : Fin 34) (set len : Nat)
  /-- GPU_WINDOW_CLOSE (R253): A GPU window reaches its length and its context stops starting work and begins to vacate
  its clusters. -/
  | gpuWindowClose (t : Rrp) (ctx : Fin 34)
  /-- DRAM_WINDOW (R99): The DRAM_WINDOW row event closes the current DRAM window, resets every monitor count and opens
  the next allotment set. -/
  | dramWindow (t : Rrp) (set : Nat)
  /-- TOUCH_BURST (R294): The TOUCH_BURST row event fires a burst if its plan serves the channel's present step and it
  lies in a measuring interval. -/
  | touchBurst (t : Rrp) (ch : Fin 8) (plan : Nat)
  /-- FREQ_CHANGE (R385): The FREQ_CHANGE row event begins a DRAM frequency change through self-refresh. -/
  | freqChange (t : Rrp) (rate : Nat)
  /-- FREQ_CHANGE_COMPLETE (R386): A frequency change ends, resuming service at the new rate, or returning to the
  previous rate on failure. -/
  | freqChangeComplete (t : Rrp) (ok back : Bool)
  /-- CHECK_START (R398): The CHECK_START row event starts a check scan from its check plan, or is refused if the
  channel is running. -/
  | checkStart (t : Rrp) (c : Fin 16) (plan : Nat)
  /-- CONTRACT_VIOLATION (R103): An item's requester asks to move more than its allotment in a window, and its violation
  action engages and is recorded. -/
  | contractViolation (t : Rrp) (item measure : Nat)
  /-- LAST_LOAD_COMPLETE (R113): A last image written to a slot is validated in stages and its assumptions checked,
  leaving the slot valid or refused. -/
  | lastLoadComplete (t : Rrp) (slot : Fin 4)
  /-- LAST_SWITCH_REQUEST (R116): A write of Last Switch Request is refused at once or left pending until the switch's
  outcome. -/
  | lastSwitchRequest (t : Rrp) (o : Origin) (value : Nat)
  /-- LAST_SWITCH_ARM (R117): At (F − 1, 0, 0) a single node arms a requested switch if its slot is valid, holds, is
  linked and is not superseded. -/
  | lastSwitchArm (t : Rrp)
  /-- LAST_SWITCH_EXECUTE (R118): At (F, 0, 0) the source slot becomes the running slot, outputs start or stop and any
  audio program swap begins. -/
  | lastSwitchExecute (t : Rrp) (railReached : Bool)
  /-- MARGIN_SWITCH (R110): At frame f + 2 after the margin class worsens beyond the active last, the device switches
  itself to the reserve last and enters Degraded. -/
  | marginSwitch (t : Rrp) (railReached : Bool)
  /-- FLIP_DOORBELL (R163): A doorbell write makes flip records available on the flip ring, giving them their arrival
  RRP. -/
  | flipDoorbell (t : Rrp) (sl : Fin 32) (tail : Nat)
  /-- FLIPC_READ_WRITE (R415): Host software advances FLIPC_READ, making room so that waiting completions are written
  and the flip ring is taken again. -/
  | flipcReadWrite (t : Rrp) (sl : Fin 32) (value : Nat)
  /-- MATRIX_COMMIT (R153): A write of 1 to subindex :0D commits the staged custom matrix for use from the first latch
  at least 2 RL later. -/
  | matrixCommit (t : Rrp) (o : Origin) (n : Fin 8) (k : Fin 16) (value : Nat)
  /-- BAND_COMPLETE (R175): An engine completes a band and checks it; a failing band is withheld and recomposed by S or
  by the engine. -/
  | bandComplete (t : Rrp) (n : Fin 8) (band : Nat) (pass again : Bool)
  /-- BAND_DEADLINE (R174): A layer's data has not arrived by the band's engine deadline, and its missing pixels take
  the fallback colour. -/
  | bandDeadline (t : Rrp) (n : Fin 8) (band : Nat) (layer : Fin 17) (spans : List (Nat × Nat × Nat))
  /-- SCANOUT_LINE (R73): Scan-out sends an output line on the output's timing, reading the lead buffer with SECDED
  correction. -/
  | scanoutLine (t : Rrp) (n : Fin 8) (k : Nat) (badWords : List Nat) (corrupt : List (Nat × Nat))
  /-- FLATTEN_PASS_COMPLETE (R162): A flattening pass finishes writing its base surface, which takes effect at the first
  latch at least 2 RL later. -/
  | flattenPassComplete (t : Rrp) (n : Fin 8)
  /-- RELEASE_FENCE_WRITE (R168): At the end of the recovery frame the release fence of a buffer is written and the flip
  vector raised. -/
  | releaseFenceWrite (t : Rrp)
  /-- OFFSCREEN_COMPLETE (R179): S finishes an offscreen composition, which completes OFFSCREEN_DONE or
  OFFSCREEN_FAILED. -/
  | offscreenComplete (t : Rrp)
  /-- RECORD_FRAME_COMPLETE (R181): The last band of a recorded frame is written and its record table entry is written. -/
  | recordFrameComplete (t : Rrp) (n : Fin 8)
  /-- BINDING_CUTOFF (R193): At LPn − 1 RL the sentinel renderer fixes the state of every cell of the next output frame. -/
  | bindingCutoff (t : Rrp) (n : Fin 8)
  /-- CELL_TIMEOUT (R195): A dictionary-bound cell's entry has not been written for TIMEOUT counted frames and the cell
  shows GLYPH_UNKNOWN. -/
  | cellTimeout (t : Rrp) (n : Fin 8) (c : Fin 256)
  /-- CELL_BLINK_TOGGLE (R196): A blinking cell's BLINK_HALF count elapses and it alternates between its glyph and
  GLYPH_BLINK. -/
  | cellBlinkToggle (t : Rrp) (n : Fin 8) (c : Fin 256)
  /-- SURFACE_AGE_EXPIRE (R203): More than MAX_AGE frames pass since a surface's latest accepted post and it shows its
  stand-in. -/
  | surfaceAgeExpire (t : Rrp) (n : Fin 8) (k : Fin 2)
  /-- PROTECTED_CRC_COMPARE (R207): After the last sealed line the sent and expected CRCs are compared, and a mismatch
  is recorded and triggers takeover and pair release. -/
  | protectedCrcCompare (t : Rrp) (n : Fin 8)
  /-- HEALTHY_RELEASE (R210): At the first vertical sync after a release condition a paired output releases HEALTHY_N. -/
  | healthyRelease (t : Rrp) (n : Fin 8)
  /-- HEALTHY_ASSERT (R211): After 2, or after a rearm 60, consecutive matching frames a paired output asserts HEALTHY_N
  at vertical sync. -/
  | healthyAssert (t : Rrp) (n : Fin 8)
  /-- PAIR_REARM (R211): A write of 1 to Output n Pair Rearm in the released state starts the rearm count. -/
  | pairRearm (t : Rrp) (o : Origin) (n : Fin 8) (value : Nat)
  /-- HPD_PLUG (R217): HPD is high and stable for 2 ms after an unplug, and the link sequence begins. -/
  | hpdPlug (t : Rrp) (n : Fin 8)
  /-- HPD_UNPLUG (R217): HPD is low for at least 2 ms, the link stops and a link loss is recorded if the output was
  running. -/
  | hpdUnplug (t : Rrp) (n : Fin 8)
  /-- IRQ_HPD (R217): A short HPD low pulse makes the device read the lane status and retrain from step 4 on a loss. -/
  | irqHpd (t : Rrp) (n : Fin 8) (status : Bytes)
  /-- LINK_TRAINING_COMPLETE (R218): The DisplayPort link sequence ends, sending video from the next frame or marking
  training failed. -/
  | linkTrainingComplete (t : Rrp) (n : Fin 8) (caps edid : Bytes) (fails : List (Nat × Nat))
  /-- LINK_TRAINING_RETRY (R219): One second after a training failure with the sink plugged the link sequence repeats
  from step 1. -/
  | linkTrainingRetry (t : Rrp) (n : Fin 8)
  /-- AUX_REQUEST (R222): A write of Output n AUX Request queues a native AUX transaction or refuses a protected write. -/
  | auxRequest (t : Rrp) (o : Origin) (n : Fin 8) (req : Bytes)
  /-- AUX_REPLY (R222): A queued AUX transaction completes and its result stands in Output n AUX Result. -/
  | auxReply (t : Rrp) (n : Fin 8) (status : Nat) (data : Bytes) (symbolErrors : Nat)
  /-- PHY_FAULT (R231): A PLL, lane driver or LVDS clock fault stops the link, is recorded and schedules retries. -/
  | phyFault (t : Rrp) (n : Fin 8)
  /-- PHY_RETRY (R231): A retry delay after a PHY fault expires and the link sequence is attempted again, up to three
  times. -/
  | phyRetry (t : Rrp) (n : Fin 8) (present : Bool)
  /-- IMMEDIATE_ENABLE (R232): A write of Output n Immediate Enable in Service enables or ends immediate layer writes. -/
  | immediateEnable (t : Rrp) (o : Origin) (n : Fin 8) (value : Nat)
  /-- IMMEDIATE_DESCRIPTOR (R232): A write of Output n Immediate Descriptor in Service replaces a layer's content from
  the next band. -/
  | immediateDescriptor (t : Rrp) (o : Origin) (n : Fin 8) (desc : Bytes)
  /-- TEST_PATTERN (R233): A write of Output n Test Pattern in Service starts or ends a layer or link test pattern. -/
  | testPattern (t : Rrp) (o : Origin) (n : Fin 8) (value : Nat)
  /-- GPU_RING_ENABLE (R240): A write of ENABLE 1 to GPU_RING_CTRL checks the pages of the ring, parameter buffer and
  save area. -/
  | gpuRingEnable (t : Rrp) (sl : Fin 32) (value : Nat)
  /-- GPU_DOORBELL (R241): A doorbell write makes GPU job entries available and gives them their arrival. -/
  | gpuDoorbell (t : Rrp) (sl : Fin 32) (tail : Nat)
  /-- NOP (R243): A GPU NOP packet is ignored. -/
  | nop (t : Rrp) (ctx : Fin 34)
  /-- BIND_PROGRAM (R271): A BIND_PROGRAM packet reads and checks a shader container and binds it to a stage. -/
  | bindProgram (t : Rrp) (ctx : Fin 34)
  /-- BIND_RESOURCES (R243): A BIND_RESOURCES packet binds a table of resource descriptors to a stage. -/
  | bindResources (t : Rrp) (ctx : Fin 34)
  /-- SET_TARGET (R246): A SET_TARGET packet begins a render pass, refusing targets that exceed tile memory. -/
  | setTarget (t : Rrp) (ctx : Fin 34)
  /-- SET_STATE (R243): A SET_STATE packet sets topology, culling, depth and blend state. -/
  | setState (t : Rrp) (ctx : Fin 34)
  /-- DRAW (R272): A DRAW packet checks bindings and bins primitives into the parameter buffer. -/
  | draw (t : Rrp) (ctx : Fin 34) (prims : List Prim) (shaderFault : Bool)
  /-- DRAW_INDEXED (R272): A DRAW_INDEXED packet checks bindings and bins indexed primitives. -/
  | drawIndexed (t : Rrp) (ctx : Fin 34) (prims : List Prim) (shaderFault : Bool)
  /-- DISPATCH (R272): A DISPATCH packet checks bindings and runs compute workgroups. -/
  | dispatch (t : Rrp) (ctx : Fin 34) (shaderFault : Bool)
  /-- TRACE_RAYS (R272): A TRACE_RAYS packet runs one compute invocation per ray with ray queries. -/
  | traceRays (t : Rrp) (ctx : Fin 34) (shaderFault : Bool)
  /-- END_PASS (R247): An END_PASS packet renders and stores every tile of the pass, resolving multisampled colour. -/
  | endPass (t : Rrp) (ctx : Fin 34)
  /-- BARRIER (R243): A BARRIER packet makes every earlier write visible to later packets. -/
  | barrier (t : Rrp) (ctx : Fin 34)
  /-- WAIT_MEM (R243): A WAIT_MEM packet waits until a memory value reaches a threshold. -/
  | waitMem (t : Rrp) (ctx : Fin 34)
  /-- WAIT_MEM_SATISFIED (R243): A re-read finds the waited value at least VALUE and the job continues. -/
  | waitMemSatisfied (t : Rrp) (ctx : Fin 34)
  /-- WRITE_MEM (R243): A WRITE_MEM packet writes a value once all earlier work is complete and visible. -/
  | writeMem (t : Rrp) (ctx : Fin 34)
  /-- HITTEST_SCENE (R267): A HITTEST_SCENE packet binds or unbinds a hierarchy for hit-testing a touch channel. -/
  | hittestScene (t : Rrp) (ctx : Fin 34)
  /-- GPU_JOB_COMPLETE (R242): A GPU job completes once, writing its fence with status and raising the GPU vector. -/
  | gpuJobComplete (t : Rrp) (ctx : Fin 34)
  /-- PREEMPT_GRACE_EXPIRE (R253): 40 µs after a window closes a cluster not at a unit boundary begins a forced save. -/
  | preemptGraceExpire (t : Rrp) (cl : Fin 12)
  /-- CLUSTER_SAVE_COMPLETE (R253): A cluster finishes saving its context and is free for the next window. -/
  | clusterSaveComplete (t : Rrp) (cl : Fin 12)
  /-- CLUSTER_FAULT (R261): A residue, parity or save fault resets a cluster alone and ends the job on it with
  CLUSTER_FAULT. -/
  | clusterFault (t : Rrp) (cl : Fin 12) (resetOk : Bool)
  /-- COMPOSITOR_JOB_ISSUE (R257): The feed sequencer builds a compositor job of scaling quads for context 32. -/
  | compositorJobIssue (t : Rrp) (f : Fin 32)
  /-- CAPTURE_FRAME_START (R276): A frame begins on a capture input and is captured into a queued job's buffer or
  counted as missed. -/
  | captureFrameStart (t : Rrp) (i : Fin 2)
  /-- CAPTURE_FRAME_COMPLETE (R275): The last active line of a captured frame is written and the frame is complete. -/
  | captureFrameComplete (t : Rrp) (i : Fin 2) (bpc : Nat) (pixels : List (List Rgb))
  /-- CAPTURE_EDID_WRITE (R274): A write of Capture EDID holds the input's HPD low for 500 ms. -/
  | captureEdidWrite (t : Rrp) (o : Origin) (i : Fin 2) (data : Bytes)
  /-- CAPTURE_HPD_RESTORE (R274): The 500 ms HPD hold ends and HPD is driven high again. -/
  | captureHpdRestore (t : Rrp) (i : Fin 2)
  /-- DEC_RING_ENABLE (R415): A write of ENABLE 1 to DEC_RING_CTRL checks the ring pages and enables the decoder ring. -/
  | decRingEnable (t : Rrp) (sl : Fin 32) (value : Nat)
  /-- DEC_DOORBELL (R280): A doorbell write makes decoder or capture jobs available. -/
  | decDoorbell (t : Rrp) (sl : Fin 32) (tail : Nat)
  /-- DECODER_JOB_COMPLETE (R282): A decoder or capture job completes with its fence holding status, picture order count
  and JOB_SEQ. -/
  | decoderJobComplete (t : Rrp) (sl : Fin 32) (p : Picture)
  /-- RTP_PACKET (R285): An RTP packet of a feed is accepted, reordered and assembled, marking pictures complete or
  incomplete. -/
  | rtpPacket (t : Rrp) (eth : Fin 2) (group udpPort : Nat) (rtp : Bytes)
  /-- FEED_PICTURE_COMPLETE (R286): A feed picture is decoded or captured, and scaled if SCALE is 1, and becomes
  eligible for latching. -/
  | feedPictureComplete (t : Rrp) (f : Fin 32) (p : Picture)
  /-- FEED_ENABLE (R284): A write of Feed f Enable checks the feed's conditions, joins or leaves its group and starts or
  stops decoding. -/
  | feedEnable (t : Rrp) (o : Origin) (f : Fin 32) (value : Nat)
  /-- FEED_HOLD_EXPIRE (R288): Hold Frames pass without a new picture and the feed layer shows its fallback colour. -/
  | feedHoldExpire (t : Rrp) (f : Fin 32)
  /-- TOUCH_SLOT_END (R294): A touch slot ends, raw counts are formed and the VT40 is sent SLOT_END. -/
  | touchSlotEnd (t : Rrp) (ch : Fin 8) (counts : List (Nat × List Nat))
  /-- TOUCH_FRAME_COMPLETE (R313): Detection of a touch frame completes: baselines track, contacts are found and
  reported, and haptic triggers are sent. -/
  | touchFrameComplete (t : Rrp) (ch : Fin 8)
  /-- TOUCH_START_SCAN (R297): A channel starts and its front-end begins a 20 ms start scan. -/
  | touchStartScan (t : Rrp) (ch : Fin 8)
  /-- START_SCAN_COMPLETE (R298): The start scan ends, the self-test runs and baselines are acquired with suspect nodes
  marked. -/
  | startScanComplete (t : Rrp) (ch : Fin 8) (nodes txSelf rxSelf : List Nat)
  /-- TOUCH_STEP_DOWN (R296): No contact has been open for the Step Down Time and the channel moves to the next slower
  step. -/
  | touchStepDown (t : Rrp) (ch : Fin 8)
  /-- SUSPECT_HOLD_EXPIRE (R300): A suspect node stays within Noise Threshold for Suspect Hold and is released, ending
  its contact with REACQUIRED. -/
  | suspectHoldExpire (t : Rrp) (ch : Fin 8) (node : Nat)
  /-- CONTACT_STALE (R302): A contact stays open longer than Stale Time, becomes stale and gets a MOVE record. -/
  | contactStale (t : Rrp) (ch : Fin 8) (contact : Fin 16)
  /-- TOUCH_CHANNEL_LOST (R316): A channel is lost, UP records with LOST are written for its open contacts and the fault
  is recorded. -/
  | touchChannelLost (t : Rrp) (ch : Fin 8)
  /-- TOUCH_RING_ENABLE (R309): A write of ENABLE 1 to TOUCH_RING_CTRL checks the ring pages and enables the touch ring. -/
  | touchRingEnable (t : Rrp) (sl : Fin 32) (value : Nat)
  /-- TOUCH_SELF_TEST_REQUEST (R319): A write of Touch n Self-Test Request starts a self-test on the next 8 touch frames
  and answers PENDING. -/
  | touchSelfTestRequest (t : Rrp) (o : Origin) (ch : Fin 8) (value : Nat)
  /-- TOUCH_SELF_TEST_COMPLETE (R318): The requested self-test judges its counts and its result completes the ticket. -/
  | touchSelfTestComplete (t : Rrp) (ch : Fin 8)
  /-- CAPTURE_REFERENCE (R324): A write of Touch n Capture Reference in Service begins storing the mean of the next 64
  touch frames. -/
  | captureReference (t : Rrp) (o : Origin) (ch : Fin 8) (value : Nat)
  /-- CAPTURE_REFERENCE_COMPLETE (R324): The 64 frames are averaged and stored as Touch n Reference Baseline. -/
  | captureReferenceComplete (t : Rrp) (ch : Fin 8)
  /-- VT40_COUNTS (R321): A COUNTS frame from a VT40 delivers raw counts of a slot's plan. -/
  | vt40Counts (t : Rrp) (ch : Fin 8) (wire : Bytes)
  /-- VT40_STATUS (R323): A STATUS frame reports a VT40 fault and the link is lost. -/
  | vt40Status (t : Rrp) (ch : Fin 8) (wire : Bytes)
  /-- VT40_IDENTITY (R322): An IDENTITY frame sets the link delay, and CONFIG is sent and the channel started. -/
  | vt40Identity (t : Rrp) (ch : Fin 8) (wire : Bytes) (roundTripNs : Nat)
  /-- VT40_LINK_LOST (R323): UP carries no valid frame for 100 µs or 16 CRC failures occur in 1 s, and the link is lost. -/
  | vt40LinkLost (t : Rrp) (ch : Fin 8)
  /-- VT40_IDENTIFY_RETRY (R323): Every 100 ms while the link is down the field die sends RESET and IDENTIFY. -/
  | vt40IdentifyRetry (t : Rrp) (ch : Fin 8)
  /-- HAPTIC_PIN_TRIGGER (R334): An edge on TRIG held for 1.5 µs triggers Pin Effect. -/
  | hapticPinTrigger (t : Rrp) (h : Fin 8) (rising : Bool) (residual : Nat)
  /-- HAPTIC_TRIGGER (R336): A write to the slice's HAPTIC_TRIGGER register triggers the named effect on an owned
  channel. -/
  | hapticTrigger (t : Rrp) (sl : Fin 32) (value residual : Nat)
  /-- HAPTIC_N_TRIGGER (R336): A dictionary write of Haptic n Trigger triggers the named effect where the mode allows
  it. -/
  | hapticNTrigger (t : Rrp) (o : Origin) (h : Fin 8) (value residual : Nat)
  /-- MERGE_START (R337): A merged effect starts at the zero crossing of the motional current or after half a resonance
  period. -/
  | mergeStart (t : Rrp) (h : Fin 8)
  /-- EFFECT_END (R331): The last sample of an effect plays and the channel brakes or becomes idle. -/
  | effectEnd (t : Rrp) (h : Fin 8)
  /-- BRAKE_END (R332): The residual falls below Brake Threshold, braking ends and any waiting trigger starts. -/
  | brakeEnd (t : Rrp) (h : Fin 8)
  /-- BRAKE_TIMEOUT (R332): Braking lasts 10 ms without the residual falling below the threshold, ends and is counted. -/
  | brakeTimeout (t : Rrp) (h : Fin 8)
  /-- HAPTIC_FAULT (R327): An overcurrent, tracking, sense or actuator fault drives the gates safe and records the
  fault. -/
  | hapticFault (t : Rrp) (h : Fin 8) (cause : Nat)
  /-- HAPTIC_RESTART (R327): A write of 1 to Haptic n Restart clears a channel fault. -/
  | hapticRestart (t : Rrp) (o : Origin) (h : Fin 8) (value : Nat)
  /-- HAPTIC_MEASURE_DUE (R341): 24 hours of raster time pass and a capacitance measurement is due at the next idle
  moment. -/
  | hapticMeasureDue (t : Rrp) (h : Fin 8)
  /-- MEASURE_REQUEST (R341): A write of Haptic n Measure Request in Service requests a capacitance measurement. -/
  | measureRequest (t : Rrp) (o : Origin) (h : Fin 8) (value : Nat)
  /-- HAPTIC_MEASURE_COMPLETE (R341): A 20 ms capacitance measurement ends, is stored and judged against the reference. -/
  | hapticMeasureComplete (t : Rrp) (h : Fin 8) (picofarad : Nat)
  /-- HAPTIC_MEASURE_RETRY (R341): 60 s after the channel is idle again an aborted measurement is retried. -/
  | hapticMeasureRetry (t : Rrp) (h : Fin 8)
  /-- AUDIO_SAMPLE (R350): At each 48 kHz sample position the router loads inputs, steps gains and controls, runs the
  program and takes outputs. -/
  | audioSample (t : Rrp) (sdin : List (List Nat))
  /-- AUDIO_NOP (R351): The audio NOP operation writes nothing. -/
  | audioNop (p : Fin 3) (i : Nat)
  /-- COPY (R351): The COPY operation writes A to DEST. -/
  | copy (p : Fin 3) (i : Nat)
  /-- MIX (R351): The MIX operation writes the saturated sum of A and B. -/
  | mix (p : Fin 3) (i : Nat)
  /-- MAC (R347): The MAC operation accumulates or writes A multiplied by a Q3.28 coefficient. -/
  | mac (p : Fin 3) (i : Nat)
  /-- GAIN_RAMP (R354): The GAIN_RAMP operation writes A times the current linear gain of its control. -/
  | gainRamp (p : Fin 3) (i : Nat)
  /-- HPF (R356): The HPF operation runs a second-order Butterworth high-pass filter on A. -/
  | hpf (p : Fin 3) (i : Nat)
  /-- DELAY (R357): The DELAY operation writes the value A had L executions earlier. -/
  | delay (p : Fin 3) (i : Nat)
  /-- SELECT (R358): The SELECT operation writes A or B by a select control or FIO input. -/
  | select (p : Fin 3) (i : Nat)
  /-- CLAMP (R351): The CLAMP operation limits A to ±c. -/
  | clamp (p : Fin 3) (i : Nat)
  /-- GAIN_TARGET_WRITE (R354): A write of Audio Gain g Target starts a ramp toward the new target at the next sample. -/
  | gainTargetWrite (t : Rrp) (o : Origin) (g : Fin 256) (value : Nat)
  /-- AUD_STREAM_ENABLE (R360): A write of AUD_CTRL with ENABLE 1 checks the buffer and starts the stream at the next
  reference frame. -/
  | audStreamEnable (t : Rrp) (sl : Fin 32) (k : Fin 64) (value : Nat)
  /-- AUD_STREAM_DISABLE (R360): A write of AUD_CTRL with ENABLE 0 stops the stream at the next sample. -/
  | audStreamDisable (t : Rrp) (sl : Fin 32) (k : Fin 64) (value : Nat)
  /-- SWAP_FADE_END (R367): A fade reaches s0 + N, the outgoing program is freed and any waiting swap begins its fade. -/
  | swapFadeEnd (t : Rrp)
  /-- MIRROR_REREAD (R376): A mirrored primary read is lost, uncorrectable or late by 2 µs, and the unit is read again
  from the shadow. -/
  | mirrorReread (t : Rrp) (addr : Nat) (cause : Fin 3) (secondFails : Bool)
  /-- DRAM_ACCESS (R384): The DRAM controller accepts a request, checks the memory division and serves it in tier order. -/
  | dramAccess (t : Rrp) (a : DramReq)
  /-- CHANNEL_GROUP_LOST (R377): A channel group's PHY faults, retraining fails or 16 reads time out in 1 ms, and the
  group is lost. -/
  | channelGroupLost (t : Rrp) (g : Fin 4)
  /-- PANIC_EVALUATE (R381): Every 0.1 µs each RT port's panic level is re-evaluated from its buffer level. -/
  | panicEvaluate (t : Rrp) (port : Fin 12) (incomplete : Bool) (linesLeft waitedNs channels : Nat)
  /-- DRAM_REFRESH (R382): A refresh interval elapses and a refresh is issued or postponed under panic level 2. -/
  | dramRefresh (t : Rrp) (ch : Fin 16)
  /-- WCK_DQ_COMPENSATION (R388): Every 1 s each channel runs WCK-to-DQ oscillator compensation. -/
  | wckDqCompensation (t : Rrp) (ch : Fin 16) (converged : Bool)
  /-- EYE_MARGIN_STEP (R388): Every 60 s each channel runs one step of eye-margin measurement, feeding the ageing
  ledger. -/
  | eyeMarginStep (t : Rrp) (ch : Fin 16) (width height : Nat) (sweepEnd : Bool)
  /-- COMB_BANK_FAULT (R393): A comb bank becomes faulty and is isolated, served from its partner or restarting the
  management core. -/
  | combBankFault (t : Rrp) (secureComb : Bool) (b : Fin 64) (corrected : Nat)
  /-- SECURE_COMB_WIPE (R396): A tamper, SEC supply or clock glitch, or life-cycle change wipes the secure comb and
  empties layer P. -/
  | secureCombWipe (t : Rrp) (cause : Nat)
  /-- ATLAS_REPLACE_COMPLETE (R397): After a glitch wipe the island places and checks the atlas again, and layer P
  returns at the next LATCH. -/
  | atlasReplaceComplete (t : Rrp)
  /-- CHK_RING_ENABLE (R415): A write of ENABLE 1 to CHK_RING_CTRL checks the ring pages and enables the check ring. -/
  | chkRingEnable (t : Rrp) (sl : Fin 32) (value : Nat)
  /-- CHK_DOORBELL (R401): A doorbell write makes check jobs available to start on owned channels. -/
  | chkDoorbell (t : Rrp) (sl : Fin 32) (tail : Nat)
  /-- CHECK_C_START (R398): A write of Check c Start starts a check on an unassigned channel or is refused BUSY. -/
  | checkCStart (t : Rrp) (o : Origin) (c : Fin 16) (desc : Bytes)
  /-- CHECK_JOB_COMPLETE (R400): A check job ends, latching its result, advancing SEQ and writing any result record. -/
  | checkJobComplete (t : Rrp) (c : Fin 16) (readError : Bool)
  /-- PERST_DEASSERT (R405): PERST# is deasserted with HOST on and the port begins link training. -/
  | perstDeassert (t : Rrp) (p : Fin 4)
  /-- CONFIG_RETRY_TIMEOUT (R405): 900 ms after PERST# deassertion without a lock the port answers configuration
  normally. -/
  | configRetryTimeout (t : Rrp) (p : Fin 4)
  /-- BAR0_ACCESS (R409): A BAR0 access is checked for size, alignment and PASID and reaches the slice window or MSI-X
  structures. -/
  | bar0Access (t : Rrp) (p : Fin 4) (off size : Nat) (data : Option Nat) (pasid : Option Nat)
  /-- BAR4_ACCESS (R410): A BAR4 access reaches DRAM as an access of a slice or of the port, checked by the memory
  division. -/
  | bar4Access (t : Rrp) (p : Fin 4) (off len : Nat) (data : Option Bytes) (pasid : Option Nat)
  /-- REGISTER_WRITE (R412): A write to a register with no row of its own updates its writable fields. -/
  | registerWrite (t : Rrp) (sp : RegSpace) (off size : Nat) (value : Option Nat)
  /-- FLIP_RING_ENABLE (R415): A write of ENABLE 1 to FLIP_RING_CTRL checks the ring pages and enables the flip ring if
  the completion queue is enabled. -/
  | flipRingEnable (t : Rrp) (sl : Fin 32) (value : Nat)
  /-- DRAIN (R418): A write of DRAIN in ACTIVE latches the ring tails and enters DRAINING. -/
  | drain (t : Rrp) (sl : Fin 32) (value : Nat)
  /-- DRAIN_DONE (R418): A draining slice's BUSY_MASK becomes 0 and it enters IDLE. -/
  | drainDone (t : Rrp) (sl : Fin 32)
  /-- RESUME (R418): A write of RESUME in DRAINING or IDLE returns the slice to ACTIVE. -/
  | resume (t : Rrp) (sl : Fin 32) (value : Nat)
  /-- RESET (R419): A write of RESET resets a quiescent slice or is refused NOT_QUIESCENT. -/
  | reset (t : Rrp) (sl : Fin 32) (value : Nat)
  /-- SLICE_FORCED_RESET (R420): A write of Slice s Forced Reset ends all the slice's work and resets it. -/
  | sliceForcedReset (t : Rrp) (o : Origin) (sl : Fin 32) (value : Nat)
  /-- FORCED_RESET_COMPLETE (R420): A forced reset finishes within 16 RL, sets RESET_DONE and returns the slice to
  ACTIVE. -/
  | forcedResetComplete (t : Rrp) (sl : Fin 32)
  /-- PORT_RESET (R421): PERST#, hot reset, FLR, link down or return from D3hot force-resets every slice of the port and
  retires its tickets. -/
  | portReset (t : Rrp) (p : Fin 4) (cause : Fin 6)
  /-- VS_POST (R201): The VS_POST secure call checks a post and copies a verified-surface frame, making it eligible on a
  matching CRC. -/
  | vsPost (t : Rrp) (sl : Fin 32)
  /-- PAGE_TRANSFER (R444): The PAGE_TRANSFER secure call atomically rewrites the owner words of a range of pages. -/
  | pageTransfer (t : Rrp) (sl : Fin 32)
  /-- PAGE_QUERY (R437): The PAGE_QUERY secure call returns the owner word of a page. -/
  | pageQuery (t : Rrp) (sl : Fin 32)
  /-- SVAR_WRITE (R437): The SVAR_WRITE secure call sets a secure variable used from the next binding cut-off. -/
  | svarWrite (t : Rrp) (sl : Fin 32)
  /-- MEASURE_EXTEND (R428): The MEASURE_EXTEND secure call extends one of MR12 to MR15 with a digest. -/
  | measureExtend (t : Rrp) (sl : Fin 32)
  /-- QUOTE (R429): The QUOTE secure call returns a signed digest of the measurement registers over a nonce. -/
  | quote (t : Rrp) (sl : Fin 32)
  /-- KEY_PROVISION (R432): The KEY_PROVISION secure call checks and applies a key record. -/
  | keyProvision (t : Rrp) (sl : Fin 32)
  /-- DIVISION_SET (R442): The DIVISION_SET secure call checks and stores a division record for the next Bring-up. -/
  | divisionSet (t : Rrp) (sl : Fin 32)
  /-- DEBUG_UNLOCK (R450): The DEBUG_UNLOCK secure call verifies a debug response and grants normal-world debug enables. -/
  | debugUnlock (t : Rrp) (sl : Fin 32)
  /-- SECURE_CALL_REPLY (R435): The island's reply is written to the secure mailbox, VALID sets, BUSY_MASK bit 13 clears
  and vector 6 is raised. -/
  | secureCallReply (t : Rrp) (sl : Fin 32)
  /-- MAILBOX_KEY_RECORD (R432): A key record arrives through the debug mailbox and is checked and applied. -/
  | mailboxKeyRecord (t : Rrp) (rec : Bytes)
  /-- MAILBOX_DIVISION_RECORD (R442): A division record arrives through the debug mailbox and is checked and stored. -/
  | mailboxDivisionRecord (t : Rrp) (rec : Bytes)
  /-- LIFE_CYCLE_TOKEN (R430): A life-cycle token through the debug mailbox changes the life-cycle fuses, wipes the
  secure comb and resets the device. -/
  | lifeCycleToken (t : Rrp) (resp : Bytes)
  /-- MAILBOX_DEBUG_RESPONSE (R451): A debug response through the debug mailbox is verified, grants enables and renews
  the challenge. -/
  | mailboxDebugResponse (t : Rrp) (resp : Bytes)
  /-- CHALLENGE_HOLDOFF_EXPIRE (R451): One second after a refused debug response a new challenge may be issued. -/
  | challengeHoldoffExpire (t : Rrp)
  /-- ISLAND_WATCHDOG_EXPIRE (R447): The secure island's watchdog goes 20 ms without service and the island is restarted
  alone. -/
  | islandWatchdogExpire (t : Rrp)
  /-- ISLAND_RESTART_COMPLETE (R447): The island's reloaded firmware matches MR1 and the island resumes, or is stopped
  on failure. -/
  | islandRestartComplete (t : Rrp) (verified : Bool) (digest : Bytes)
  /-- TAMPER_ASSERT (R517): TAMPER_N is asserted for 1 µs and starts the secure comb wipe, or is latched while SEC is
  off. -/
  | tamperAssert (t : Rrp)
  /-- MODE_REQUEST (R462): A write of Mode Request begins, aborts, replaces or refuses a mode transition. -/
  | modeRequest (t : Rrp) (path : Path) (value : Nat)
  /-- TRANSITION_COMMIT (R464): A mode transition reaches its commit point, such as the switch to or from slot 4 at a
  frame boundary. -/
  | transitionCommit (t : Rrp) (railReached trained : Bool) (delaying : List (Fin 18))
  /-- TRANSITION_COMPLETE (R463): A mode transition ends and the request in the pending slot begins or is discarded. -/
  | transitionComplete (t : Rrp)
  /-- DOMAIN_OFF_REQUEST (R458): A write of Domain Off Request in Service asks a domain's blocks to give up power. -/
  | domainOffRequest (t : Rrp) (path : Path) (d : Nat) (ready : Bool)
  /-- HANDSHAKE_RETRY (R458): Every 100 µs a block that answered DELAY is asked again. -/
  | handshakeRetry (t : Rrp) (d : Fin 18) (ready : Bool)
  /-- DELAY_LIMIT_EXPIRE (R458): A domain's Delay Limit is reached with a block still delaying, and the block is forced
  and its region isolated. -/
  | delayLimitExpire (t : Rrp) (d : Fin 18)
  /-- SWITCH_GOOD_TIMEOUT (R468): A domain's switch-good does not arrive within Power-good Timeout and is retried or the
  domain left off. -/
  | switchGoodTimeout (t : Rrp) (d : Fin 18)
  /-- POWER_GOOD (R454): A supply group's power-good rises and the next group is raised. -/
  | powerGood (g : Fin 6)
  /-- POWER_GOOD_TIMEOUT (R467): A group or the oscillator is not ready in time, and the wake sequence is retried or
  fails. -/
  | powerGoodTimeout
  /-- OSC_READY (R454): 1 024 oscillator cycles within ±1 % are counted and the oscillator is ready. -/
  | oscReady
  /-- WAKE_HOLDOFF_EXPIRE (R467): Wake Failure Holdoff passes and wake requests are accepted again. -/
  | wakeHoldoffExpire
  /-- EPO_ASSERT (R460): EPO_N is asserted and after 1 ms of notice to the island every enable drops and the device is
  Off. -/
  | epoAssert
  /-- SUPPLY_GROUP_FAIL (R460): A supply group fails while the device runs and every enable drops without notice. -/
  | supplyGroupFail (g : Fin 7)
  /-- RESET_ASSERT (R514): RESET_N held low for 10 µs resets every domain but AON and discards any transition. -/
  | resetAssert
  /-- RESET_RELEASE (R512): RESET_N is released, groups are raised and Bring-up starts with secure boot. -/
  | resetRelease (epoHigh : Bool)
  /-- BRINGUP_STEP (R457): Bring-up raises the next domains in its fixed order once the previous step is done. -/
  | bringupStep (t : Rrp) (step straps : Nat) (selfTestFails : List (Fin 8)) (clusterFails : List (Fin 12)) (sramMv : Int) (railReached : Bool)
  /-- DRAM_TRAINING_COMPLETE (R371): DRAM training ends; on success the switch to the main or reserve last follows, on
  failure Hold. -/
  | dramTrainingComplete (t : Rrp) (density : Vector Nat 4) (allPass : Bool)
  /-- WAKE_PIN (R466): A wake pin holds its active level for 1 ms and wakes the device from Watch or requests Run from
  Quiet. -/
  | wakePin (p : Fin 4) (level : Bool)
  /-- CAN0_WAKE_FRAME (R466): A CAN0 data frame with the wake COB-ID and a matching byte 0 wakes the device. -/
  | can0WakeFrame (cob : Nat) (data : Bytes)
  /-- GUARD_PERIOD (R470): The guard wakes each period, runs its table steps and takes their actions. -/
  | guardPeriod (samples : List Int)
  /-- GUARD_USDO_READ (R471): In Watch the guard's responder answers an expedited USDO read of a served entry or aborts. -/
  | guardUsdoRead (u : Usdo)
  /-- GUARD_HEARTBEAT (R471): In Watch the guard's responder sends heartbeat with NMT state stopped. -/
  | guardHeartbeat
  /-- FAULT_REPORT (R475): A detector reports a fault, opening a record for its cause key or adding an echo. -/
  | faultReport (t : Rrp) (cls inst effect : Nat)
  /-- HIVE_TOKEN_RECEIVE (R478): A TOKEN cell is received and kept for 60 s after its FIRST_RRP. -/
  | hiveTokenReceive (t : Rrp) (cell : Bytes)
  /-- HIVE_TOKEN_EXPIRE (R478): A held token reaches 60 s after its FIRST_RRP and is dropped. -/
  | hiveTokenExpire (t : Rrp) (key node : Nat)
  /-- REPORTER_DECISION (R479): At 4 RL after a hive-scope record's FIRST_RRP the device decides the reporter and sends
  EMCY if it is itself. -/
  | reporterDecision (t : Rrp) (key : Nat)
  /-- FAULT_CLEAR (R475): A record's clear condition holds and its STATE becomes clearing. -/
  | faultClear (t : Rrp) (key : Nat)
  /-- FAULT_RECORD_CLOSE (R475): A clearing record sees no report for 60 s and moves to the fault history. -/
  | faultRecordClose (t : Rrp) (key : Nat)
  /-- PATH_DELAY_EVAL (R486): Every 60 s the path-delay monitors are graded, possibly committing a worse margin class. -/
  | pathDelayEval (t : Rrp) (slacks : Vector Int 64)
  /-- OSC_DRIFT_EVAL (R486): Once a day the oscillator drift monitor is graded. -/
  | oscDriftEval (t : Rrp) (drift : Int)
  /-- PREDICTION_DAILY (R489): Once a day the months to the next class are predicted from the ledger. -/
  | predictionDaily (t : Rrp)
  /-- INSPECTION_DAY_END (R490): At a day boundary the inspection record is closed, signed by the island and stored. -/
  | inspectionDayEnd (t : Rrp) (gptpSeconds : Nat)
  /-- INSPECTION_CHECKPOINT (R490): Every 60 minutes the open inspection record is checkpointed to flash. -/
  | inspectionCheckpoint (t : Rrp)
  /-- UPDATE_LOAD_COMPLETE (R499): A loaded Plovram image is checked in order and its bank becomes valid or refused. -/
  | updateLoadComplete (t : Rrp)
  /-- UPDATE_ACTIVATION_FRAME (R502): A write of Update Activation Frame schedules an activation at a target frame or is
  refused. -/
  | updateActivationFrame (t : Rrp) (o : Origin) (value : Nat)
  /-- UPDATE_ACTIVATION_TIME (R502): A write of Update Activation Time converts a gPTP time to a frame and schedules an
  activation. -/
  | updateActivationTime (t : Rrp) (o : Origin) (value : Nat)
  /-- UPDATE_ACTIVATE (R503): At (F, 0, 0) the device selects the inactive bank on trial and resets into a full Bring-up
  from it. -/
  | updateActivate (t : Rrp)
  /-- UPDATE_CONFIRM (R505): A write of 1 to Update Confirm in Run or Degraded confirms the image on trial. -/
  | updateConfirm (t : Rrp) (o : Origin) (value : Nat)
  /-- CONFIRMATION_TIMEOUT (R506): Confirmation Frames pass without a confirmation and the device falls back with
  NOT_CONFIRMED. -/
  | confirmationTimeout (t : Rrp)
  /-- NO_SERVICE_TIMEOUT (R506): Bring-up of a trial image does not reach Run, Degraded or Hold within 10 s and the
  device falls back. -/
  | noServiceTimeout
  /-- OVER_TEMPERATURE (R522): A sensor reads above 110 °C, a fault is recorded and EMCY 0x4200 sent. -/
  | overTemperature (t : Rrp) (sensor : Nat) (centi : Int)
  /-- THERMAL_TRIP (R522): A sensor reads 120 °C or more for 1 ms and the device acts as on EPO_N. -/
  | thermalTrip
  /-- DIE_LINK_RESTORED (R297): The die link returns after a loss; field inputs and channels leave the unknown state and
  touch channels start again with a start scan. -/
  | dieLinkRestored (t : Rrp)
  /-- AON_POWER_ON_RESET (R512): VDD_AON and VIO_AON33 come within tolerance, AON leaves its power-on reset and, if
  EPO_N is high, the groups FLD to DRAM are raised. -/
  | aonPowerOnReset (epoHigh : Bool)
  /-- TRIP_COOL_DOWN (R522): After a thermal trip every sensor reads below 105 °C, and step 1 of Bring-up may proceed. -/
  | tripCoolDown
  /-- PORT_LINK_UP (R405): PCIe link training of a port completes and Port p Link State becomes up with its speed and
  width. -/
  | portLinkUp (t : Rrp) (p : Fin 4) (speed width : Nat)
  /-- PCIE_CONFIG_REQUEST (R405): A PCIe configuration request is answered with Configuration Request Retry Status
  before the lock, or normally after it. -/
  | pcieConfigRequest (t : Rrp) (p : Fin 4) (field : CfgField) (data : Option Nat)
  /-- CAPTURE_SIGNAL_CHANGE (R273): A source on DPI0 or DPI1 appears, trains, changes timing or is lost, and Capture
  Input State and Capture Timing change. -/
  | captureSignalChange (t : Rrp) (i : Fin 2) (signal : Sent) (width height mhz : Nat)
  /-- EMCY_INHIBIT_EXPIRE (R477): The EMCY inhibit time of 0x1015 runs out and a held EMCY is sent. -/
  | emcyInhibitExpire (t : Rrp) (node : Nat)
  /-- SUPPLY_OUT_OF_RANGE (R482): An internal supply monitor leaves its range, a class 0x71 fault is recorded and EMCY
  0x3200 is sent. -/
  | supplyOutOfRange (t : Rrp) (inst : Nat)
  /-- CAN_ERROR_STATE_CHANGE (R48): A CAN controller overruns, enters error passive or recovers from bus-off, and the
  EMCY of Table 2-9 is sent. -/
  | canErrorStateChange (t : Rrp) (bus : Fin 2) (what : Fin 3)
  deriving DecidableEq, Repr

end Sys2Proof
end

