-- ==== Sys2Proof/WellFormed.lean ====
section
/-! DEFINITION. Which commands are well formed: every operand fits the field that the spec gives it (R3, R4, R59, Tables 2-3 and
3-8). The machine gives every command a meaning; well-formedness says which of them the hardware's interfaces can bring. -/

namespace Sys2Proof

/-- The longest byte string that an event brings: a stream of bytes beyond it comes in parts. -/
def maxBytes : Nat := 65536

/-- An RRP fits its 64-bit code (R59): frame 32 bits, line and phase 16 bits each. -/
def rrpFits (t : Rrp) : Bool := t.frame < 2 ^ 32 && t.line < 2 ^ 16 && t.phase < 2 ^ 16

/-- An origin: an address of at most 128 bits and a UDP port. -/
def originFits (o : Origin) : Bool := o.addr < 2 ^ 128 && o.port < 2 ^ 16

/-- A message fits the header of Table 2-3 and carries at most 1 024 bytes more than a segment's offset. -/
def msgFits (m : Msg) : Bool :=
  m.version < 2 ^ 8 && m.op < 2 ^ 8 && m.node < 2 ^ 8 && m.sub < 2 ^ 8 && m.index < 2 ^ 16 && m.length < 2 ^ 16 &&
    m.seq < 2 ^ 32 && m.status < 2 ^ 32 && m.payload.length ≤ maxBytes && m.mac.length ≤ 16

/-- A USDO transfer: node, index, subindex and data. -/
def usdoFits (u : Usdo) : Bool := u.node < 2 ^ 8 && u.index < 2 ^ 16 && u.sub < 2 ^ 8 && u.data.length ≤ maxBytes

/-- An integer of 64 bits. -/
def intFits (i : Int) : Bool := decide (-(2 ^ 63) ≤ i) && decide (i < 2 ^ 63)

/-- A picture's numbers. -/
def pictureFits (p : Picture) : Bool := p.width < 2 ^ 16 && p.height < 2 ^ 16 && p.level < 2 ^ 8 && intFits p.poc && p.maxRefs < 2 ^ 8

/-- An optional number of w bits. -/
def optFits (w : Nat) (v : Option Nat) : Bool :=
  match v with
  | some n => n < 2 ^ w
  | none => true

/-- An optional byte string. -/
def optBytesFits (v : Option Bytes) : Bool :=
  match v with
  | some b => b.length ≤ maxBytes
  | none => true

/-- A list of 32-bit numbers. -/
def listFits (xs : List Nat) : Bool := xs.length ≤ maxBytes && xs.all fun n => n < 2 ^ 32

/-- What a source sends: fields of 16 bits, a pixel clock of 32. -/
def sentFits : Sent → Bool
  | .stream rate lanes _ bpc khz => rate < 2 ^ 16 && lanes < 2 ^ 8 && bpc < 2 ^ 8 && khz < 2 ^ 32
  | _ => true

/-- A primitive: its lists, and tiles of a target of at most 8 192 pixels a side. -/
def primFits (q : Prim) : Bool := q.bytes < 2 ^ 40 && q.tiles.all fun e => e.1 < 256 && e.2 < 256

/-- Two 32-bit numbers. -/
def pairFits (e : Nat × Nat) : Bool := e.1 < 2 ^ 32 && e.2 < 2 ^ 32

/-- A line and a span of columns. -/
def spanFits (e : Nat × Nat × Nat) : Bool := e.1 < 2 ^ 16 && e.2.1 < 2 ^ 16 && e.2.2 < 2 ^ 16

/-- A line of captured pixels. -/
def rowFits (r : List Rgb) : Bool := r.length ≤ maxBytes && r.all fun p => p.r < 2 ^ 16 && p.g < 2 ^ 16 && p.b < 2 ^ 16

/-- A plan's number and the counts of its nodes. -/
def countFits (e : Nat × List Nat) : Bool := e.1 < 2 ^ 8 && listFits e.2

/-- A DRAM request: a 40-bit address and an 8-bit requester code. -/
def dramReqFits (q : DramReq) : Bool :=
  q.requester < 2 ^ 8 && q.addr < 2 ^ 40 && q.len ≤ maxBytes && optBytesFits q.data && q.corrected < 2 ^ 32

/-- A configuration space offset of 4 096 bytes. -/
def cfgFits (f : CfgField) : Bool :=
  match f with
  | .other off => off < 4096
  | _ => true

/-- A command whose every operand fits. -/
def Instr.wf (i : Instr) : Bool :=
  match i with
  | .dieLinkTransfer t crcFails => rrpFits t && crcFails < 2 ^ 8
  | .dieLinkLoss t => rrpFits t
  | .mgmtCoreRestart t => rrpFits t
  | .mgmtRestartComplete t => rrpFits t
  | .regionIsolate t _ => rrpFits t
  | .timebaseCopyFault t => rrpFits t
  | .read t o m => rrpFits t && originFits o && msgFits m
  | .write t o m _ => rrpFits t && originFits o && msgFits m
  | .ticket t o m => rrpFits t && originFits o && msgFits m
  | .readSeg t o m => rrpFits t && originFits o && msgFits m
  | .writeSeg t o m => rrpFits t && originFits o && msgFits m
  | .writeSegEnd t o m _ => rrpFits t && originFits o && msgFits m
  | .forwardTimeout t msgNo => rrpFits t && msgNo < 2 ^ 32
  | .accessFinal t ticketNo => rrpFits t && ticketNo < 2 ^ 32
  | .ticketExpire t ticketNo => rrpFits t && ticketNo < 2 ^ 32
  | .sourceIdleDrop t addr port => rrpFits t && addr < 2 ^ 128 && port < 2 ^ 16
  | .mbxSubmit t _ _ => rrpFits t
  | .mbxReplyReady t _ => rrpFits t
  | .mbxAck t _ => rrpFits t
  | .svcFrame t wire _ => rrpFits t && wire.length ≤ maxBytes
  | .usdoRequest t u _ => rrpFits t && usdoFits u
  | .nmtStart t _ node => rrpFits t && node < 2 ^ 8
  | .nmtStop t _ node => rrpFits t && node < 2 ^ 8
  | .nmtPreOperational t _ node => rrpFits t && node < 2 ^ 8
  | .nmtResetNode t _ node => rrpFits t && node < 2 ^ 8
  | .nmtResetCommunication t _ node => rrpFits t && node < 2 ^ 8
  | .rpdoReceive t _ _ data => rrpFits t && data.length ≤ maxBytes
  | .rpdoTimeout t _ => rrpFits t
  | .tpdoSend t _ => rrpFits t
  | .syncProduce t => rrpFits t
  | .heartbeatSend t => rrpFits t
  | .emcyProxy t node emcy => rrpFits t && node < 2 ^ 8 && emcy.length ≤ maxBytes
  | .refsyncDatum t _ gptpN => rrpFits t && gptpN < 2 ^ 32
  | .refsyncDatumMissing t => rrpFits t
  | .ptpSyncReceive t port _ _ _ hops grandmaster n err =>
    rrpFits t && port.ptpDomain < 2 ^ 8 && hops < 2 ^ 16 && grandmaster < 2 ^ 64 && n < 2 ^ 32 && intFits err
  | .ptpSourceLost t => rrpFits t
  | .hiveTimingReceive t _ cell => rrpFits t && cell.length = 32
  | .hiveTimingTimeout t _ => rrpFits t
  | .sourceDwellExpire t src => rrpFits t && src < 2 ^ 8
  | .timebaseLocked t => rrpFits t
  | .acquisitionTimeout t => rrpFits t
  | .frameBoundary t _ => rrpFits t
  | .fioInputChange t _ _ first => rrpFits t && rrpFits first
  | .hiveCellReceive t _ cell entered => rrpFits t && cell.length = 32 && originFits entered.origin
  | .hiveLaneFail t _ _ _ => rrpFits t
  | .hiveTimingSend t => rrpFits t
  | .hiveDelayExchange t _ roundTrip turnaround => rrpFits t && roundTrip < 2 ^ 64 && turnaround < 2 ^ 64
  | .enumSend t => rrpFits t
  | .enumReceive t cell => rrpFits t && cell.length = 32
  | .barrierArm t cell => rrpFits t && cell.length = 32
  | .barrierDecide t => rrpFits t
  | .barrierCommit t cell => rrpFits t && cell.length = 32
  | .barrierAbort t cell => rrpFits t && cell.length = 32
  | .barrierDeadline t => rrpFits t
  | .latch t _ _ => rrpFits t
  | .gpuWindow t _ set len => rrpFits t && set < 2 ^ 8 && len < 2 ^ 64
  | .gpuWindowClose t _ => rrpFits t
  | .dramWindow t set => rrpFits t && set < 2 ^ 8
  | .touchBurst t _ plan => rrpFits t && plan < 2 ^ 8
  | .freqChange t rate => rrpFits t && rate < 2 ^ 8
  | .freqChangeComplete t _ _ => rrpFits t
  | .checkStart t _ plan => rrpFits t && plan < 2 ^ 8
  | .contractViolation t item measure => rrpFits t && item < 2 ^ 16 && measure < 2 ^ 64
  | .lastLoadComplete t _ => rrpFits t
  | .lastSwitchRequest t o value => rrpFits t && originFits o && value < 2 ^ 64
  | .lastSwitchArm t => rrpFits t
  | .lastSwitchExecute t _ => rrpFits t
  | .marginSwitch t _ => rrpFits t
  | .flipDoorbell t _ tail => rrpFits t && tail < 2 ^ 32
  | .flipcReadWrite t _ value => rrpFits t && value < 2 ^ 64
  | .matrixCommit t o _ _ value => rrpFits t && originFits o && value < 2 ^ 64
  | .bandComplete t _ band _ _ => rrpFits t && band < 2 ^ 16
  | .bandDeadline t _ band _ spans => rrpFits t && band < 2 ^ 16 && spans.all spanFits
  | .scanoutLine t _ k badWords corrupt => rrpFits t && k < 2 ^ 16 && listFits badWords && corrupt.all pairFits
  | .flattenPassComplete t _ => rrpFits t
  | .releaseFenceWrite t => rrpFits t
  | .offscreenComplete t => rrpFits t
  | .recordFrameComplete t _ => rrpFits t
  | .bindingCutoff t _ => rrpFits t
  | .cellTimeout t _ _ => rrpFits t
  | .cellBlinkToggle t _ _ => rrpFits t
  | .surfaceAgeExpire t _ _ => rrpFits t
  | .protectedCrcCompare t _ => rrpFits t
  | .healthyRelease t _ => rrpFits t
  | .healthyAssert t _ => rrpFits t
  | .pairRearm t o _ value => rrpFits t && originFits o && value < 2 ^ 64
  | .hpdPlug t _ => rrpFits t
  | .hpdUnplug t _ => rrpFits t
  | .irqHpd t _ status => rrpFits t && status.length ≤ maxBytes
  | .linkTrainingComplete t _ caps edid fails =>
    rrpFits t && caps.length ≤ maxBytes && edid.length ≤ maxBytes && fails.all pairFits
  | .linkTrainingRetry t _ => rrpFits t
  | .auxRequest t o _ req => rrpFits t && originFits o && req.length ≤ maxBytes
  | .auxReply t _ status data symbolErrors => rrpFits t && status < 2 ^ 8 && data.length ≤ maxBytes && symbolErrors < 2 ^ 32
  | .phyFault t _ => rrpFits t
  | .phyRetry t _ _ => rrpFits t
  | .immediateEnable t o _ value => rrpFits t && originFits o && value < 2 ^ 64
  | .immediateDescriptor t o _ desc => rrpFits t && originFits o && desc.length ≤ maxBytes
  | .testPattern t o _ value => rrpFits t && originFits o && value < 2 ^ 64
  | .gpuRingEnable t _ value => rrpFits t && value < 2 ^ 64
  | .gpuDoorbell t _ tail => rrpFits t && tail < 2 ^ 32
  | .nop t _ => rrpFits t
  | .bindProgram t _ => rrpFits t
  | .bindResources t _ => rrpFits t
  | .setTarget t _ => rrpFits t
  | .setState t _ => rrpFits t
  | .draw t _ prims _ => rrpFits t && prims.all primFits
  | .drawIndexed t _ prims _ => rrpFits t && prims.all primFits
  | .dispatch t _ _ => rrpFits t
  | .traceRays t _ _ => rrpFits t
  | .endPass t _ => rrpFits t
  | .barrier t _ => rrpFits t
  | .waitMem t _ => rrpFits t
  | .waitMemSatisfied t _ => rrpFits t
  | .writeMem t _ => rrpFits t
  | .hittestScene t _ => rrpFits t
  | .gpuJobComplete t _ => rrpFits t
  | .preemptGraceExpire t _ => rrpFits t
  | .clusterSaveComplete t _ => rrpFits t
  | .clusterFault t _ _ => rrpFits t
  | .compositorJobIssue t _ => rrpFits t
  | .captureFrameStart t _ => rrpFits t
  | .captureFrameComplete t _ bpc pixels => rrpFits t && bpc < 2 ^ 8 && pixels.all rowFits
  | .captureEdidWrite t o _ data => rrpFits t && originFits o && data.length ≤ maxBytes
  | .captureHpdRestore t _ => rrpFits t
  | .decRingEnable t _ value => rrpFits t && value < 2 ^ 64
  | .decDoorbell t _ tail => rrpFits t && tail < 2 ^ 32
  | .decoderJobComplete t _ p => rrpFits t && pictureFits p
  | .rtpPacket t _ group udpPort rtp => rrpFits t && group < 2 ^ 32 && udpPort < 2 ^ 16 && rtp.length ≤ maxBytes
  | .feedPictureComplete t _ p => rrpFits t && pictureFits p
  | .feedEnable t o _ value => rrpFits t && originFits o && value < 2 ^ 64
  | .feedHoldExpire t _ => rrpFits t
  | .touchSlotEnd t _ counts => rrpFits t && counts.all countFits
  | .touchFrameComplete t _ => rrpFits t
  | .touchStartScan t _ => rrpFits t
  | .startScanComplete t _ nodes txSelf rxSelf => rrpFits t && listFits nodes && listFits txSelf && listFits rxSelf
  | .touchStepDown t _ => rrpFits t
  | .suspectHoldExpire t _ node => rrpFits t && node < 2 ^ 8
  | .contactStale t _ _ => rrpFits t
  | .touchChannelLost t _ => rrpFits t
  | .touchRingEnable t _ value => rrpFits t && value < 2 ^ 64
  | .touchSelfTestRequest t o _ value => rrpFits t && originFits o && value < 2 ^ 64
  | .touchSelfTestComplete t _ => rrpFits t
  | .captureReference t o _ value => rrpFits t && originFits o && value < 2 ^ 64
  | .captureReferenceComplete t _ => rrpFits t
  | .vt40Counts t _ wire => rrpFits t && wire.length ≤ maxBytes
  | .vt40Status t _ wire => rrpFits t && wire.length ≤ maxBytes
  | .vt40Identity t _ wire roundTripNs => rrpFits t && wire.length ≤ maxBytes && roundTripNs < 2 ^ 32
  | .vt40LinkLost t _ => rrpFits t
  | .vt40IdentifyRetry t _ => rrpFits t
  | .hapticPinTrigger t _ _ residual => rrpFits t && residual < 2 ^ 16
  | .hapticTrigger t _ value residual => rrpFits t && value < 2 ^ 64 && residual < 2 ^ 16
  | .hapticNTrigger t o _ value residual => rrpFits t && originFits o && value < 2 ^ 64 && residual < 2 ^ 16
  | .mergeStart t _ => rrpFits t
  | .effectEnd t _ => rrpFits t
  | .brakeEnd t _ => rrpFits t
  | .brakeTimeout t _ => rrpFits t
  | .hapticFault t _ cause => rrpFits t && cause < 2 ^ 8
  | .hapticRestart t o _ value => rrpFits t && originFits o && value < 2 ^ 64
  | .hapticMeasureDue t _ => rrpFits t
  | .measureRequest t o _ value => rrpFits t && originFits o && value < 2 ^ 64
  | .hapticMeasureComplete t _ picofarad => rrpFits t && picofarad < 2 ^ 32
  | .hapticMeasureRetry t _ => rrpFits t
  | .audioSample t sdin => rrpFits t && sdin.all listFits
  | .audioNop _ i => i < 2 ^ 16
  | .copy _ i => i < 2 ^ 16
  | .mix _ i => i < 2 ^ 16
  | .mac _ i => i < 2 ^ 16
  | .gainRamp _ i => i < 2 ^ 16
  | .hpf _ i => i < 2 ^ 16
  | .delay _ i => i < 2 ^ 16
  | .select _ i => i < 2 ^ 16
  | .clamp _ i => i < 2 ^ 16
  | .gainTargetWrite t o _ value => rrpFits t && originFits o && value < 2 ^ 64
  | .audStreamEnable t _ _ value => rrpFits t && value < 2 ^ 64
  | .audStreamDisable t _ _ value => rrpFits t && value < 2 ^ 64
  | .swapFadeEnd t => rrpFits t
  | .mirrorReread t addr _ _ => rrpFits t && addr < 2 ^ 64
  | .dramAccess t a => rrpFits t && dramReqFits a
  | .channelGroupLost t _ => rrpFits t
  | .panicEvaluate t _ _ linesLeft waitedNs channels =>
    rrpFits t && linesLeft < 2 ^ 16 && waitedNs < 2 ^ 32 && channels < 2 ^ 16
  | .dramRefresh t _ => rrpFits t
  | .wckDqCompensation t _ _ => rrpFits t
  | .eyeMarginStep t _ width height _ => rrpFits t && width < 2 ^ 16 && height < 2 ^ 16
  | .combBankFault t _ _ corrected => rrpFits t && corrected < 2 ^ 32
  | .secureCombWipe t cause => rrpFits t && cause < 2 ^ 8
  | .atlasReplaceComplete t => rrpFits t
  | .chkRingEnable t _ value => rrpFits t && value < 2 ^ 64
  | .chkDoorbell t _ tail => rrpFits t && tail < 2 ^ 32
  | .checkCStart t o _ desc => rrpFits t && originFits o && desc.length ≤ maxBytes
  | .checkJobComplete t _ _ => rrpFits t
  | .perstDeassert t _ => rrpFits t
  | .configRetryTimeout t _ => rrpFits t
  | .bar0Access t _ off size data pasid => rrpFits t && off < 2 ^ 64 && size < 2 ^ 32 && optFits 64 data && optFits 20 pasid
  | .bar4Access t _ off len data pasid => rrpFits t && off < 2 ^ 64 && len < 2 ^ 64 && optBytesFits data && optFits 20 pasid
  | .registerWrite t _ off size value => rrpFits t && off < 2 ^ 64 && size < 2 ^ 32 && optFits 64 value
  | .flipRingEnable t _ value => rrpFits t && value < 2 ^ 64
  | .drain t _ value => rrpFits t && value < 2 ^ 64
  | .drainDone t _ => rrpFits t
  | .resume t _ value => rrpFits t && value < 2 ^ 64
  | .reset t _ value => rrpFits t && value < 2 ^ 64
  | .sliceForcedReset t o _ value => rrpFits t && originFits o && value < 2 ^ 64
  | .forcedResetComplete t _ => rrpFits t
  | .portReset t _ _ => rrpFits t
  | .vsPost t _ => rrpFits t
  | .pageTransfer t _ => rrpFits t
  | .pageQuery t _ => rrpFits t
  | .svarWrite t _ => rrpFits t
  | .measureExtend t _ => rrpFits t
  | .quote t _ => rrpFits t
  | .keyProvision t _ => rrpFits t
  | .divisionSet t _ => rrpFits t
  | .debugUnlock t _ => rrpFits t
  | .secureCallReply t _ => rrpFits t
  | .mailboxKeyRecord t rec => rrpFits t && rec.length ≤ maxBytes
  | .mailboxDivisionRecord t rec => rrpFits t && rec.length ≤ maxBytes
  | .lifeCycleToken t resp => rrpFits t && resp.length ≤ maxBytes
  | .mailboxDebugResponse t resp => rrpFits t && resp.length ≤ maxBytes
  | .challengeHoldoffExpire t => rrpFits t
  | .islandWatchdogExpire t => rrpFits t
  | .islandRestartComplete t _ digest => rrpFits t && digest.length ≤ maxBytes
  | .tamperAssert t => rrpFits t
  | .modeRequest t _ value => rrpFits t && value < 2 ^ 64
  | .transitionCommit t _ _ delaying => rrpFits t && delaying.length ≤ maxBytes
  | .transitionComplete t => rrpFits t
  | .domainOffRequest t _ d _ => rrpFits t && d < 2 ^ 8
  | .handshakeRetry t _ _ => rrpFits t
  | .delayLimitExpire t _ => rrpFits t
  | .switchGoodTimeout t _ => rrpFits t
  | .powerGood _ => true
  | .powerGoodTimeout => true
  | .oscReady => true
  | .wakeHoldoffExpire => true
  | .epoAssert => true
  | .supplyGroupFail _ => true
  | .resetAssert => true
  | .resetRelease _ => true
  | .bringupStep t step straps selfTestFails clusterFails sramMv _ =>
    rrpFits t && step < 2 ^ 8 && straps < 2 ^ 16 && selfTestFails.length ≤ maxBytes && clusterFails.length ≤ maxBytes && intFits sramMv
  | .dramTrainingComplete t density _ => rrpFits t && listFits density.toList
  | .wakePin _ _ => true
  | .can0WakeFrame cob data => cob < 2 ^ 32 && data.length ≤ maxBytes
  | .guardPeriod samples => samples.all intFits
  | .guardUsdoRead u => usdoFits u
  | .guardHeartbeat => true
  | .faultReport t cls inst effect => rrpFits t && cls < 2 ^ 8 && inst < 2 ^ 16 && effect < 2 ^ 8
  | .hiveTokenReceive t cell => rrpFits t && cell.length = 32
  | .hiveTokenExpire t key node => rrpFits t && key < 2 ^ 32 && node < 2 ^ 8
  | .reporterDecision t key => rrpFits t && key < 2 ^ 32
  | .faultClear t key => rrpFits t && key < 2 ^ 32
  | .faultRecordClose t key => rrpFits t && key < 2 ^ 32
  | .pathDelayEval t slacks => rrpFits t && slacks.toList.all intFits
  | .oscDriftEval t drift => rrpFits t && intFits drift
  | .predictionDaily t => rrpFits t
  | .inspectionDayEnd t gptpSeconds => rrpFits t && gptpSeconds < 2 ^ 64
  | .inspectionCheckpoint t => rrpFits t
  | .updateLoadComplete t => rrpFits t
  | .updateActivationFrame t o value => rrpFits t && originFits o && value < 2 ^ 64
  | .updateActivationTime t o value => rrpFits t && originFits o && value < 2 ^ 64
  | .updateActivate t => rrpFits t
  | .updateConfirm t o value => rrpFits t && originFits o && value < 2 ^ 64
  | .confirmationTimeout t => rrpFits t
  | .noServiceTimeout => true
  | .overTemperature t sensor centi => rrpFits t && sensor < 2 ^ 8 && intFits centi
  | .thermalTrip => true
  | .dieLinkRestored t => rrpFits t
  | .aonPowerOnReset _ => true
  | .tripCoolDown => true
  | .portLinkUp t _ speed width => rrpFits t && speed < 2 ^ 8 && width < 2 ^ 16
  | .pcieConfigRequest t _ field data => rrpFits t && cfgFits field && optFits 64 data
  | .captureSignalChange t _ signal width height mhz =>
    rrpFits t && sentFits signal && width < 2 ^ 16 && height < 2 ^ 16 && mhz < 2 ^ 16
  | .emcyInhibitExpire t node => rrpFits t && node < 2 ^ 8
  | .supplyOutOfRange t inst => rrpFits t && inst < 2 ^ 16
  | .canErrorStateChange t _ _ => rrpFits t

end Sys2Proof
end

