-- ==== Sys2Proof/Decode.lean ====
section
/-! DEFINITION. The decoder's view of the opcode table. The block fetches no instruction words: its commands are events, and
spec/opcode_table.json gives no row any bits. No word therefore spells a command. -/

namespace Sys2Proof

/-- The command that a word of the opcode table spells: none, since no row of the table has bits. -/
def decodeTableWord (_nbits _w : Nat) : Option Instr := none

end Sys2Proof
end

