-- ==== Sys2Proof/Machine/Bits.lean ====
section
/-! DEFINITION. Byte strings as little-endian numbers (R4), bit fields (R3), two's complement, and list helpers that the
machine's tables use. -/

namespace Sys2Proof.Machine

/-- The field [hi:lo] of a number (R3). -/
def bits (n hi lo : Nat) : Nat := n / 2 ^ lo % 2 ^ (hi + 1 - lo)

/-- Bit i of a number. -/
def bit (n i : Nat) : Bool := n / 2 ^ i % 2 = 1

/-- A number with bit i set to b. -/
def setBit (n i : Nat) (b : Bool) : Nat :=
  if bit n i = b then n else if b then n + 2 ^ i else n - 2 ^ i

/-- A Bool as the number 0 or 1. -/
def b2n (b : Bool) : Nat := if b then 1 else 0

/-- The bits of n that the mask m keeps. -/
def andMask (n m : Nat) : Nat := Nat.land n m

/-- A byte string as a little-endian number (R4). -/
def leNat : Bytes → Nat
  | [] => 0
  | b :: bs => b.toNat + 256 * leNat bs

/-- A byte string as a big-endian number (fields of external standards, R4). -/
def beNat (bs : Bytes) : Nat := bs.foldl (fun a b => a * 256 + b.toNat) 0

/-- The low k bytes of n, little-endian (R4). -/
def leBytes : Nat → Nat → Bytes
  | 0, _ => []
  | k + 1, n => BitVec.ofNat 8 n :: leBytes k (n / 256)

/-- The low k bytes of n, big-endian. -/
def beBytes (k n : Nat) : Bytes := (leBytes k n).reverse

/-- len bytes from offset off; missing bytes are absent. -/
def sub (bs : Bytes) (off len : Nat) : Bytes := (bs.drop off).take len

/-- The little-endian number of k bytes at offset off; bytes beyond the end count as zero. -/
def getLe (k : Nat) (bs : Bytes) (off : Nat) : Nat := leNat (sub bs off k)

/-- One byte at an offset, zero beyond the end. -/
def u8 (bs : Bytes) (off : Nat) : Nat := getLe 1 bs off
/-- A 16-bit little-endian number at an offset. -/
def u16 (bs : Bytes) (off : Nat) : Nat := getLe 2 bs off
/-- A 32-bit little-endian number at an offset. -/
def u32 (bs : Bytes) (off : Nat) : Nat := getLe 4 bs off
/-- A 64-bit little-endian number at an offset. -/
def u64 (bs : Bytes) (off : Nat) : Nat := getLe 8 bs off

/-- Whether the len bytes at off are all zero (a reserved field, R6). -/
def zeros (bs : Bytes) (off len : Nat) : Bool := getLe len bs off = 0

/-- k zero bytes. -/
def zeroBytes (k : Nat) : Bytes := List.replicate k 0

/-- The string bs padded with zero bytes, or cut, to k bytes. -/
def padTo (k : Nat) (bs : Bytes) : Bytes := (bs ++ zeroBytes (k - bs.length)).take k

/-- Bytes with new at offset off in place of what stood there; the string grows with zeros where it has to. -/
def patchBytes (bs : Bytes) (off : Nat) (new : Bytes) : Bytes :=
  padTo off bs ++ new ++ bs.drop (off + new.length)

/-- ASCII bytes of a string. -/
def ascii (s : String) : Bytes := s.toList.map fun c => BitVec.ofNat 8 c.toNat

/-- The w-bit two's complement number n as an integer. -/
def sint (w n : Nat) : Int :=
  let m := n % 2 ^ w
  if m < 2 ^ (w - 1) then (m : Int) else (m : Int) - (2 ^ w : Nat)

/-- The w-bit two's complement code of an integer. -/
def ofSint (w : Nat) (i : Int) : Nat := (i % ((2 ^ w : Nat) : Int)).toNat

/-- An integer held to the range lo to hi. -/
def clampInt (lo hi i : Int) : Int := if i < lo then lo else if hi < i then hi else i

/-- Rounding an integer quotient to the nearest, halves upward. -/
def divRound (a b : Int) : Int := (2 * a + b).fdiv (2 * b)

/-- The list with element i changed by f; unchanged where i lies beyond its end. -/
def listUpd {α : Type} : List α → Nat → (α → α) → List α
  | [], _, _ => []
  | x :: xs, 0, f => f x :: xs
  | x :: xs, i + 1, f => x :: listUpd xs i f

/-- The elements of a list with their positions. -/
def enumFrom {α : Type} : Nat → List α → List (Nat × α)
  | _, [] => []
  | k, x :: xs => (k, x) :: enumFrom (k + 1) xs

/-- The numbers a to a + n - 1. -/
def rangeFrom : Nat → Nat → List Nat
  | _, 0 => []
  | a, n + 1 => a :: rangeFrom (a + 1) n

/-- A vector with element i changed by f. -/
def vecUpd {α : Type} {n : Nat} (v : Vector α n) (i : Fin n) (f : α → α) : Vector α n := v.set i (f v[i])

/-- The positions of a vector, in order. -/
def allFin (n : Nat) : List (Fin n) := List.finRange n

/-- Insertion of an element into a list ordered by key; equal keys keep their order. -/
def insertBy {α : Type} (key : α → Nat) (x : α) : List α → List α
  | [] => [x]
  | y :: ys => if key x < key y then x :: y :: ys else y :: insertBy key x ys

/-- A list in rising order of key; equal keys keep their order. -/
def sortBy {α : Type} (key : α → Nat) (xs : List α) : List α := xs.foldl (fun acc x => insertBy key x acc) []

/-- The integer square root of n, found bit by bit from bit k down. -/
def isqrtBits : Nat → Nat → Nat → Nat
  | 0, _, r => r
  | k + 1, n, r => let r' := r + 2 ^ k; isqrtBits k n (if r' * r' ≤ n then r' else r)

end Sys2Proof.Machine
end

