-- ==== Sys2Proof/Machine/Float.lean ====
section
/-! DEFINITION. IEEE 754 binary16 and binary32 (R247, R248, R265, R268): their bit patterns, and sums and products rounded to
nearest, ties to even. -/

namespace Sys2Proof.Machine

/-- A floating-point datum: not a number, an infinity, or ±m·2^e. neg is its sign. -/
inductive Fl where
  | nan
  | inf (neg : Bool)
  | fin (neg : Bool) (m : Nat) (e : Int)
  deriving DecidableEq, Repr

/-- The datum of a bit pattern with k exponent bits and p - 1 fraction bits. -/
def flOf (k p w : Nat) : Fl :=
  let neg := bit w (k + p - 1)
  let e := w / 2 ^ (p - 1) % 2 ^ k
  let f := w % 2 ^ (p - 1)
  let least : Int := 3 - 2 ^ (k - 1) - p
  if e = 2 ^ k - 1 then (if f = 0 then .inf neg else .nan)
  else if e = 0 then .fin neg f least
  else .fin neg (2 ^ (p - 1) + f) (least + e - 1)

/-- A binary16 and a binary32 datum. -/
def f16 (w : Nat) : Fl := flOf 5 11 w
def f32 (w : Nat) : Fl := flOf 8 24 w

/-- m divided by 2^j, rounded to nearest, ties to even. -/
def shiftEven (m j : Nat) : Nat :=
  let q := m / 2 ^ j
  let r := m % 2 ^ j
  if 2 * r < 2 ^ j then q else if 2 ^ j < 2 * r then q + 1 else q + q % 2

/-- A datum rounded to p bits of precision with k exponent bits, nearest, ties to even. -/
def roundFl (k p : Nat) : Fl → Fl
  | .nan => .nan
  | .inf s => .inf s
  | .fin s m e =>
    let least : Int := 3 - 2 ^ (k - 1) - p
    let e' := max (e + (if m = 0 then 0 else Nat.log2 m + 1) - p) least
    let q := if e' ≤ e then m * 2 ^ (e - e').toNat else shiftEven m (e' - e).toNat
    if q ≠ 0 && 2 ^ (k - 1) ≤ (Nat.log2 q : Int) + e' then .inf s else .fin s q e'

/-- The bit pattern of a datum that the format holds; a NaN takes the pattern given. -/
def flBits (k p nan : Nat) : Fl → Nat
  | .nan => nan
  | .inf s => b2n s * 2 ^ (k + p - 1) + (2 ^ k - 1) * 2 ^ (p - 1)
  | .fin s m e =>
    let least : Int := 3 - 2 ^ (k - 1) - p
    let up := m * 2 ^ (e - least).toNat
    let j := Nat.log2 up + 1 - p
    b2n s * 2 ^ (k + p - 1) + (if up < 2 ^ (p - 1) then up else j * 2 ^ (p - 1) + up / 2 ^ j)

/-- A sum of two exact data. -/
def addFl : Fl → Fl → Fl
  | .nan, _ => .nan
  | _, .nan => .nan
  | .inf s, .inf t => if s = t then .inf s else .nan
  | .inf s, _ => .inf s
  | _, .inf t => .inf t
  | .fin s m e, .fin t n f =>
    let g := min e f
    let a : Int := (if s then -1 else 1) * (m * 2 ^ (e - g).toNat : Nat)
    let b : Int := (if t then -1 else 1) * (n * 2 ^ (f - g).toNat : Nat)
    .fin (if a + b = 0 then s && t else a + b < 0) (a + b).natAbs g

/-- A product of two exact data. -/
def mulFl : Fl → Fl → Fl
  | .nan, _ => .nan
  | _, .nan => .nan
  | .inf s, .inf t => .inf (s != t)
  | .inf s, .fin t n _ => if n = 0 then .nan else .inf (s != t)
  | .fin s m _, .inf t => if m = 0 then .nan else .inf (s != t)
  | .fin s m e, .fin t n f => .fin (s != t) (m * n) (e + f)

/-- Sums and products in binary32. -/
def add32 (a b : Fl) : Fl := roundFl 8 24 (addFl a b)
def mul32 (a b : Fl) : Fl := roundFl 8 24 (mulFl a b)

/-- A datum with the other sign. -/
def negFl : Fl → Fl
  | .nan => .nan
  | .inf s => .inf !s
  | .fin s m e => .fin (!s) m e

/-- One. -/
def oneFl : Fl := .fin false 1 0

/-- The lower of a datum and one. -/
def capFl (a : Fl) : Fl :=
  match a with
  | .inf false => oneFl
  | .fin false m e => if 0 ≤ e then (if m = 0 then a else oneFl) else if 2 ^ (-e).toNat < m then oneFl else a
  | _ => a

/-- A finite binary32 pattern as a multiple of 2^-149; none for an infinity or a NaN. -/
def f32Int (w : Nat) : Option Int :=
  match f32 w with
  | .fin s m e => some ((if s then -1 else 1) * (m * 2 ^ (e + 149).toNat : Nat))
  | _ => none

/-- A binary32 pattern as a number for comparisons: none for a NaN, an infinity beyond every finite value. -/
def f32Key (w : Nat) : Option Int :=
  match f32 w with
  | .inf s => some (if s then -(2 ^ 300) else 2 ^ 300)
  | _ => f32Int w

/-- The greatest binary32 pattern not above num/den, which lies in 0 to 1, and whether it is exact. -/
def f32Below (num den : Nat) : Nat × Bool :=
  if num = 0 || den = 0 then (0, true)
  else
    let j := Nat.min 149 (24 + Nat.log2 den - Nat.log2 num)
    let m := num * 2 ^ j / den
    let (j, m) := if 2 ^ 24 ≤ m then (j - 1, num * 2 ^ (j - 1) / den) else (j, m)
    (if m < 2 ^ 23 then m else (149 - j) * 2 ^ 23 + m, m * den = num * 2 ^ j)

end Sys2Proof.Machine
end

