-- ==== Sys2Proof/Machine/Crc.lean ====
section
/-! DEFINITION. Cyclic redundancy checks: one bit-serial engine and the parameter sets that the spec names. -/

namespace Sys2Proof.Machine

/-- The parameters of a CRC: width, polynomial, initial register, whether data bits and the result are reflected, and
the value exclusive-ored at the end. -/
structure CrcSpec where
  width : Nat
  poly : Nat
  init : Nat
  refl : Bool
  xorOut : Nat
  deriving DecidableEq, Repr

/-- The order of the low w bits of n reversed. -/
def reverseBits : Nat → Nat → Nat
  | 0, _ => 0
  | w + 1, n => n % 2 * 2 ^ w + reverseBits w (n / 2)

/-- One bit shifted into the register of a CRC, most significant bit first. -/
def crcBit (c : CrcSpec) (r : Nat) (b : Nat) : Nat :=
  let top := r / 2 ^ (c.width - 1) % 2
  let r' := r * 2 % 2 ^ c.width
  if (top + b) % 2 = 1 then Nat.xor r' c.poly else r'

/-- The bits of a byte in the order the CRC takes them. -/
def crcBits (refl : Bool) (b : Nat) : List Nat :=
  let lsb := (rangeFrom 0 8).map fun i => b / 2 ^ i % 2
  if refl then lsb else lsb.reverse

/-- One byte taken into the register. -/
def crcByte (c : CrcSpec) (r : Nat) (b : Byte) : Nat :=
  (crcBits c.refl b.toNat).foldl (crcBit c) r

/-- The register after a byte string. -/
def crcFeed (c : CrcSpec) (r : Nat) (bs : Bytes) : Nat := bs.foldl (crcByte c) r

/-- The result read from the register. -/
def crcFinish (c : CrcSpec) (r : Nat) : Nat :=
  Nat.xor (if c.refl then reverseBits c.width r else r) c.xorOut

/-- The CRC of a byte string. -/
def crcOf (c : CrcSpec) (bs : Bytes) : Nat := crcFinish c (crcFeed c c.init bs)

/-- CRC-32C: hive cells (Table 3-7), images, tables (Table 14-8). -/
def crc32c : CrcSpec := ⟨32, 0x1EDC6F41, 0xFFFFFFFF, true, 0xFFFFFFFF⟩

/-- CRC-16-CCITT, the service UART's (R39; Table 14-8). -/
def crc16Ccitt : CrcSpec := ⟨16, 0x1021, 0xFFFF, false, 0⟩

/-- CRC-32 of IEEE 802.3 (Table 14-8). -/
def crc32Ieee : CrcSpec := ⟨32, 0x04C11DB7, 0xFFFFFFFF, true, 0xFFFFFFFF⟩

/-- CRC-64 of ECMA-182 (Table 14-8). -/
def crc64Ecma : CrcSpec := ⟨64, 0x42F0E1EBA9EA3693, 0, false, 0⟩

end Sys2Proof.Machine
end

