-- ==== Sys2Proof/Config.lean ====
section
/-! DEFINITION. What the spec leaves open, or takes from an external standard: constants with no body. No proof can see
a value of one, so a claim holds whatever they are. -/

namespace Sys2Proof.Config

/-- A fresh value that nothing constrains, applied to the state's counter of free values (R35, R50, R451 and the corners
where the spec states no value). -/
opaque freeNat : Nat → Nat

/-- Fresh bytes that nothing constrains: reads of host memory (R411), contents left undefined (R179, R181). -/
opaque freeByte : Nat → Nat → Byte

/-- What the shader code of a draw, dispatch or trace writes: the spec documents no shader instruction (Table 0-1), so the
writes are free; the memory division confines them (R272). -/
opaque shaderWrites : Nat → List (Nat × Byte)

/-- ECDSA P-384 with SHA-384 verifies: public key (x then y), message, signature (r then s) (R141, R145, R495). -/
opaque ecdsaVerify : Bytes → Bytes → Bytes → Bool

/-- The signature the island makes under the attestation key (R429, R492). -/
opaque ecdsaSign : Bytes → Bytes

/-- Otmoell's image-signing keys in ROM, by KEY_ID 0x8000 and above (none where no key has the number; R497). -/
opaque romKey : Nat → Option Bytes

/-- Otmoell's debug keys in ROM, by KEY_ID 0x8000 and above (none where no key has the number; Table 16-8). -/
opaque romDebugKey : Nat → Option Bytes

/-- The installation key that the island recovers from the MATERIAL of a KIND 3 key record, bytes 0 to 23 being the
additional data; none where the tag fails (R433: ECDH P-384, HKDF-SHA-384, AES-256-GCM). -/
opaque recoverKey : Bytes → Bytes → Option Bytes

/-- The owner's public key, x then y, of which the fuses hold only the SHA-384 (Table 16-4): the key with that hash. -/
opaque ownerKey : Bytes → Bytes

/-- The unit's 64-bit unit ID (0x5E07:01, per unit). -/
opaque unitId : Nat

/-- The unit's serial number (0x1018:04, per unit). -/
opaque serialNumber : Nat

/-- Version string of the running management firmware (0x100A:00, per image). -/
opaque softwareVersion : Bytes

/-- Key agreement and attestation public keys, x then y (0x5E08:00 and 0x5E09:00, per unit). -/
opaque keyAgreementKey : Bytes
opaque attestationKey : Bytes

/-- Otmoell's default EDID of the capture inputs (0x5703, 256 bytes). -/
opaque otmoellEdid : Bytes

/-- The expected CRC of the fixed test band of the engine self-test is not stated; the measured items of secure boot
(ROM and fuse block, firmware) are opaque to the manual: their digests are free (R427, R525). -/
opaque bootItem : Nat → Bytes

/-- The three full-scale components of each bar of test pattern 1, and the rounding of the ramp of pattern 2 (Table 8-8 states
neither). -/
opaque colourBar : Nat → Nat
opaque rampRound : Nat → Nat → Nat

/-- The rounding of baseline steps, of centroids and of means over touch nodes (R301, R303, R308 state none). -/
opaque baseRound : Int → Nat

/-- The step of a guard baseline, (r - b) / 16 with the rounding that R470 does not state. -/
opaque guardTrack : Int → Int

/-- What a primitive draws: pixel, sample, depth and the value for each colour target of each sample it covers, in order. The code
that computes them is not documented (Table 0-1), nor is the rasterisation. -/
opaque fragments : Nat → List (Nat × Nat × Nat × Nat × List Nat)

/-- Whether the t of a hit, which binary32 does not hold, is rounded up: the rounding is not stated (R265). -/
opaque roundRay : Nat → Nat → Bool

/-- The fraction of a NaN that blending or a resolve gives (R247, R248). -/
opaque nanHalf : Nat

/-- What a bilinear sample adds before the division by its weights: the rounding is not stated (R257). -/
opaque bilinearRound : Nat → Nat

end Sys2Proof.Config
end

