-- ==== Sys2Proof/Machine/SMap.lean ====
section
/-! DEFINITION. Sparse maps in one canonical form: keys strictly rising, and no entry equal to what an unlisted key reads
as. The DRAM, the object dictionary and the slice register blocks are held in them. -/

namespace Sys2Proof.Machine

/-- A sparse map: (key, value) pairs. -/
abbrev SMap (α : Type) := List (Nat × α)

/-- The value at key k, the default d k where the map lists none. -/
def SMap.get {α : Type} (d : Nat → α) : SMap α → Nat → α
  | [], k => d k
  | (k', v) :: m, k => if k < k' then d k else if k' = k then v else SMap.get d m k

/-- The map with v at key k, whatever v is. -/
def SMap.put {α : Type} : SMap α → Nat → α → SMap α
  | [], k, v => [(k, v)]
  | (k', v') :: m, k, v =>
    if k < k' then (k, v) :: (k', v') :: m else if k' = k then (k, v) :: m else (k', v') :: SMap.put m k v

/-- The map without key k. -/
def SMap.drop {α : Type} : SMap α → Nat → SMap α
  | [], _ => []
  | (k', v') :: m, k => if k < k' then (k', v') :: m else if k' = k then m else (k', v') :: SMap.drop m k

/-- The map with v at key k, kept canonical: a write of the default removes the entry. -/
def SMap.set {α : Type} [DecidableEq α] (d : Nat → α) (m : SMap α) (k : Nat) (v : α) : SMap α :=
  if v = d k then SMap.drop m k else SMap.put m k v

/-- Every write of a list made in order. -/
def SMap.setAll {α : Type} [DecidableEq α] (d : Nat → α) (m : SMap α) (ws : List (Nat × α)) : SMap α :=
  ws.foldl (fun m w => SMap.set d m w.1 w.2) m

/-- Only the entries whose key p keeps. -/
def SMap.keep {α : Type} (p : Nat → Bool) (m : SMap α) : SMap α := m.filter fun e => p e.1

/-- Every key of the map is above k. -/
def SMap.above {α : Type} (k : Nat) (m : SMap α) : Bool := m.all fun e => decide (k < e.1)

/-- The canonical form: keys strictly rising, no entry equal to its default. -/
def SMap.wf {α : Type} [DecidableEq α] (d : Nat → α) : SMap α → Bool
  | [] => true
  | (k, v) :: m => !decide (v = d k) && SMap.above k m && SMap.wf d m

end Sys2Proof.Machine
end

