-- ==== Sys2Proof/Machine/State.lean ====
section
/-! DEFINITION. The state of the block: every register, buffer, queue, mode, counter and pin that the spec gives the device,
as plain data; the reasons a command can stop; and the state right after reset. A dictionary entry whose value no other
field holds lives in `dict`; a slice register whose value no other field holds lives in `sregs`. -/

namespace Sys2Proof.Machine

/-! ### Reasons to stop -/

/-- No command of this block ends in a fault: every event has the effect the spec gives it, and an event that cannot occur
in the present state changes nothing. The one constructor names a stop that no meaning raises (safe: nothing raises it). -/
inductive Fault where
  | none
  deriving DecidableEq, Repr

/-- Why a command has no meaning. -/
inductive Refusal where
  /-- Raised by Dispatch for a command that has no meaning yet (safe: the machine stops). -/
  | notModelled (mnemonic : String)
  deriving DecidableEq, Repr

/-! ### Dictionary values and what leaves the device -/

/-- The value an entry holds: its default until something sets it, a number of the entry's type (two's complement for the
signed types), or a string of bytes. -/
inductive DVal where
  | unset
  | num (n : Nat)
  | raw (b : Bytes)
  deriving DecidableEq, Repr

/-- The four gates of a haptic bridge (R325, R332, R339): not driven, both low sides on, all off, or switched. -/
inductive Gates where
  | undriven
  | low
  | off
  | bridge
  deriving DecidableEq, Repr

/-- What the device sends to the outside: messages, frames, cells and writes, as one list, newest first. -/
inductive Emit where
  /-- A reply message to where the access entered, MAC included on Ethernet (R33). -/
  | reply (o : Origin) (bytes : Bytes)
  /-- A USDO answer on a CAN bus: the entry, and the data or the abort code (R42). -/
  | usdo (bus index sub : Nat) (data : Bytes)
  | usdoAbort (bus index sub code : Nat)
  /-- A CAN frame: bus, COB-ID, data. -/
  | can (bus cob : Nat) (data : Bytes)
  /-- A hive cell on the forward or reverse lanes. -/
  | hive (rev : Bool) (cell : Bytes)
  /-- An MSI-X message of a port's table entry. -/
  | msix (port entry : Nat)
  /-- A posted write to host memory under a PASID. -/
  | hostWrite (port pasid addr : Nat) (data : Bytes)
  /-- A frame on DN of a VT40 link: channel, type, payload. -/
  | vt40 (ch kind : Nat) (data : Bytes)
  /-- A line of pixels given to the link encoder of an output: frame, line, the pixels as 3 components each. -/
  | video (out frame line : Nat) (pixels : List Nat)
  /-- The main stream attributes of a vertical blanking: output, MISC0, Mvid, Nvid, sync polarities (R216). -/
  | msa (out misc0 mvid nvid : Nat) (hsyncHigh vsyncHigh : Bool)
  /-- The idle pattern for an output frame (R218, R225), and a stream pattern of Table 8-8 in place of one (R233). -/
  | idle (out : Nat)
  | linkPattern (out pattern : Nat)
  /-- A line on dual-link LVDS (R223): output and line; of each link the pixels, as their components on pairs 0 to 2 and on pair 3;
  DE; the level of HS in its sync and of VS in this line. An output that stops ends its clocks. -/
  | lvds (out line : Nat) (linkA linkB : List (List Nat)) (de hsHigh vsHigh : Bool)
  | lvdsOff (out : Nat)
  /-- A backlight PWM output from an output frame on (R234): channel, periods per frame, duty, active level. -/
  | pwm (channel periods duty : Nat) (activeHigh : Bool)
  /-- An open-drain output of the FIO bank released or driven low (R208, R461). -/
  | fioOut (pin : Nat) (released : Bool)
  /-- An AUX transaction or a link command to a sink. -/
  | aux (out : Nat) (addr : Nat) (data : Bytes)
  /-- The part an Ethernet port takes in 802.1AS: port, domain, priority1 (R65). -/
  | ptp (port domain priority1 : Nat)
  /-- HPD of a capture input driven (R274). -/
  | captureHpd (input : Nat) (high : Bool)
  /-- The gates of a haptic channel; the target voltages of an effect that starts, one for each 1 µs tick, in units of
  0.1 V / 2 097 088 000 (R331); the voltage and current of the braking law (0.1 V and µA, R332); a measurement's sine (R341). -/
  | gates (h : Nat) (g : Gates)
  | hapticDrive (h : Nat) (targets : List Int)
  | hapticBrake (h volts microamps : Nat)
  | hapticSine (h : Nat)
  /-- IGMP membership of a feed's group joined or left. -/
  | igmp (feed : Nat) (join : Bool)
  /-- A TDM frame of a port (R343): its TDM_CONFIG word, which gives the form of its signals (Table 13-1), the half-sample at 96 kHz, and
  the 32 bits of each slot on SDOUT, none where it is at high impedance. A port that stops: BCLK and FSYNC low. -/
  | tdm (port config half : Nat) (slots : List (Option Nat))
  | tdmOff (port : Nat)
  /-- An answer of the debug mailbox: accepted or refused (R449). -/
  | debugReply (ok : Bool)
  /-- The data of a DRAM read given to its requester, or its refusal (error: a read error, else blocked). -/
  | dramRead (requester addr : Nat) (data : Bytes)
  | dramRefused (requester addr : Nat) (error : Bool)
  /-- The status of a dictionary write that has a row of its own (R32). -/
  | status (o : Origin) (key status : Nat)
  /-- Answers to a host's reads: a register value of BAR0 or BAR2, bytes of BAR4, a configuration read, a configuration
  request turned away with Configuration Request Retry Status (R405). -/
  | hostRead (port value : Nat)
  | hostData (port : Nat) (data : Bytes)
  | cfgRead (port value : Nat)
  | cfgRetry (port : Nat)
  deriving DecidableEq, Repr

/-- The eight modes (Table 1-4). -/
inductive Mode where
  | off
  | watch
  | quiet
  | bringup
  | run
  | degraded
  | hold
  | service
  deriving DecidableEq, Repr

/-! ### Dictionary and field networks (chapter 02) -/

/-- A pending access and its ticket (R50, R51): number, owning path and address, the message, the entry it writes, its
final result once there is one. held is a write whose value takes effect at the final result (R28). -/
structure Ticket where
  no : Nat
  origin : Origin
  msg : Msg
  key : Nat
  held : Bool
  /-- A read: the offset and the number of bytes that its final result takes from the value. -/
  reading : Option (Nat × Nat)
  final : Option (Nat × Bytes)
  deriving DecidableEq, Repr

/-- An Ethernet source (R36): highest accepted write SEQ, the kept replies newest first (at most 8), and the requests
accepted but not yet answered. -/
structure Tracked where
  addr : Nat
  port : Nat
  highest : Option Nat
  kept : List (Nat × Bytes)
  openSeqs : List Nat
  deriving DecidableEq, Repr

/-- A DOMAIN write under way (R31): the entry, its one source, the segments written (offset, bytes). -/
structure OpenDomain where
  key : Nat
  origin : Origin
  segs : List (Nat × Bytes)
  deriving DecidableEq, Repr

/-- A port's BAR2 mailbox (Table 2-8): the registers, both buffers, and the reply that waits to be written. -/
structure Mailbox where
  vector : Nat
  irqEn : Bool
  overrun : Bool
  respValid : Bool
  busy : Bool
  req : Bytes
  resp : Bytes
  ready : Option Bytes
  /-- The request as SUBMIT copied it (R38). -/
  sent : Bytes
  deriving DecidableEq, Repr

/-- An access forwarded over the hive link (R55 to R57): its message number, where it entered, the message, and for a
broadcast the nodes present and the results so far (node, code, status, ticket). -/
structure Forwarded where
  no : Nat
  origin : Origin
  msg : Msg
  broadcast : Bool
  present : List Nat
  results : List (Nat × Nat × Nat × Nat)
  deriving DecidableEq, Repr

/-- A dictionary message arriving over the hive in cells of 20 bytes (Table 3-8). -/
structure Reassembly where
  node : Nat
  no : Nat
  data : List (Nat × Bytes)
  deriving DecidableEq, Repr

/-- The CANopen communication state (R43). -/
inductive NmtState where
  | initialising
  | preOperational
  | operational
  | stopped
  deriving DecidableEq, Repr

/-- An EMCY that waits: code, key, effect, first RRP, originating node; for another node's EMCY (R49) its bytes as they
came. -/
structure Emcy where
  code : Nat
  key : Nat
  effect : Nat
  first : Rrp
  node : Nat
  raw : Option Bytes
  deriving DecidableEq, Repr

/-- The management core's state of the dictionary and the field networks. -/
structure Net where
  restarting : Bool
  nmt : NmtState
  tickets : List Ticket
  sources : List Tracked
  domains : List OpenDomain
  mailboxes : Vector Mailbox 4
  forwards : List Forwarded
  fragments : List Reassembly
  nextMsgNo : Nat
  /-- The retired result that 0x1FA0:03 keeps returning on CAN (R51). -/
  canResult : Option (Nat × Bytes)
  syncStopped : Bool
  emcyDeferred : List Emcy
  emcyHeld : List Emcy
  /-- The nodes whose EMCY inhibit time runs (R49: it applies per originating node). -/
  inhibit : List Nat
  deriving DecidableEq, Repr

/-! ### Reference raster, timebase and the hive link (chapter 03) -/

/-- The reference rates (Table 3-2). -/
inductive Rate where
  | hz60
  | hz5994
  | hz50
  deriving DecidableEq, Repr

/-- The timebase states (Table 3-5). -/
inductive TbState where
  | freeRun
  | acquiring
  | locked
  | holdover
  | slewing
  deriving DecidableEq, Repr

/-- The status of a sync source (0x2206:01 to 04). -/
inductive SrcStatus where
  | absent
  | qualifying
  | qualified
  | wrongRate
  | lost
  deriving DecidableEq, Repr

/-- The timebase (R62 to R75): the rate in force, the state and active source (0 none, 1 to 4), and per source its status
and its count of consecutive good datums. -/
structure Timebase where
  rate : Rate
  st : TbState
  active : Nat
  status : Vector SrcStatus 4
  count : Vector Nat 4
  /-- Consecutive expected REFSYNC datums absent. -/
  missing : Nat
  phaseErr : Int
  holdFrames : Nat
  mismatch : Int
  cadence : Nat
  /-- Grandmaster identity, hops and port of the time in use (R63, R65), and the N of the nearest gPTP frame boundary. -/
  grandmaster : Nat
  ptpHops : Vector Nat 2
  ptpSlave : Vector Bool 2
  ptpPort : Nat
  gptpN : Nat
  /-- gPTP has been qualified since Bring-up (R490). -/
  ptpEver : Bool
  everLocked : Bool
  /-- The source the head follows, as the latest TIMING cell shows it. -/
  headSource : Nat
  /-- Bring-up: the raster has still to step onto its source (R69, R72). -/
  stepDue : Bool
  /-- Where the next REFSYNC datum is expected (R63). -/
  expected : Option Rrp
  /-- Faults of executor copies since repair (R17). -/
  copyFaults : Nat
  deriving DecidableEq, Repr

/-- A swap barrier that runs (R87): the target frame, the kind of action (1 a last switch, 2 an update activation), the
coordinator's node, at the coordinator the nodes present and those that armed, whether this device armed, and what it holds
(none, COMMIT or ABORT). -/
structure Barrier where
  target : Nat
  kind : Nat
  coordinator : Nat
  present : List Nat
  arms : List Nat
  armed : Bool
  held : Option Bool
  deriving DecidableEq, Repr

/-- The hive link (R79 to R88). -/
structure Hive where
  pos : Nat
  enumerated : Bool
  size : Nat
  closed : Bool
  /-- A device that would count 64 or more takes part in no hive function (R86). -/
  excluded : Bool
  enumStopped : Bool
  hopDelayPs : Nat
  hopDelayOutPs : Nat
  cellErrors : Nat
  /-- Failed lanes: HIVE_IN and HIVE_OUT, lanes 0 and 1 of each direction. -/
  failedLanes : List (Bool × Bool × Nat)
  barriers : List Barrier
  barrierResult : Nat
  deriving DecidableEq, Repr

/-- The FIO inputs (R76 to R78): level, known to the main die, and the RRP of the latest accepted change. -/
structure FioInput where
  level : Bool
  edge : Rrp
  deriving DecidableEq, Repr

/-! ### Lasts (chapters 04 and 05) -/

/-- An item of a last (Tables 5-6 and 5-7, R143): requester, class, resource (0 DRAM bytes, 1 GPU frame budget), slice
(0xFF none), frame budget, action (0 REPORT, 1 THROTTLE, 2 DEFER, 3 DROP) and throttle fraction. -/
structure Item where
  requester : Nat
  cls : Nat
  resource : Nat
  slice : Nat
  frameBudget : Nat
  action : Nat
  throttle : Nat
  deriving DecidableEq, Repr

/-- An event record of a row (Table 5-9). -/
structure RowEvent where
  kind : Nat
  target : Nat
  phase : Nat
  arg : Nat
  deriving DecidableEq, Repr

/-- A listed row (c, l) and its events in stored order (R130). -/
structure LastRow where
  cycle : Nat
  line : Nat
  events : List RowEvent
  deriving DecidableEq, Repr

/-- An output plan (Table 5-11). -/
structure OutPlan where
  out : Nat
  flags : Nat
  mult : Nat
  link : Nat
  linkRate : Nat
  bpc : Nat
  vTotal : Nat
  vActive : Nat
  vFront : Nat
  vSync : Nat
  hTotal : Nat
  hActive : Nat
  hFront : Nat
  hSync : Nat
  offLine : Nat
  offPhase : Nat
  lead : Nat
  deriving DecidableEq, Repr

/-- A layer-slot binding (Table 5-12); rectangles are X0, Y0, X1, Y1. -/
structure Binding where
  out : Nat
  layer : Nat
  slice : Nat
  static : Bool
  fallback : Nat
  rects : List (Nat × Nat × Nat × Nat)
  deriving DecidableEq, Repr

/-- A context record (Table 5-13). -/
structure CtxRec where
  ctx : Nat
  pbKiB : Nat
  budgetItem : Nat
  dramItem : Nat
  deriving DecidableEq, Repr

/-- A touch burst plan (Table 5-14). -/
structure BurstPlan where
  ch : Nat
  out : Nat
  txFirst : Nat
  txCount : Nat
  duration : Nat
  freqKHz : Nat
  drive : Nat
  rates : Nat
  mode : Nat
  deriving DecidableEq, Repr

/-- A haptic reservation (R138). -/
structure HapticRes where
  enabled : Bool
  bytesPerFrame : Nat
  deriving DecidableEq, Repr

/-- The audio program of a last (R139): operations, coefficients and the TDM_CONFIG words. -/
structure AudioProg where
  ops : List Nat
  coefs : List Nat
  tdm : List Nat
  deriving DecidableEq, Repr

/-- A check plan (Table 5-15). -/
structure CheckPlan where
  ch : Nat
  algorithm : Nat
  target : Nat
  item : Nat
  start : Nat
  length : Nat
  deriving DecidableEq, Repr

/-- A peripheral record (Table 5-16): class, instance, secure world, port (0xFF none), slice (0xFF none). -/
structure Periph where
  cls : Nat
  inst : Nat
  secure : Bool
  port : Nat
  slice : Nat
  deriving DecidableEq, Repr

/-- A peripheral assignment section (Table 5-16) with its own bytes. -/
structure Assignment where
  portFlags : List Nat
  slices : List (Nat × Nat × Nat)
  periphs : List Periph
  masks : List (Nat × Nat × Nat)
  keyId : Nat
  raw : Bytes
  deriving DecidableEq, Repr

/-- A last as its sections give it (chapter 05). -/
structure Last where
  identity : Bytes
  family : Nat
  steppings : Nat
  margin : Nat
  rateCode : Nat
  lRef : Nat
  role : Nat
  opPoint : Nat
  rates : List Nat
  initialRate : Nat
  highest : Nat
  items : List Item
  cycles : Nat
  rows : List LastRow
  plans : List OutPlan
  bindings : List Binding
  ctxs : List CtxRec
  sets : List (List Nat)
  bursts : List BurstPlan
  haptics : List HapticRes
  audio : Option AudioProg
  checks : List CheckPlan
  assign : Assignment
  links : List Bytes
  deriving DecidableEq, Repr

/-- The states of a last slot (0x2210); which slot runs is `active`. -/
inductive SlotState where
  | empty
  | loading
  | valid
  | refused
  deriving DecidableEq, Repr

/-- A last slot of the comb (R112): state, the bytes written, the last they hold, the load status; dramPending while the
DRAM speed assumption waits for the end of training (R114). -/
structure Slot where
  st : SlotState
  image : Bytes
  last : Option Last
  status : Nat
  dramPending : Bool
  deriving DecidableEq, Repr

/-- A requested switch (R116, R117): frame, slot (0 to 3), armed, part of a barrier. -/
structure SwitchReq where
  frame : Nat
  slot : Nat
  armed : Bool
  broadcast : Bool
  deriving DecidableEq, Repr

/-- A contract monitor (R103): the count of the present window, peak and violations since the last became active, and
whether the item's action is engaged. -/
structure Monitor where
  count : Nat
  peak : Nat
  violations : Nat
  engaged : Bool
  violated : Bool
  /-- Where the action engaged, and the bytes admitted since (THROTTLE). -/
  since : Rrp
  extra : Nat
  deriving DecidableEq, Repr

/-- A DRAM request that the controller has not admitted yet (R91, R104): of a BAR4 access of a port, or of a requester's own
port. -/
structure Held where
  port : Option Nat
  req : DramReq
  deriving DecidableEq, Repr

/-- What R107 found of the slot of a device-initiated switch: at the start of frame `frame`, and at the time before. -/
structure Verdict where
  frame : Nat
  holds : Bool
  before : Bool
  deriving DecidableEq, Repr

/-- The last executor (R90 to R120). active is 0 for none or 1 to 4; marginAt the frame of a scheduled margin switch. -/
structure Lasts where
  slots : Vector Slot 4
  active : Nat
  lastService : Nat
  cycle : Nat
  /-- The frame that stands at this cycle position. -/
  cycleFrame : Nat
  request : Option SwitchReq
  result : Nat
  switchFrame : Nat
  marginBeyond : Bool
  marginAt : Option Nat
  /-- The open DRAM window: its allotment set. -/
  windowSet : Nat
  windowOpen : Bool
  monitors : List Monitor
  lock : Option Assignment
  /-- The row in execution, as the number of its RRP, and how many of its events have been passed (R98). -/
  row : Option (Nat × Nat)
  /-- Requests that wait to be admitted, oldest first. -/
  waiting : List Held
  /-- The margin class at the entry into Hold or Quiet (R465). -/
  holdClass : Nat
  verdict : Verdict
  deriving DecidableEq, Repr

/-! ### Composition, protected content and scan-out (chapters 06 to 08) -/

/-- A layer descriptor (Table 6-2). -/
structure LayerDesc where
  layer : Nat
  fmt : Nat
  flags : Nat
  alpha : Nat
  csc : Nat
  plane0 : Nat
  plane1 : Nat
  pitch0 : Nat
  pitch1 : Nat
  srcX : Nat
  srcY : Nat
  width : Nat
  height : Nat
  dstX : Nat
  dstY : Nat
  fence : Nat
  deriving DecidableEq, Repr

/-- What put a layer's content there: a flip of a slice, an immediate write of Service (R232), or a feed (R286). -/
inductive ContentBy where
  | flip
  | immediate
  | feed (f : Nat)
  deriving DecidableEq, Repr

/-- What a layer holds: the descriptor, the slice and SEQ of the record that carried it, the start of the output frame in
which it first showed, and the first band that shows the fallback colour after a blocked fetch (R170). -/
structure Content where
  by_ : ContentBy
  desc : LayerDesc
  slice : Nat
  seq : Nat
  effect : Rrp
  blockedFrom : Option Nat
  deriving DecidableEq, Repr

/-- A flip record accepted and not yet completed (R148, R163): TYPE 0 on an output, or TYPE 1 with its target. deferred
marks a record that a latch passed inside its cut-off (R164); static one that waits for a flattening pass (R162). -/
structure FlipRec where
  slice : Nat
  seq : Nat
  offscreen : Bool
  out : Nat
  descs : List LayerDesc
  targetAddr : Nat
  targetPitch : Nat
  targetWidth : Nat
  targetHeight : Nat
  targetFmt : Nat
  arrival : Rrp
  deferred : Bool
  static : Bool
  deriving DecidableEq, Repr

/-- A release fence that waits for the end of its recovery frame (R168). -/
structure Fence where
  slice : Nat
  addr : Nat
  seq : Nat
  v : Nat
  deriving DecidableEq, Repr

/-- A flattening pass (R162): which base it writes, the records it took, the static layers' content in the snapshot, and
when it finished. -/
structure Pass where
  toB : Bool
  records : List FlipRec
  contents : List (Nat × Content)
  done : Option Rrp
  waiting : Bool
  deriving DecidableEq, Repr

/-- Where a band's lines come from (R175 to R177). -/
inductive BandFrom where
  | engine
  | spare
  | zero
  deriving DecidableEq, Repr

/-- Output n Scan State (Table 8-9). -/
inductive ScanState where
  | notRun
  | starting
  | running
  | held
  deriving DecidableEq, Repr

/-- Output n Link State (Table 8-9). -/
inductive LinkState where
  | noSink
  | reading
  | training
  | up
  | failed
  | phyFault
  | testPattern
  deriving DecidableEq, Repr

/-- Output n Takeover State (Table 8-9). -/
inductive Takeover where
  | engine
  | armed
  | spare
  | selfTest
  deriving DecidableEq, Repr

/-- Output n Pair State (Table 7-11). -/
inductive PairState where
  | notPaired
  | starting
  | asserted
  | released
  | rearming
  deriving DecidableEq, Repr

/-- A sentinel cell in service (R190 to R197): its state (4 unknown), the start of the output frame in which the state
first showed, whether its off half shows, and the counted frames without a write of its entry (R195). -/
structure CellRun where
  state : Nat
  since : Rrp
  blinkOff : Bool
  unwritten : Nat
  timedOut : Bool
  /-- The first binding cut-off after Bring-up has passed, or the entry has been written: frames are counted. -/
  counting : Bool
  deriving DecidableEq, Repr

/-- A verified surface in service (R199 to R203): its two buffers, which one shows, the frame that became eligible, tags,
and the age in reference frames. -/
structure Surface where
  bufs : Vector Bytes 2
  shown : Option Bool
  shownTag : Nat
  eligible : Option Rrp
  eligibleTag : Nat
  lastTag : Option Nat
  age : Nat
  standIn : Nat
  deriving DecidableEq, Repr

/-- Output n: its layer set, its frame under composition, its lead buffer, its port and its protected content. -/
structure Output where
  scan : ScanState
  /-- Start of the first composed frame after a start (R225); none until a LATCH has been issued. -/
  firstFrame : Option Rrp
  startAt : Rrp
  layers : Vector (Option Content) 16
  pending : List FlipRec
  fences : List Fence
  /-- The frame that the latest LATCH opened, and the one before it. -/
  frame : Rrp
  frameJ : Nat
  gammaForce : Option Bytes
  /-- Gamma tables and matrices written and not yet taken at a latch, oldest first. -/
  gammaNext : List (Rrp × Bytes)
  matForce : Vector (Option (List Int)) 16
  matNext : List (Nat × Rrp × List Int)
  base : Option Bool
  pass : Option Pass
  /-- A pass that has finished and waits for its latch. -/
  ready : Option Pass
  passAsked : Bool
  bandFrom : List (Nat × BandFrom)
  spareFrom : Option Nat
  lead : List (Nat × List Rgb)
  /-- The sealed pixels of each composed line as the reference datapath expects them (R206). -/
  sealed : List (Nat × List (Option Rgb))
  /-- Pixels whose data has missed the deadline: band, layer (16 for layer P), line, first and last column (exclusive). -/
  missing : List (Nat × Nat × Nat × Nat × Nat)
  /-- Immediate writes not yet in effect (R232): when made, the layer, the descriptor. -/
  immediate : List (Rrp × Nat × LayerDesc)
  /-- When the composition of the next band began. -/
  bandStart : Rrp
  /-- Slices whose layers are emptied at the next latch (R167). -/
  emptying : List Nat
  /-- Start of the output frame on the port. -/
  sendFrame : Rrp
  link : LinkState
  hpd : Bool
  phyAttempts : Nat
  /-- The three attempts after a PHY fault have failed: the port stays stopped. -/
  phyStopped : Bool
  /-- What the link sequence has read of the sink: 0 nothing, 1 the capabilities (R218). -/
  linkStep : Nat
  /-- LVDS Mapping in force (R223, R235). -/
  lvdsMap : Nat
  /-- The last composed frame of an output that stops is over: the idle pattern or a blank frame is sent (R224, R225). -/
  idling : Bool
  auxQueue : List (Nat × Bytes)
  takeover : Takeover
  armedAt : Rrp
  pair : PairState
  pairRun : Nat
  /-- Matching frames since the latest mismatch (class 0x23, Table 18-4). -/
  matchRun : Nat
  pairCond : Bool
  /-- HEALTHY_N is driven low, and the FIO output it stands on; 0xFF none (R208). -/
  healthyLow : Bool
  healthyPin : Nat
  crcReg : Nat
  crcExp : Nat
  crcAny : Bool
  /-- Whether the frame that the latest LATCH opened is recorded, and whether the frame on the port is. -/
  recNext : Bool
  recActive : Bool
  recFlags : Nat
  recMissing : Bool
  recCount : Nat
  cells : List CellRun
  surfaces : Vector Surface 2
  /-- The frame on the port is no longer one of the zero frames of a start (R225). -/
  carrying : Bool
  /-- The link carries the frame on the port. -/
  sendLive : Bool
  /-- The plan of an output that stops, while its last composed frame is sent (R225). -/
  stopping : Option OutPlan
  /-- Layer P is drawn: an atlas has been in place since a LATCH (R397). -/
  layerP : Bool
  duty : Nat
  deriving DecidableEq, Repr

/-- The spare engine S (R176 to R179, R228 to R230): the output it composes or recomposes for, the offscreen records
waiting and running (first the one that runs), its lead buffer, and its self-test result. -/
structure Spare where
  output : Option Nat
  jobs : List FlipRec
  lead : List (Nat × List Rgb)
  deriving DecidableEq, Repr

/-- A glyph of the atlas (Table 7-2). -/
structure Glyph where
  width : Nat
  height : Nat
  palette : Nat
  data : Bytes
  deriving DecidableEq, Repr

/-- A cell record (Table 7-5). -/
structure Cell where
  flags : Nat
  kind : Nat
  shift : Nat
  bindSub : Nat
  bindId : Nat
  timeout : Nat
  x : Nat
  y : Nat
  glyphs : List Nat
  unknown : Nat
  blink : Nat
  deriving DecidableEq, Repr

/-- A surface record (Table 7-7). -/
structure SurfaceCfg where
  x : Nat
  y : Nat
  width : Nat
  height : Nat
  fmt : Nat
  slice : Nat
  standGlyph : Nat
  standColour : Nat
  maxAge : Nat
  deriving DecidableEq, Repr

/-- An output table of the atlas (Table 7-3). -/
structure AtlasOut where
  out : Nat
  paired : Bool
  healthyPin : Nat
  gamma : Option Bytes
  surfaces : List SurfaceCfg
  cells : List Cell
  deriving DecidableEq, Repr

/-- A glyph atlas (R185). -/
structure Atlas where
  blinkHalf : Nat
  palettes : List Bytes
  glyphs : List Glyph
  outs : List AtlasOut
  deriving DecidableEq, Repr

/-- The sentinel renderer and its atlas in the secure comb. state is Glyph Atlas State; wiped while a wipe has emptied
layer P (R397). -/
structure Sentinel where
  state : Nat
  error : Nat
  atlas : Option Atlas
  vars : SMap Nat
  deriving DecidableEq, Repr

/-! ### Graphics (chapter 09) -/

/-- A GPU job under way (Table 9-4): its entry, the byte offset of its next packet, how it ends once that is settled
(status and detail), and whether an access of it was blocked (R244). -/
structure GpuJob where
  cmdAddr : Nat
  cmdLen : Nat
  seq : Nat
  fence : Nat
  frame : Bool
  arrival : Rrp
  pos : Nat
  waiting : Bool
  blocked : Bool
  ended : Option (Nat × Nat)
  deriving DecidableEq, Repr

/-- A target of a render pass (R245): address, pitch, format, load, clear value, multisample address. -/
structure Target where
  addr : Nat
  pitch : Nat
  fmt : Nat
  load : Nat
  clear : Nat
  msAddr : Nat
  deriving DecidableEq, Repr

/-- A sample that a primitive covers: its pixel, sample number and depth, the value for each colour target, the OUTPUT_MASK of its
program, and the words of SET_STATE in force. -/
structure Frag where
  x : Nat
  y : Nat
  sample : Nat
  z : Nat
  colours : List Nat
  mask : Nat
  st : Nat × Nat
  deriving DecidableEq, Repr

/-- A render pass from SET_TARGET to END_PASS (R243, R245, R250, R251): the parameter buffer used, the tiles with a non-empty list
and what their lists draw, in order, the partial renders made, and the tiles that they stored. -/
structure RenderPass where
  samples : Nat
  width : Nat
  height : Nat
  colours : List Target
  depth : Option Target
  pbUsed : Nat
  tiles : List (Nat × Nat)
  frags : List Frag
  partials : Nat
  stored : List (Nat × Nat)
  deriving DecidableEq, Repr

/-- A bound shader program (Table 9-9): address, code CRC, length, use of rays, output mask, bindings (slot, kind, access,
format, minimum size). -/
structure Program where
  addr : Nat
  crc : Nat
  len : Nat
  usesRays : Bool
  outMask : Nat
  bindings : List (Nat × Nat × Nat × Nat × Nat)
  deriving DecidableEq, Repr

/-- A resource descriptor (Table 9-10). -/
structure Resource where
  addr : Nat
  size : Nat
  kind : Nat
  fmt : Nat
  filter : Nat
  width : Nat
  height : Nat
  pitch : Nat
  deriving DecidableEq, Repr

/-- An open GPU window (R237): its clusters, when it closes, when it opened. -/
structure GpuWindow where
  clusters : List Nat
  closes : Rrp
  opened : Rrp
  deriving DecidableEq, Repr

/-- A GPU context (Table 9-2): the ring's indices and the arrivals of its entries, the job, the pass, what is bound,
the window, whether a job is held in the save area with the bytes saved in each cluster's slot, and the context's error. A
descriptor that breaks Table 9-10 serves no slot. -/
structure GpuCtx where
  head : Nat
  tail : Nat
  arrivals : List (Nat × Rrp)
  job : Option GpuJob
  pass : Option RenderPass
  progs : Vector (Option Program) 3
  res : Vector (List (Option Resource)) 3
  checked : List (Nat × Nat)
  state : Nat × Nat
  window : Option GpuWindow
  preempted : Bool
  saved : List (Nat × Nat)
  saveBlocked : Bool
  deriving DecidableEq, Repr

/-- A shader cluster (R236, R253, R261): powered, isolated until Bring-up, the context that holds it, whether it is in its
grace or saving, and when it faulted. -/
structure Cluster where
  on : Bool
  isolated : Bool
  holder : Option Nat
  vacating : Bool
  saving : Bool
  faults : List Rrp
  deriving DecidableEq, Repr

/-- A hit-test binding of a touch channel (R267): the slice, the hierarchy and the matrix. -/
structure HitBinding where
  slice : Nat
  addr : Nat
  matrix : List Nat
  deriving DecidableEq, Repr

/-- The GPU: contexts, clusters, hit-test bindings and those that hold from the next touch frame (R267), the compositor jobs queued for context 32 (feed and picture number) and the quads
issued in the present frame (R257). -/
structure Gpu where
  ctxs : Vector GpuCtx 34
  clusters : Vector Cluster 12
  hits : Vector (Option HitBinding) 8
  hitNext : Vector (Option (Option HitBinding)) 8
  compJobs : List (Nat × Nat)
  quads : Nat
  quadFault : Bool
  deriving DecidableEq, Repr

/-! ### Capture inputs, decoder and feeds (chapter 10) -/

/-- A decoder or capture job (Table 10-1). -/
structure DecJob where
  bsAddr : Nat
  bsLen : Nat
  seq : Nat
  fence : Nat
  luma : Nat
  chroma : Nat
  pitch : Nat
  stream : Nat
  flags : Nat
  dpbAddr : Nat
  dpbKiB : Nat
  deriving DecidableEq, Repr

/-- A capture input (R273 to R276): what the source sends and its timing, HPD held low by an EDID write, the level of HPD, and the
job or feed frame being written. -/
structure Capture where
  signal : Sent
  width : Nat
  height : Nat
  mhz : Nat
  hpdHold : Bool
  hpd : Bool
  job : Option (Nat × DecJob)
  toFeeds : Bool
  deriving DecidableEq, Repr

/-- A stream context of the decoder (R277, R281): the owner (slice and stream, or a feed), and whether it waits for an IDR
or IRAP picture. -/
structure StreamCtx where
  slice : Option Nat
  stream : Nat
  feed : Option Nat
  waiting : Bool
  dpbAddr : Nat
  dpbKiB : Nat
  deriving DecidableEq, Repr

/-- A decoder ring of a slice: its indices, the arrivals of its doorbells (tail, when), and the job at the head of the
queue, taken with its arrival. -/
structure DecRing where
  head : Nat
  tail : Nat
  arrivals : List (Nat × Rrp)
  cur : Option (DecJob × Rrp)
  deriving DecidableEq, Repr

/-- A feed picture (R286, R287): its number in the feed, its buffer, size and depth; until its scaling completes, its lines as they
were captured or decoded, and whether the scaling job has been issued; when it completed. -/
structure FeedPic where
  no : Nat
  buf : Nat
  width : Nat
  height : Nat
  deep : Bool
  luma : List Bytes
  chroma : List Bytes
  issued : Bool
  done : Rrp
  deriving DecidableEq, Repr

/-- A feed in service (R284 to R289). -/
structure Feed where
  joined : Bool
  live : Bool
  suspended : Bool
  ssrc : Option Nat
  nextSeq : Option Nat
  held : List (Nat × Bytes)
  gap : Bool
  curTs : Option Nat
  /-- When each coded picture not yet decoded became complete (R278, R285). -/
  pictureReady : List Rrp
  waitIrap : Bool
  /-- Where its buffers stand in the media pool; none where the pool cannot hold them. -/
  place : Option Nat
  /-- Pictures numbered so far, those whose scaling has still to complete, the newest complete one, the one latched. -/
  made : Nat
  scaling : List FeedPic
  newest : Option FeedPic
  shown : Option FeedPic
  shownRrp : Rrp
  lastNew : Nat
  everShown : Bool
  fallback : Bool
  /-- Hold or Quiet has emptied the layer, until the first picture that completes after the return (R289). -/
  emptied : Bool
  deriving DecidableEq, Repr

/-- The media subsystem; lastDone is when the decoder last ended a picture. -/
structure Media where
  lastDone : Rrp
  captures : Vector Capture 2
  streams : List StreamCtx
  rings : Vector DecRing 32
  feeds : Vector Feed 32
  deriving DecidableEq, Repr

/-! ### Touch (chapter 11) -/

/-- Touch n State (Table 11-7). -/
inductive TouchState where
  | notRunning
  | startScan
  | scanning
  | lost
  | linkDown
  deriving DecidableEq, Repr

/-- An open contact (R304 to R308): its number, position in reported units and in 1/256 node, area, peak, flags, the nodes
of its blob, and when it opened. -/
structure Contact where
  id : Nat
  x : Nat
  y : Nat
  u : Int
  v : Int
  area : Nat
  strength : Nat
  flags : Nat
  nodes : List Nat
  opened : Rrp
  deriving DecidableEq, Repr

/-- A suspect node (R298 to R300): its signal at acquisition, the count it has stayed near and since when. -/
structure Suspect where
  node : Nat
  d0 : Int
  near : Nat
  since : Rrp
  deriving DecidableEq, Repr

/-- A slot whose measuring interval has ended (R292 to R295): where it ended, its number on the VT40 link, its step, the channel's
plans in it in stored order, and the bursts of each that it fired. -/
structure TouchSlot where
  at_ : Rrp
  no : Nat
  step : Nat
  plans : List (Nat × BurstPlan)
  fired : List (Nat × Nat)
  deriving DecidableEq, Repr

/-- A touch channel. Raw counts and baselines (in 1/16 count) are in transmit-major order; self counts per electrode. -/
structure TouchCh where
  st : TouchState
  step : Nat
  nextStep : Option Nat
  raw : List Nat
  txSelf : List Nat
  rxSelf : List Nat
  base : List Nat
  txBase : List Nat
  rxBase : List Nat
  frozenSum : List (Nat × Nat)
  suspects : List Suspect
  contacts : List Contact
  /-- Nodes that form no contact in the next touch frame are `blocked`; `frozenSum` holds the summed correction of each frozen
  node (R303), `gloves` the peaks of blobs that passed the self test in the latest frame (R305). The main die's own list of
  open contacts (R316). -/
  known : List Contact
  rejected : List (List Nat)
  gloves : List Nat
  blocked : List Nat
  /-- Bursts of each plan in the present slot; a slot over at the present position whose TOUCH_SLOT_END stands out; the slot that
  ended last until its touch frame completes, with the counts it has brought (plan, first position, values). slotEnd is where
  the latest slot ended. -/
  fired : List (Nat × Nat)
  overSlot : Option TouchSlot
  ended : Option TouchSlot
  got : List (Nat × Nat × List Nat)
  slotEnd : Option Rrp
  slotSelf : Bool
  first : Bool
  /-- Since when no contact has been open (R296); where the start scan began (R297). -/
  idleSince : Rrp
  scanFrom : Rrp
  badTx : List Nat
  badRx : List Nat
  testFrames : List (List Nat × List Nat × List Nat)
  testing : Bool
  captureFrames : List (List Nat × List Nat × List Nat)
  capturing : Bool
  linkUp : Bool
  /-- When frames of the latest second failed their CRC (R323). -/
  crcFails : List Rrp
  linkDelayNs : Nat
  slotNo : Nat
  deriving DecidableEq, Repr

/-! ### Haptics (chapter 12) -/

/-- What a haptic channel does (Haptic n State, R331 to R341). merging holds the gates while a merged trigger waits for
its start. -/
inductive HapticState where
  | notEnabled
  | idle
  | playing
  | braking
  | waiting
  | measuring
  | fault
  | safe
  deriving DecidableEq, Repr

/-- A haptic channel: the effect it plays with its gain in 1/64, since when it does what it does, the trigger that waits (Finish) or
the merged effect that is about to start with its gain, whether a measurement is due or was aborted, and the latest trigger
for coalescing: its µs tick, its source's rank, and whether it met a busy channel. -/
structure HapticCh where
  st : HapticState
  effect : Nat
  gain : Nat
  start : Rrp
  waiting : Option Nat
  merge : Option (Nat × Nat)
  measureDue : Bool
  aborted : Bool
  lastTick : Option (Nat × Nat × Bool)
  /-- When the channel was next idle after an aborted measurement, and when the latest measurement ended (R341); the level that
  TRIG has held (R334); the gates. -/
  retryFrom : Option Rrp
  measuredAt : Option Rrp
  trig : Bool
  gates : Gates
  deriving DecidableEq, Repr

/-! ### Audio (chapter 13) -/

/-- A gain control (R354): current gain (none for mute), ramp origin, target (none for mute), length and position. -/
structure GainCtl where
  cur : Option Int
  from_ : Int
  target : Option Int
  len : Nat
  pos : Nat
  deriving DecidableEq, Repr

/-- The state of one HPF operation (R356). -/
structure HpfState where
  x1 : Int
  x2 : Int
  y1 : Int
  y2 : Int
  deriving DecidableEq, Repr

/-- A program memory (R352, R365): the program, its register file, filter states by operation, delay memory and number of
executions. -/
structure ProgMem where
  prog : AudioProg
  regs : SMap Int
  hpf : List (Nat × HpfState)
  delay : SMap Int
  execs : Nat
  deriving DecidableEq, Repr

/-- A guest PCM stream's registers (Table 13-7) and its state; waiting until its first sample (R360). -/
structure Stream where
  base : Nat
  ctrl : Nat
  hwPos : Nat
  appPos : Nat
  period : Nat
  startRrp : Rrp
  blocked : Bool
  running : Bool
  overrun : Bool
  underrun : Bool
  starting : Bool
  episode : Bool
  deriving DecidableEq, Repr

/-- The audio router: three program memories, which runs alone or goes out, which comes in, which waits; the fade's
position and length (0 before it begins) and the boundary of its switch; gains; streams; the TDM_CONFIG words in force and
the output values of the latest execution, which the next TDM frame sends (R351); streams held in Hold; the frame boundary
at which the router starts again after AUDIO was off (R368); the position of the latest sample. -/
structure Audio where
  mems : Vector (Option ProgMem) 3
  running : Option (Fin 3)
  incoming : Option (Fin 3)
  waiting : Option (Fin 3)
  fadePos : Nat
  fadeLen : Nat
  swapAt : Option Rrp
  gains : Vector GainCtl 256
  streams : Vector Stream 64
  tdm : List Nat
  tx : List Int
  held : Bool
  restart : Option Rrp
  lastSample : Option Rrp
  deriving DecidableEq, Repr

/-! ### Memory and check units (chapter 14) -/

/-- Where a check job came from (R398): an event of the last, a slice's ring, the dictionary. -/
inductive CheckBy where
  | event
  | ring (s : Nat)
  | dict
  deriving DecidableEq, Repr

/-- A running check job (R398 to R401). -/
structure CheckJob where
  by_ : CheckBy
  start : Nat
  length : Nat
  algorithm : Nat
  comb : Bool
  item : Nat
  resultAddr : Nat
  jobSeq : Nat
  paused : Bool
  deriving DecidableEq, Repr

/-- A check channel's registers (Table 14-9) and its running job. -/
structure CheckCh where
  valid : Bool
  error : Nat
  algorithm : Nat
  seq : Nat
  refused : Bool
  result : Bytes
  job : Option CheckJob
  deriving DecidableEq, Repr

/-- DRAM and the comb: the address bits N of the populated capacity (0 until training succeeds), group states, the rate in
force and a change under way, the two timing sets, what is in force of the masks and ranges written before Bring-up,
refreshes owed, panic levels and the channels each port waits on, faulty banks, and the check channels. -/
structure Memory where
  bitsN : Nat
  /-- The rates trained at the latest Bring-up (R371). -/
  trained : List Nat
  groups : Vector Nat 4
  rate : Nat
  changing : Option Nat
  setA : Nat
  setB : Nat
  setInUse : Bool
  selfRefresh : Bool
  off : Bool
  masks : List Nat
  mirrors : List (Nat × Nat)
  eccs : List (Nat × Nat)
  /-- Words of ECC ranges (by address / 8) whose check bits report an uncorrectable error after a merge (R379); the groups of reads
  that timed out in the latest 1 ms (R377). -/
  poisoned : List Nat
  late : List (Nat × Rrp)
  owed : Vector Nat 16
  panic : Vector Nat 12
  panicChannels : Vector Nat 12
  banks : Vector Bool 64
  secBanks : Vector Bool 8
  pairLost : Bool
  checks : Vector CheckCh 16
  deriving DecidableEq, Repr

/-! ### Host ports and slices (chapter 15) -/

/-- An MSI-X table entry: message address, message data, vector mask. -/
structure MsixEntry where
  addr : Nat
  data : Nat
  masked : Bool
  deriving DecidableEq, Repr

/-- A PCIe port: PERST#, link (Table 15-11), whether the retry time has passed, its MSI-X structures, PASID Enable, power
state. -/
structure Port where
  perst : Bool
  link : Nat
  speed : Nat
  width : Nat
  retryOver : Bool
  disabled : Bool
  msix : Vector MsixEntry 64
  msixPending : List Nat
  msixEnable : Bool
  msixMask : Bool
  pasidEnable : Bool
  d3hot : Bool
  deriving DecidableEq, Repr

/-- The states of a slice (Table 15-8). -/
inductive SliceState where
  | unbound
  | active
  | draining
  | idle
  | resetting
  deriving DecidableEq, Repr

/-- A secure call of a slice (R435): the descriptor as copied, whether the island has taken it, and its reply (status and
payload) once there is one. -/
structure SecureCall where
  desc : Bytes
  taken : Bool
  reply : Option (Nat × Bytes)
  deriving DecidableEq, Repr

/-- A slice: its binding, its state, the result of the latest SLICE_CTRL write, whether a running reset is forced, the
flip ring's indices and doorbells (tail and arrival), the completions that wait for room, the check ring, the call. -/
structure Slice where
  port : Nat
  pasid : Nat
  st : SliceState
  result : Nat
  forced : Bool
  flipHead : Nat
  flipTail : Nat
  flipBells : List (Nat × Rrp)
  flipcWrite : Nat
  waiting : List Bytes
  chkHead : Nat
  chkTail : Nat
  call : Option SecureCall
  windowFaultAt : Option Rrp
  deriving DecidableEq, Repr

/-! ### Isolated worlds (chapter 16) -/

/-- A key of the key area (Table 16-4). -/
structure Key where
  kind : Nat
  id : Nat
  material : Bytes
  deriving DecidableEq, Repr

/-- A division grant (R442). -/
structure Grant where
  base : Nat
  pages : Nat
  word : Nat
  deriving DecidableEq, Repr

/-- The secure island: fuses (life-cycle state, DIVISION fuse, owner key hash), the division mode, its state and the times
of its restarts in the last hour, the measurement registers, the key area and record counter, the grants stored and in
force, the page owner words that transfers have written, the lock, and debug. -/
structure Secure where
  lifeCycle : Nat
  divFuse : Nat
  ownerHash : Option Bytes
  divMode : Nat
  island : Nat
  restartTimes : List Rrp
  mrs : Vector Bytes 16
  mr1Digest : Bytes
  keys : List Key
  counter : Nat
  grants : List Grant
  reserve : Nat
  grantsInForce : List Grant
  reserveInForce : Nat
  owners : SMap (Option Nat)
  lockAt : Option Rrp
  debug : Nat
  challenge : Bytes
  holdoff : Bool
  /-- The latest refused debug response (R451). -/
  refusedAt : Rrp
  tamperLatched : Bool
  /-- Principals whose division fault has been recorded, with the time: at most once per second each (R439). -/
  divFaultAt : List (Nat × Rrp)
  bootStopped : Bool
  deriving DecidableEq, Repr

/-! ### Power, modes and the guard (chapter 17), pins and straps (chapter 20) -/

/-- A running mode transition (R462 to R464). -/
structure Transition where
  origin : Mode
  target : Mode
  committed : Bool
  /-- The frame of its switch or entry at the earliest. -/
  frame : Nat
  deriving DecidableEq, Repr

/-- A guard step (Table 17-10). -/
structure GuardStep where
  source : Nat
  index : Nat
  compare : Nat
  count : Nat
  threshold : Int
  action : Nat
  next : Nat
  deriving DecidableEq, Repr

/-- The guard: its table, the counts of consecutive hits and previous value of each step, and the baselines of the two
panels. -/
structure Guard where
  tableState : Nat
  period : Nat
  steps : List GuardStep
  hits : List Nat
  prev : List (Option Int)
  baselines : Vector (Option Int) 2
  cycles : Nat
  /-- Milliseconds in Watch, from the periods run, and wake failures, kept in AON retention (R490). -/
  watchMs : Nat
  wakeFailures : Nat
  deriving DecidableEq, Repr

/-- The straps (R516). -/
structure Straps where
  nodeId : Nat
  headSel : Bool
  division : Bool
  deriving DecidableEq, Repr

/-- The power controller. -/
structure Power where
  transition : Option Transition
  slot : Option (Mode × Bool)
  result : Nat
  /-- Whose result Mode Request Result shows: 0 a request already settled, 1 that of the running transition, 2 the slot's. -/
  resultOf : Nat
  domains : Vector Nat 18
  /-- Domains asked for power, with whether the asking is a mode transition. -/
  asking : List (Nat × Bool)
  /-- When each domain was asked (R458). -/
  askedAt : Vector Rrp 18
  heldPads : Nat
  offAnswer : Nat
  switchTries : Vector Nat 18
  /-- Groups FLD to DRAM: enable and power-good. -/
  enables : Vector Bool 6
  goods : Vector Bool 6
  oscReady : Bool
  oscEnable : Bool
  waking : Bool
  wakeTries : Nat
  wakeHoldoff : Bool
  wakeCause : Nat
  wakeFailCause : Nat
  /-- Reasons for which FAULT_N is asserted: 0 boot, 1 wake failure, 2 comb pair. -/
  faultN : List Nat
  resetN : Bool
  tripped : Bool
  step : Nat
  sampled : Straps
  nodeId : Nat
  heartbeatMs : Nat
  guard : Guard
  vcore : Nat
  vcorePending : Bool
  clusterMHz : Nat
  fioSafe : Bool
  wakePins : Vector Bool 4
  deriving DecidableEq, Repr

/-! ### Health (chapter 18) -/

/-- The states of a fault record (Table 18-1). -/
inductive FaultState where
  | active
  | clearing
  | closed
  deriving DecidableEq, Repr

/-- A fault record (Table 18-1) with the error code it opened with; reporterKnown once the reporter is decided (R479). -/
structure FaultRec where
  key : Nat
  effect : Nat
  st : FaultState
  reporter : Nat
  devices : Nat
  first : Rrp
  latest : Rrp
  echoes : Nat
  code : Nat
  decided : Bool
  /-- When the condition last cleared (R475). -/
  clearedAt : Rrp
  deriving DecidableEq, Repr

/-- A cause token held (R478). -/
structure Token where
  key : Nat
  first : Rrp
  node : Nat
  effect : Nat
  deriving DecidableEq, Repr

/-- The open inspection record of the day (Table 18-6), without the fields that other state gives. -/
structure Inspection where
  day : Nat
  start : Rrp
  startTime : Nat
  /-- Milliseconds in Watch (the guard's, R490), then frames in Quiet, Bring-up, Run, Degraded, Hold and Service. -/
  modeCounts : Vector Nat 7
  crcChecks : Vector Nat 8
  crcMismatches : Vector Nat 8
  firstReports : Nat
  echoes : Nat
  worstEffect : Nat
  classStart : Nat
  wakeFailures : Nat
  islandRestarts : Nat
  mgmtRestarts : Nat
  touchTests : Vector Nat 8
  actuatorPf : Vector Nat 8
  actuatorState : Vector Nat 8
  takeovers : Nat
  pairReleases : Nat
  debugUnlocks : Nat
  updates : Nat
  causeKeys : List Nat
  monitors : Vector (Option Int) 4
  deriving DecidableEq, Repr

/-- The ledger of the ageing monitors (R486 to R489): the daily worst values, newest first, of each monitor; the worst of the
present day; the latest grades of each monitor, newest first. -/
structure Ledger where
  daily : Vector (List Int) 4
  today : Vector (Option Int) 4
  grades : Vector (List Nat) 4
  deriving DecidableEq, Repr

/-- The health monitor: 64 open record slots (63 for OVERFLOW), the history newest first, the tokens held. -/
structure Health where
  slots : Vector (Option FaultRec) 64
  history : List FaultRec
  tokens : List Token
  insp : Inspection
  checkpoint : Option Inspection
  /-- The latest boundary of inspection days on the raster (R490). -/
  boundaryAt : Rrp
  /-- Closed inspection records, newest first, at most 400. -/
  records : List Bytes
  /-- Records closed while the island restarts, waiting for its signature (R492): how many of the newest. -/
  unsigned : Nat
  /-- The supplies were lost: the day is closed from its checkpoint at the next Bring-up (R490). -/
  supplyLost : Bool
  ledger : Ledger
  deriving DecidableEq, Repr

/-! ### Update (chapter 19) -/

/-- A bank of the boot flash: its state (Table 19-6), the bytes written, and once the image is valid its components, own and
inherited (R497): type, instance, data, digest. -/
structure Bank where
  st : Nat
  image : Bytes
  comps : List (Nat × Nat × Bytes × Bytes)
  deriving DecidableEq, Repr

/-- A copy of the boot state (R504): counter, confirmed bank (0 A, 1 B), whether the other is on trial, Trial Boots. -/
structure BootState where
  counter : Nat
  confirmed : Fin 2
  trial : Bool
  trialBoots : Nat
  deriving DecidableEq, Repr

/-- Update: banks, boot state copies, the bank booted, the fuses' floor, a scheduled activation (frame, whether it was
broadcast), its result, and the old store copy while an image is on trial (R501). -/
structure Update where
  banks : Vector Bank 2
  boot : Vector BootState 2
  booted : Fin 2
  st : Nat
  status : Nat
  floor : Nat
  activation : Option (Nat × Bool)
  result : Nat
  fallbackCause : Nat
  fallbackReport : Bool
  oldStore : Option (SMap DVal)
  /-- Reference frames since the reset of the current Bring-up (R506). -/
  bootFrames : Nat
  deriving DecidableEq, Repr

/-! ### The whole state -/

/-- The state of the device. -/
structure State where
  /-- Commands waiting, first in first out. -/
  pending : List Instr
  /-- The RRP of the latest event (R59). -/
  now : Rrp
  mode : Mode
  dieLink : Bool
  isolated : List Region
  /-- Values of dictionary entries that no other field holds, by index, subindex and path. -/
  dict : SMap DVal
  /-- The configuration store: the committed values of Stored entries (R21). -/
  store : SMap DVal
  /-- Values of slice registers that no other field holds, by slice and offset. Of a 64-bit register at offset x, x + 1 holds
  the low half written and x + 2 the high half latched, each with bit 32 set while it stands (R407). -/
  sregs : SMap Nat
  /-- DRAM, by physical byte address. -/
  dram : SMap Byte
  /-- DRAM writes of the command under way, newest first: empty between commands. -/
  stores : List (Nat × Byte)
  /-- The command under way has cut DRAM's supply or reset it: what was written is lost. False between commands. -/
  dramLost : Bool
  /-- What the device has sent, newest first. -/
  emitted : List Emit
  /-- How many free values have been taken (the model's own field). -/
  free : Nat
  net : Net
  tb : Timebase
  hive : Hive
  fio : Vector FioInput 16
  fioUnknown : Bool
  lasts : Lasts
  outs : Vector Output 8
  spare : Spare
  sentinel : Sentinel
  gpu : Gpu
  media : Media
  touch : Vector TouchCh 8
  haptics : Vector HapticCh 8
  audio : Audio
  mem : Memory
  ports : Vector Port 4
  slices : Vector Slice 32
  sec : Secure
  power : Power
  update : Update
  health : Health
  deriving DecidableEq, Repr

/-! ### Reset

The state while RESET_N holds the device in its first reset: every register at the value its table gives, every unit idle,
no image in boot flash. Values that no table gives are zero (DESIGN CHOICE, log entry 1). -/

/-- RRP (0, 0, 0), where the raster starts (R62). -/
def zeroRrp : Rrp := ⟨0, 0, 0⟩

/-- The mailbox registers at reset (Table 2-8). -/
def resetMailbox : Mailbox := ⟨0, false, false, false, false, [], [], none, []⟩

/-- The dictionary and networks at reset. -/
def resetNet : Net :=
  { restarting := false, nmt := .initialising, tickets := [], sources := [], domains := [],
    mailboxes := Vector.replicate 4 resetMailbox, forwards := [], fragments := [], nextMsgNo := 0, canResult := none,
    syncStopped := false, emcyDeferred := [], emcyHeld := [], inhibit := [] }

/-- The timebase at reset: FREE_RUN (R62). -/
def resetTimebase : Timebase :=
  { rate := .hz60, st := .freeRun, active := 0, status := Vector.replicate 4 .absent, count := Vector.replicate 4 0,
    missing := 0, phaseErr := 0, holdFrames := 0, mismatch := 0, cadence := 0, grandmaster := 0,
    ptpHops := Vector.replicate 2 0, ptpSlave := Vector.replicate 2 false, ptpPort := 0, gptpN := 0, ptpEver := false,
    everLocked := false, headSource := 0, stepDue := false, expected := none, copyFaults := 0 }

/-- The hive link at reset: not enumerated. -/
def resetHive : Hive :=
  { pos := 0, enumerated := false, size := 0, closed := false, excluded := false, enumStopped := false, hopDelayPs := 0, hopDelayOutPs := 0,
    cellErrors := 0, failedLanes := [], barriers := [], barrierResult := 0 }

/-- A last slot at reset: empty. -/
def resetSlot : Slot := ⟨.empty, [], none, 0, false⟩

/-- The last executor at reset: no last active. -/
def resetLasts : Lasts :=
  { slots := Vector.replicate 4 resetSlot, active := 0, lastService := 0, cycle := 0, cycleFrame := 0, request := none, result := 0,
    switchFrame := 0, marginBeyond := false, marginAt := none, windowSet := 0,
    windowOpen := false, monitors := [], lock := none, row := none, waiting := [], holdClass := 0, verdict := ⟨0, false, false⟩ }

/-- A verified surface at reset: nothing shown. -/
def resetSurface : Surface :=
  { bufs := Vector.replicate 2 [], shown := none, shownTag := 0, eligible := none, eligibleTag := 0, lastTag := none,
    age := 0, standIn := 0 }

/-- An output at reset: not run, no sink, empty. -/
def resetOutput : Output :=
  { scan := .notRun, firstFrame := none, startAt := zeroRrp, layers := Vector.replicate 16 none, pending := [],
    fences := [], frame := zeroRrp, frameJ := 0, gammaForce := none, gammaNext := [],
    matForce := Vector.replicate 16 none, matNext := [], base := none, pass := none,
    ready := none, passAsked := false, bandFrom := [], spareFrom := none, lead := [], sealed := [], missing := [], immediate := [],
    bandStart := zeroRrp, emptying := [], sendFrame := zeroRrp,
    link := .noSink, hpd := false, phyAttempts := 0, phyStopped := false, linkStep := 0, lvdsMap := 0, idling := false, auxQueue := [], takeover := .engine, armedAt := zeroRrp,
    pair := .notPaired, pairRun := 0, matchRun := 0, pairCond := false, healthyLow := false, healthyPin := 0xFF, crcReg := 0, crcExp := 0, crcAny := false,
    recNext := false, recActive := false, recFlags := 0, recMissing := false, recCount := 0, cells := [],
    surfaces := Vector.replicate 2 resetSurface, carrying := false, sendLive := false, stopping := none, layerP := false, duty := 0 }

/-- The sentinel renderer at reset: no atlas placed. -/
def resetSentinel : Sentinel := ⟨0, 0, none, []⟩

/-- A GPU context at reset. -/
def resetGpuCtx : GpuCtx :=
  { head := 0, tail := 0, arrivals := [], job := none, pass := none, progs := Vector.replicate 3 none,
    res := Vector.replicate 3 [], checked := [], state := (0, 0), window := none, preempted := false, saved := [], saveBlocked := false }

/-- A shader cluster at reset: off. -/
def resetCluster : Cluster := ⟨false, false, none, false, false, []⟩

/-- The GPU at reset. -/
def resetGpu : Gpu :=
  { ctxs := Vector.replicate 34 resetGpuCtx, clusters := Vector.replicate 12 resetCluster, hits := Vector.replicate 8 none,
    hitNext := Vector.replicate 8 none, compJobs := [], quads := 0, quadFault := false }

/-- A feed at reset: not live. -/
def resetFeed : Feed :=
  { joined := false, live := false, suspended := false, ssrc := none, nextSeq := none, held := [], gap := false,
    curTs := none, pictureReady := [], waitIrap := true, place := none, made := 0, scaling := [], newest := none, shown := none,
    shownRrp := zeroRrp, lastNew := 0, everShown := false, fallback := false, emptied := false }

/-- The media subsystem at reset. -/
def resetCapture : Capture :=
  { signal := .nothing, width := 0, height := 0, mhz := 0, hpdHold := false, hpd := false, job := none, toFeeds := false }

def resetMedia : Media :=
  { lastDone := zeroRrp, captures := Vector.replicate 2 resetCapture, streams := [], rings := Vector.replicate 32 ⟨0, 0, [], none⟩,
    feeds := Vector.replicate 32 resetFeed }

/-- A touch channel at reset: not running. -/
def resetTouch : TouchCh :=
  { st := .notRunning, step := 1, nextStep := none, raw := [], txSelf := [], rxSelf := [], base := [], txBase := [],
    rxBase := [], frozenSum := [], suspects := [], contacts := [], known := [], rejected := [], gloves := [], blocked := [],
    fired := [], overSlot := none, ended := none, got := [], slotEnd := none, slotSelf := false, first := false, idleSince := zeroRrp,
    scanFrom := zeroRrp, badTx := [], badRx := [], testFrames := [],
    testing := false, captureFrames := [], capturing := false, linkUp := false, crcFails := [], linkDelayNs := 0,
    slotNo := 0 }

/-- A haptic channel at reset: not enabled. -/
def resetHaptic : HapticCh :=
  { st := .notEnabled, effect := 0xFF, gain := 64, start := zeroRrp, waiting := none, merge := none, measureDue := false,
    aborted := false, lastTick := none, retryFrom := none, measuredAt := none, trig := false, gates := .undriven }

/-- A gain control at reset: 0 dB, the default of its target (R355, Table 13-9). -/
def resetGain : GainCtl := ⟨some 0, 0, some 0, 0, 0⟩

/-- A guest PCM stream at reset (Table 13-7). -/
def resetStream : Stream :=
  { base := 0, ctrl := 0, hwPos := 0, appPos := 0, period := 0, startRrp := zeroRrp, blocked := false, running := false,
    overrun := false, underrun := false, starting := false, episode := false }

/-- The audio router at reset: no program. -/
def resetAudio : Audio :=
  { mems := Vector.replicate 3 none, running := none, incoming := none, waiting := none, fadePos := 0, fadeLen := 0,
    swapAt := none, gains := Vector.replicate 256 resetGain, streams := Vector.replicate 64 resetStream, tdm := [],
    tx := [], held := false, restart := none, lastSample := none }

/-- A check channel at reset (Table 14-9). -/
def resetCheck : CheckCh := ⟨false, 0, 0, 0, false, zeroBytes 32, none⟩

/-- The memories at reset: DRAM not trained. -/
def resetMemory : Memory :=
  { bitsN := 0, trained := [], groups := Vector.replicate 4 0, rate := 0, changing := none, setA := 0, setB := 0, setInUse := false,
    selfRefresh := false, off := false, masks := [], mirrors := [], eccs := [], poisoned := [], late := [], owed := Vector.replicate 16 0,
    panic := Vector.replicate 12 0, panicChannels := Vector.replicate 12 0, banks := Vector.replicate 64 false,
    secBanks := Vector.replicate 8 false, pairLost := false, checks := Vector.replicate 16 resetCheck }

/-- A port at reset: PERST# asserted, link down. -/
def resetPort : Port :=
  { perst := true, link := 0, speed := 0, width := 0, retryOver := false, disabled := false,
    msix := Vector.replicate 64 ⟨0, 0, true⟩, msixPending := [], msixEnable := false, msixMask := false,
    pasidEnable := false, d3hot := false }

/-- A slice at reset: unbound. -/
def resetSlice : Slice :=
  { port := 0, pasid := 0, st := .unbound, result := 0, forced := false, flipHead := 0, flipTail := 0, flipBells := [],
    flipcWrite := 0, waiting := [], chkHead := 0, chkTail := 0, call := none, windowFaultAt := none }

/-- The secure island at reset: booting, every measurement register zero (R428). -/
def resetSecure : Secure :=
  { lifeCycle := 2, divFuse := 0, ownerHash := none, divMode := 1, island := 0, restartTimes := [],
    mrs := Vector.replicate 16 (zeroBytes 32), mr1Digest := [], keys := [], counter := 0, grants := [], reserve := 256,
    grantsInForce := [], reserveInForce := 256, owners := [], lockAt := none, debug := 0, challenge := zeroBytes 32,
    holdoff := false, refusedAt := zeroRrp, tamperLatched := false, divFaultAt := [], bootStopped := false }

/-- The guard at reset: no table. -/
def resetGuard : Guard :=
  { tableState := 0, period := 100, steps := [], hits := [], prev := [], baselines := Vector.replicate 2 none, cycles := 0,
    watchMs := 0, wakeFailures := 0 }

/-- The power controller at reset: every domain off, RESET_N asserted, FAULT_N released (R455). -/
def resetPower : Power :=
  { transition := none, slot := none, result := 0, resultOf := 0, domains := Vector.replicate 18 0, asking := [], heldPads := 0,
    askedAt := Vector.replicate 18 zeroRrp, offAnswer := 0, switchTries := Vector.replicate 18 0, enables := Vector.replicate 6 false,
    goods := Vector.replicate 6 false, oscReady := false, oscEnable := false, waking := false, wakeTries := 0,
    wakeHoldoff := false, wakeCause := 0, wakeFailCause := 0, faultN := [], resetN := true, tripped := false,
    step := 0, sampled := ⟨0, false, false⟩, nodeId := 0, heartbeatMs := 1000,
    guard := resetGuard, vcore := 800, vcorePending := false, clusterMHz := 0, fioSafe := true,
    wakePins := Vector.replicate 4 false }

/-- Update at reset: bank A confirmed and booted, nothing held in either. -/
def resetUpdate : Update :=
  { banks := Vector.replicate 2 ⟨0, [], []⟩, boot := Vector.replicate 2 ⟨0, 0, false, 0⟩, booted := 0, st := 0, status := 0,
    floor := 0, activation := none, result := 0, fallbackCause := 0, fallbackReport := false, oldStore := none, bootFrames := 0 }

/-- An open inspection record with nothing counted. -/
def resetInspection : Inspection :=
  { day := 0, start := zeroRrp, startTime := 0, modeCounts := Vector.replicate 7 0, crcChecks := Vector.replicate 8 0,
    crcMismatches := Vector.replicate 8 0, firstReports := 0, echoes := 0, worstEffect := 0, classStart := 1,
    wakeFailures := 0, islandRestarts := 0, mgmtRestarts := 0, touchTests := Vector.replicate 8 0,
    actuatorPf := Vector.replicate 8 0, actuatorState := Vector.replicate 8 0, takeovers := 0, pairReleases := 0,
    debugUnlocks := 0, updates := 0, causeKeys := [], monitors := Vector.replicate 4 none }

/-- The health monitor at reset: no record open. -/
def resetHealth : Health :=
  { slots := Vector.replicate 64 none, history := [], tokens := [], insp := resetInspection, checkpoint := none, boundaryAt := zeroRrp,
    records := [], unsigned := 0, supplyLost := false,
    ledger := ⟨Vector.replicate 4 [], Vector.replicate 4 none, Vector.replicate 4 []⟩ }

/-- The machine right after reset: its supplies off, every register at its reset value, nothing in memory. -/
def State.reset : State :=
  { pending := [], now := zeroRrp, mode := .off, dieLink := true, isolated := [], dict := [], store := [], sregs := [],
    dram := [], stores := [], dramLost := false, emitted := [], free := 0, net := resetNet, tb := resetTimebase, hive := resetHive,
    fio := Vector.replicate 16 ⟨false, zeroRrp⟩, fioUnknown := false, lasts := resetLasts,
    outs := Vector.replicate 8 resetOutput, spare := ⟨none, [], []⟩, sentinel := resetSentinel, gpu := resetGpu,
    media := resetMedia, touch := Vector.replicate 8 resetTouch, haptics := Vector.replicate 8 resetHaptic,
    audio := resetAudio, mem := resetMemory, ports := Vector.replicate 4 resetPort,
    slices := Vector.replicate 32 resetSlice, sec := resetSecure, power := resetPower, update := resetUpdate,
    health := resetHealth }

end Sys2Proof.Machine
end

