-- ==== Sys2Proof/Machine/DictTable.lean ====
section
/-! DEFINITION. The object dictionary's entries, row by row from the entry tables of the chapters: index, subindex, type,
access, default, persistence and range (R19 to R25). -/

namespace Sys2Proof.Machine

/-- The data types of Table 2-1. -/
inductive DType where
  | bool
  | i8
  | i16
  | i32
  | u8
  | u16
  | u32
  | u64
  | str
  | oct
  | dom
  deriving DecidableEq, Repr

/-- The access codes of Table 0-4. -/
inductive Acc where
  | ro
  | rw
  | wo
  | w1c
  | rwl
  | sec
  deriving DecidableEq, Repr

/-- The persistence classes (R21). -/
inductive Persist where
  | vol
  | stored
  | fixed
  deriving DecidableEq, Repr

/-- The range of an entry's value (R22, R6): any of its type, a span of numbers or of signed numbers, listed values, a
mask of defined bits, or an RRP with a valid LINE (R60). -/
inductive Range where
  | any
  | span (lo hi : Nat)
  | signed (lo hi : Int)
  | among (vs : List Nat)
  | mask (m : Nat)
  | rrp
  deriving DecidableEq, Repr

/-- The modes an entry's Meaning restricts writes to (R22). -/
inductive Only where
  | always
  | service
  | serviceOrBringup
  deriving DecidableEq, Repr

/-- A row of a dictionary table: a run of n indices from ix at a stride, and a run of subindices. size is the largest length
of a string or DOMAIN. wpaths is the write path mask: CAN 0, ETH 1, PCIE0 to PCIE3 2 to 5, SVC 6. -/
structure DRow where
  ix : Nat
  n : Nat := 1
  stride : Nat := 1
  lo : Nat := 0
  hi : Nat := 0
  ty : DType
  acc : Acc := .rw
  dflt : DVal := .num 0
  per : Persist := .stored
  range : Range := .any
  size : Nat := 0
  pdo : Bool := false
  only : Only := .always
  wpaths : Nat := 0x7F
  perPath : Bool := false
  deriving DecidableEq, Repr

/-- The rates the DRAM controller supports, MT/s (R371). -/
def dramRates : List Nat := [3200, 4267, 5500, 6400, 7500, 8533]

/-- The communication profile entries (Table 2-11). Defaults that depend on the unit or the node stand in the views. -/
def rows02 : List DRow := [
  { ix := 0x1000, ty := .u32, acc := .ro, per := .fixed },
  { ix := 0x1001, ty := .u8, acc := .ro, per := .vol },
  { ix := 0x1003, ty := .u8, per := .vol, range := .among [0] },
  { ix := 0x1003, lo := 0x01, hi := 0x10, ty := .u32, acc := .ro, per := .vol },
  { ix := 0x1005, ty := .u32, dflt := .num 0x80 },
  { ix := 0x1006, ty := .u32 },
  { ix := 0x1008, ty := .str, acc := .ro, per := .fixed, dflt := .raw (ascii "VL8840"), size := 6 },
  { ix := 0x1009, ty := .str, acc := .ro, per := .fixed, dflt := .raw (ascii "B0"), size := 2 },
  { ix := 0x100A, ty := .str, acc := .ro, per := .fixed, size := 32 },
  { ix := 0x1010, lo := 1, hi := 1, ty := .u32, per := .vol, dflt := .num 1 },
  { ix := 0x1011, lo := 1, hi := 1, ty := .u32, per := .vol, dflt := .num 1 },
  { ix := 0x1014, ty := .u32 },
  { ix := 0x1015, ty := .u16, dflt := .num 10 },
  { ix := 0x1017, ty := .u16, dflt := .num 1000 },
  { ix := 0x1018, lo := 1, hi := 1, ty := .u32, acc := .ro, per := .fixed, dflt := .num 0x000007A3 },
  { ix := 0x1018, lo := 2, hi := 2, ty := .u32, acc := .ro, per := .fixed, dflt := .num 0x00008840 },
  { ix := 0x1018, lo := 3, hi := 3, ty := .u32, acc := .ro, per := .fixed, dflt := .num 0x000000B0 },
  { ix := 0x1018, lo := 4, hi := 4, ty := .u32, acc := .ro, per := .fixed },
  { ix := 0x1019, ty := .u8, range := .among (0 :: rangeFrom 2 239) },
  -- PDO communication: COB-ID (bit 31 disables), transmission type, inhibit time, event timer, SYNC start value (CiA 301)
  { ix := 0x1400, n := 8, ty := .u8, acc := .ro, per := .fixed, dflt := .num 5 },
  { ix := 0x1400, n := 8, lo := 1, hi := 1, ty := .u32, dflt := .num 0x80000000 },
  { ix := 0x1400, n := 8, lo := 2, hi := 2, ty := .u8 },
  { ix := 0x1400, n := 8, lo := 3, hi := 3, ty := .u16 },
  { ix := 0x1400, n := 8, lo := 5, hi := 5, ty := .u16 },
  { ix := 0x1600, n := 8, ty := .u8, range := .span 0 64 },
  { ix := 0x1600, n := 8, lo := 1, hi := 64, ty := .u32 },
  { ix := 0x1800, n := 8, ty := .u8, acc := .ro, per := .fixed, dflt := .num 6 },
  { ix := 0x1800, n := 8, lo := 1, hi := 1, ty := .u32, dflt := .num 0x80000000 },
  { ix := 0x1800, n := 8, lo := 2, hi := 2, ty := .u8 },
  { ix := 0x1800, n := 8, lo := 3, hi := 3, ty := .u16 },
  { ix := 0x1800, n := 8, lo := 5, hi := 5, ty := .u16 },
  { ix := 0x1800, n := 8, lo := 6, hi := 6, ty := .u8 },
  { ix := 0x1A00, n := 8, ty := .u8, range := .span 0 64 },
  { ix := 0x1A00, n := 8, lo := 1, hi := 64, ty := .u32 },
  { ix := 0x1D00, lo := 1, hi := 2, ty := .bool, dflt := .num 1 },
  { ix := 0x1D01, ty := .bool },
  { ix := 0x1D02, ty := .bool },
  { ix := 0x1D04, lo := 1, hi := 2, ty := .u32, wpaths := 0x7C },
  { ix := 0x1D05, lo := 1, hi := 2, ty := .u32 },
  { ix := 0x1D06, lo := 1, hi := 2, ty := .u32 },
  { ix := 0x1D08, ty := .u32, acc := .sec },
  { ix := 0x1D09, ty := .u16, acc := .ro, per := .vol },
  { ix := 0x1D0A, ty := .u32, acc := .ro, per := .vol },
  { ix := 0x1D10, ty := .u8, acc := .ro, per := .vol },
  { ix := 0x1D11, ty := .u8, acc := .ro, per := .vol },
  { ix := 0x1FA0, lo := 1, hi := 1, ty := .u32, acc := .ro, per := .vol, perPath := true },
  { ix := 0x1FA0, lo := 2, hi := 2, ty := .u32, per := .vol, perPath := true },
  { ix := 0x1FA0, lo := 3, hi := 3, ty := .dom, acc := .ro, per := .vol, dflt := .raw [], perPath := true }]

/-- The timebase and field-input entries (Table 3-10). -/
def rows03 : List DRow := [
  { ix := 0x2200, ty := .u8, dflt := .num 1, range := .span 1 3 },
  { ix := 0x2201, lo := 1, hi := 1, ty := .u8, dflt := .num 1, range := .span 0 4 },
  { ix := 0x2201, lo := 2, hi := 2, ty := .u8, dflt := .num 2, range := .span 0 4 },
  { ix := 0x2201, lo := 3, hi := 3, ty := .u8, dflt := .num 0, range := .span 0 4 },
  { ix := 0x2202, ty := .u8, dflt := .num 2, range := .span 0 3 },
  { ix := 0x2203, ty := .i32, range := .signed (-4194304) 4194303 },
  { ix := 0x2204, ty := .u8, range := .span 0 127 },
  { ix := 0x2205, ty := .u8, acc := .ro, per := .vol, pdo := true },
  { ix := 0x2206, ty := .u8, acc := .ro, per := .vol, pdo := true },
  { ix := 0x2206, lo := 1, hi := 4, ty := .u8, acc := .ro, per := .vol },
  { ix := 0x2207, ty := .u64, acc := .ro, per := .vol, pdo := true },
  { ix := 0x2208, ty := .i32, acc := .ro, per := .vol },
  { ix := 0x2209, ty := .i32, acc := .ro, per := .vol },
  { ix := 0x220A, ty := .u32, acc := .ro, per := .vol },
  { ix := 0x220B, ty := .i32, acc := .ro, per := .vol },
  { ix := 0x220C, ty := .u8, acc := .ro, per := .vol },
  { ix := 0x220D, lo := 1, hi := 1, ty := .u8, acc := .ro, per := .vol },
  { ix := 0x220D, lo := 2, hi := 2, ty := .bool, acc := .ro, per := .vol },
  { ix := 0x220D, lo := 3, hi := 4, ty := .u32, acc := .ro, per := .vol },
  { ix := 0x220E, ty := .u8, acc := .ro, per := .vol },
  { ix := 0x5F00, lo := 0x01, hi := 0x10, ty := .u16 },
  { ix := 0x5F01, ty := .u16, acc := .ro, per := .vol, pdo := true },
  { ix := 0x5F02, lo := 0x01, hi := 0x10, ty := .u64, acc := .ro, per := .vol }]

/-- The entries of the lasts (Table 4-15). -/
def rows04 : List DRow := [
  { ix := 0x2210, lo := 1, hi := 4, ty := .u8, acc := .ro, per := .vol, pdo := true },
  { ix := 0x2211, lo := 1, hi := 4, ty := .dom, acc := .wo, per := .vol, dflt := .raw [], size := 0x400000 },
  { ix := 0x2212, lo := 1, hi := 4, ty := .u32, acc := .ro, per := .vol },
  { ix := 0x2213, lo := 1, hi := 4, ty := .oct, acc := .ro, per := .vol, dflt := .raw [], size := 16 },
  { ix := 0x2214, lo := 1, hi := 4, ty := .u8, acc := .ro, per := .vol },
  { ix := 0x2215, ty := .u8, acc := .ro, per := .vol, pdo := true },
  { ix := 0x2216, ty := .u64, per := .vol },
  { ix := 0x2217, ty := .u8, acc := .ro, per := .vol, pdo := true },
  { ix := 0x2218, ty := .u32, acc := .ro, per := .vol },
  { ix := 0x2219, ty := .u8, acc := .ro, per := .vol, dflt := .num 1 },
  { ix := 0x221A, ty := .u32, acc := .ro, per := .vol },
  { ix := 0x221B, ty := .bool, acc := .ro, per := .vol, pdo := true },
  { ix := 0x2220, ty := .u32, acc := .ro, per := .vol, pdo := true },
  { ix := 0x2221, lo := 1, hi := 1, ty := .u64, acc := .ro, per := .vol },
  { ix := 0x2221, lo := 2, hi := 2, ty := .u16, acc := .ro, per := .vol },
  { ix := 0x2221, lo := 3, hi := 3, ty := .u8, acc := .ro, per := .vol },
  { ix := 0x2222, ty := .u16, per := .vol, dflt := .num 1, range := .span 1 512, perPath := true },
  { ix := 0x2223, lo := 1, hi := 2, ty := .u8, acc := .ro, per := .vol },
  { ix := 0x2223, lo := 3, hi := 5, ty := .u32, acc := .ro, per := .vol }]

/-- The composition entries of output n (Table 6-12): index 0x3n01 for output n, a stride of 0x100. -/
def rows06 : List DRow := [
  { ix := 0x3001, n := 8, stride := 0x100, ty := .u64, acc := .ro, per := .vol, pdo := true },
  { ix := 0x3002, n := 8, stride := 0x100, ty := .u64, acc := .ro, per := .vol },
  { ix := 0x3003, n := 8, stride := 0x100, ty := .u8, acc := .ro, per := .vol, pdo := true },
  { ix := 0x3004, n := 8, stride := 0x100, lo := 0x01, hi := 0x10, ty := .u8, acc := .ro, per := .vol },
  { ix := 0x3005, n := 8, stride := 0x100, lo := 0x01, hi := 0x10, ty := .u64, acc := .ro, per := .vol },
  { ix := 0x3006, n := 8, stride := 0x100, ty := .dom, size := 2048 },
  { ix := 0x3007, n := 8, stride := 0x100, ty := .u32, acc := .ro, per := .vol },
  { ix := 0x3008, n := 8, stride := 0x100, ty := .u32, acc := .ro, per := .vol },
  { ix := 0x3009, n := 8, stride := 0x100, ty := .u32, acc := .ro, per := .vol },
  { ix := 0x3020, n := 8, stride := 0x100, lo := 1, hi := 2, ty := .u64, acc := .rwl },
  { ix := 0x3021, n := 8, stride := 0x100, ty := .u32, acc := .ro, per := .vol },
  { ix := 0x3028, n := 8, stride := 0x100, lo := 1, hi := 1, ty := .u64, acc := .rwl },
  { ix := 0x3028, n := 8, stride := 0x100, lo := 2, hi := 2, ty := .u8, acc := .rwl, dflt := .num 8, range := .span 1 255 },
  { ix := 0x3028, n := 8, stride := 0x100, lo := 3, hi := 3, ty := .u8, dflt := .num 1, range := .span 1 60 },
  { ix := 0x3028, n := 8, stride := 0x100, lo := 4, hi := 4, ty := .u8, acc := .ro, per := .vol }]

/-- The custom matrices of one output, at 0x3n10 to 0x3n1F: M row by row (the diagonal is :01, :05 and :09), p, and the
commit (R153). -/
def matrixRows (n : Nat) : List DRow :=
  let ix := 0x3010 + n * 0x100
  [{ ix := ix, n := 16, lo := 1, hi := 1, ty := .i16, dflt := .num 4096 },
   { ix := ix, n := 16, lo := 2, hi := 4, ty := .i16 },
   { ix := ix, n := 16, lo := 5, hi := 5, ty := .i16, dflt := .num 4096 },
   { ix := ix, n := 16, lo := 6, hi := 8, ty := .i16 },
   { ix := ix, n := 16, lo := 9, hi := 9, ty := .i16, dflt := .num 4096 },
   { ix := ix, n := 16, lo := 10, hi := 12, ty := .i16, range := .signed 0 4095 },
   { ix := ix, n := 16, lo := 13, hi := 13, ty := .u8, acc := .wo, per := .vol, range := .span 1 1 }]

/-- The matrix rows of every output. -/
def matrixRowsAll : List DRow := (rangeFrom 0 8).flatMap matrixRows

/-- The protected content entries (Table 7-11). -/
def rows07 : List DRow := [
  { ix := 0x3030, n := 8, stride := 0x100, ty := .u16, acc := .ro, per := .vol },
  { ix := 0x3031, n := 8, stride := 0x100, lo := 1, hi := 2, ty := .u32, acc := .ro, per := .vol },
  { ix := 0x3031, n := 8, stride := 0x100, lo := 3, hi := 3, ty := .u64, acc := .ro, per := .vol },
  { ix := 0x3032, n := 8, stride := 0x100, ty := .u32, acc := .ro, per := .vol, pdo := true },
  { ix := 0x3033, n := 8, stride := 0x100, ty := .u8, acc := .ro, per := .vol, pdo := true },
  { ix := 0x3034, n := 8, stride := 0x100, ty := .u8, acc := .wo, per := .vol, range := .span 1 1 },
  { ix := 0x3035, n := 8, stride := 0x100, lo := 1, hi := 2, ty := .u32, acc := .ro, per := .vol, pdo := true },
  { ix := 0x3036, n := 8, stride := 0x100, lo := 1, hi := 2, ty := .u8, acc := .ro, per := .vol },
  { ix := 0x3037, n := 8, stride := 0x100, lo := 1, hi := 2, ty := .u32, acc := .ro, per := .vol },
  { ix := 0x3038, n := 8, stride := 0x100, ty := .u32, acc := .ro, per := .vol },
  { ix := 0x5F03, ty := .u8, acc := .ro, per := .vol },
  { ix := 0x5F03, lo := 1, hi := 1, ty := .u32, acc := .ro, per := .vol },
  { ix := 0x5F08, lo := 1, hi := 64, ty := .u32, per := .vol, pdo := true },
  { ix := 0x5F0A, ty := .u16, per := .vol, perPath := true },
  { ix := 0x5F0B, lo := 1, hi := 1, ty := .u8, acc := .ro, per := .vol, dflt := .num 5 },
  { ix := 0x5F0B, lo := 2, hi := 2, ty := .u64, acc := .ro, per := .vol }]

/-- The scan-out entries of output n (Table 8-9). -/
def rows08 : List DRow := [
  { ix := 0x3040, n := 8, stride := 0x100, ty := .u8, acc := .ro, per := .vol, pdo := true },
  { ix := 0x3041, n := 8, stride := 0x100, ty := .u8, acc := .ro, per := .vol, pdo := true },
  { ix := 0x3042, n := 8, stride := 0x100, lo := 1, hi := 2, ty := .u8, acc := .ro, per := .vol },
  { ix := 0x3043, n := 8, stride := 0x100, ty := .u32, acc := .ro, per := .vol },
  { ix := 0x3044, n := 8, stride := 0x100, ty := .dom, acc := .ro, per := .vol, dflt := .raw [], size := 4096 },
  { ix := 0x3045, n := 8, stride := 0x100, ty := .bool, acc := .ro, per := .vol },
  { ix := 0x3046, n := 8, stride := 0x100, ty := .oct, acc := .ro, per := .vol, dflt := .raw [], size := 16 },
  { ix := 0x3047, n := 8, stride := 0x100, lo := 1, hi := 1, ty := .oct, acc := .wo, per := .vol, dflt := .raw [], size := 21 },
  { ix := 0x3047, n := 8, stride := 0x100, lo := 2, hi := 2, ty := .oct, acc := .ro, per := .vol, dflt := .raw [], size := 17 },
  { ix := 0x3048, n := 8, stride := 0x100, lo := 1, hi := 1, ty := .bool, per := .vol, only := .service },
  { ix := 0x3048, n := 8, stride := 0x100, lo := 2, hi := 2, ty := .oct, acc := .wo, per := .vol, dflt := .raw [], size := 64, only := .service },
  { ix := 0x3049, n := 8, stride := 0x100, ty := .u8, per := .vol, range := .span 0 7, only := .service },
  { ix := 0x304A, n := 8, stride := 0x100, ty := .u32, per := .vol, dflt := .num 0xFF808080 },
  { ix := 0x304B, n := 8, stride := 0x100, ty := .u32, acc := .ro, per := .vol },
  { ix := 0x304C, n := 8, stride := 0x100, ty := .u8, acc := .ro, per := .vol, pdo := true },
  { ix := 0x304D, n := 8, stride := 0x100, ty := .u64, acc := .ro, per := .vol },
  { ix := 0x304E, n := 8, stride := 0x100, ty := .bool },
  { ix := 0x304F, n := 8, stride := 0x100, ty := .u8, range := .span 0 1 },
  { ix := 0x3050, n := 8, stride := 0x100, lo := 1, hi := 1, ty := .u8, acc := .rwl, dflt := .num 0xFF, range := .among [0, 1, 2, 3, 4, 5, 6, 7, 0xFF] },
  { ix := 0x3050, n := 8, stride := 0x100, lo := 2, hi := 2, ty := .u16, dflt := .num 300, range := .span 1 400 },
  { ix := 0x3050, n := 8, stride := 0x100, lo := 3, hi := 3, ty := .u16, dflt := .num 1000, range := .span 0 1000 },
  { ix := 0x3050, n := 8, stride := 0x100, lo := 4, hi := 4, ty := .u16, dflt := .num 100, range := .span 0 1000 },
  { ix := 0x3050, n := 8, stride := 0x100, lo := 5, hi := 5, ty := .bool, acc := .rwl, dflt := .num 1 }]

/-- The media entries (Table 10-4); feed f stands at 0x5740 + f. -/
def rows10 : List DRow := [
  { ix := 0x5700, lo := 1, hi := 2, ty := .bool },
  { ix := 0x5701, lo := 1, hi := 2, ty := .u8, acc := .ro, per := .vol, pdo := true },
  { ix := 0x5702, lo := 1, hi := 2, ty := .u64, acc := .ro, per := .vol },
  { ix := 0x5703, lo := 1, hi := 2, ty := .dom, size := 256 },
  { ix := 0x5704, lo := 1, hi := 2, ty := .u32, acc := .ro, per := .vol },
  { ix := 0x5720, lo := 1, hi := 1, ty := .u64, acc := .rwl },
  { ix := 0x5720, lo := 2, hi := 2, ty := .u32, acc := .rwl },
  { ix := 0x5740, n := 32, lo := 1, hi := 1, ty := .u16, dflt := .num 0xFFFF },
  { ix := 0x5740, n := 32, lo := 2, hi := 2, ty := .u8, range := .span 0 4 },
  { ix := 0x5740, n := 32, lo := 3, hi := 3, ty := .u32 },
  { ix := 0x5740, n := 32, lo := 4, hi := 4, ty := .u16 },
  { ix := 0x5740, n := 32, lo := 5, hi := 5, ty := .u8, range := .among (rangeFrom 0x60 32 ++ rangeFrom 0xE0 32 ++ [0]) },
  { ix := 0x5740, n := 32, lo := 6, hi := 6, ty := .u32 },
  { ix := 0x5740, n := 32, lo := 7, hi := 7, ty := .u64 },
  { ix := 0x5740, n := 32, lo := 8, hi := 8, ty := .u32, dflt := .num 0xFF000000, range := .mask 0xFF0F0100 },
  { ix := 0x5740, n := 32, lo := 9, hi := 9, ty := .u32, dflt := .num 0xFF000000 },
  { ix := 0x5740, n := 32, lo := 10, hi := 10, ty := .u16, dflt := .num 30 },
  { ix := 0x5740, n := 32, lo := 11, hi := 11, ty := .u8, range := .span 0 2 },
  { ix := 0x5740, n := 32, lo := 12, hi := 12, ty := .u8, acc := .ro, per := .vol, pdo := true },
  { ix := 0x5740, n := 32, lo := 13, hi := 13, ty := .u64, acc := .ro, per := .vol },
  { ix := 0x5740, n := 32, lo := 14, hi := 15, ty := .u32, acc := .ro, per := .vol }]

/-- The touch entries of channel n (Table 11-7): index 0x4n00, a stride of 0x100. -/
def rows11 : List DRow := [
  { ix := 0x4000, n := 8, stride := 0x100, ty := .u8, acc := .ro, per := .vol, pdo := true },
  { ix := 0x4001, n := 8, stride := 0x100, ty := .u8, acc := .ro, per := .vol, pdo := true },
  { ix := 0x4002, n := 8, stride := 0x100, ty := .u8, dflt := .num 6, range := .span 1 6 },
  { ix := 0x4003, n := 8, stride := 0x100, lo := 1, hi := 1, ty := .u32, dflt := .num 1000, range := .span 100 3600000 },
  { ix := 0x4003, n := 8, stride := 0x100, lo := 2, hi := 2, ty := .u32, dflt := .num 2000, range := .span 100 3600000 },
  { ix := 0x4003, n := 8, stride := 0x100, lo := 3, hi := 3, ty := .u32, dflt := .num 5000, range := .span 100 3600000 },
  { ix := 0x4003, n := 8, stride := 0x100, lo := 4, hi := 4, ty := .u32, dflt := .num 30000, range := .span 100 3600000 },
  { ix := 0x4003, n := 8, stride := 0x100, lo := 5, hi := 5, ty := .u32, dflt := .num 300000, range := .span 100 3600000 },
  { ix := 0x4004, n := 8, stride := 0x100, lo := 1, hi := 1, ty := .u16, dflt := .num 400 },
  { ix := 0x4004, n := 8, stride := 0x100, lo := 2, hi := 2, ty := .u16, dflt := .num 200 },
  { ix := 0x4004, n := 8, stride := 0x100, lo := 3, hi := 3, ty := .u16, dflt := .num 120 },
  { ix := 0x4004, n := 8, stride := 0x100, lo := 4, hi := 4, ty := .u16, dflt := .num 40 },
  { ix := 0x4004, n := 8, stride := 0x100, lo := 5, hi := 5, ty := .u16, dflt := .num 300 },
  { ix := 0x4004, n := 8, stride := 0x100, lo := 6, hi := 6, ty := .u16, dflt := .num 200 },
  { ix := 0x4005, n := 8, stride := 0x100, ty := .u8, dflt := .num 1, range := .span 0 1 },
  { ix := 0x4006, n := 8, stride := 0x100, ty := .u16, dflt := .num 600, range := .span 50 5000 },
  { ix := 0x4007, n := 8, stride := 0x100, lo := 1, hi := 2, ty := .u16, dflt := .num 500 },
  { ix := 0x4007, n := 2, stride := 0x100, lo := 3, hi := 3, ty := .u8, acc := .rwl, dflt := .num 72, range := .span 0 72 },
  { ix := 0x4007, n := 2, stride := 0x100, lo := 4, hi := 4, ty := .u8, acc := .rwl, dflt := .num 48, range := .span 0 48 },
  { ix := 0x4207, n := 6, stride := 0x100, lo := 3, hi := 3, ty := .u8, acc := .rwl, dflt := .num 64, range := .span 0 64 },
  { ix := 0x4207, n := 6, stride := 0x100, lo := 4, hi := 4, ty := .u8, acc := .rwl, dflt := .num 40, range := .span 0 40 },
  { ix := 0x4008, n := 8, stride := 0x100, lo := 1, hi := 6, ty := .i32 },
  { ix := 0x4009, n := 8, stride := 0x100, ty := .u32, dflt := .num 600 },
  { ix := 0x400A, n := 8, stride := 0x100, ty := .u16, dflt := .num 200 },
  { ix := 0x400B, n := 8, stride := 0x100, ty := .u16, dflt := .num 30, range := .span 5 3600 },
  { ix := 0x400C, n := 8, stride := 0x100, ty := .dom, acc := .ro, dflt := .raw [] },
  { ix := 0x400D, n := 8, stride := 0x100, ty := .u8, acc := .wo, per := .vol, range := .span 1 1, only := .service },
  { ix := 0x400E, n := 8, stride := 0x100, ty := .u8, acc := .ro, per := .vol },
  { ix := 0x400F, n := 8, stride := 0x100, ty := .u16, acc := .ro, per := .vol },
  { ix := 0x4010, n := 8, stride := 0x100, ty := .u8, acc := .wo, per := .vol, range := .span 1 1 },
  { ix := 0x4011, n := 8, stride := 0x100, ty := .dom, acc := .ro, per := .vol, dflt := .raw [], size := 40 },
  { ix := 0x4012, n := 8, stride := 0x100, ty := .u8, acc := .ro, per := .vol, pdo := true },
  { ix := 0x4013, n := 8, stride := 0x100, ty := .u8, acc := .rwl, dflt := .num 0xFF, range := .among [0, 1, 2, 3, 4, 5, 6, 7, 0xFF] },
  { ix := 0x4014, n := 8, stride := 0x100, lo := 0x01, hi := 0x10, ty := .u64 },
  { ix := 0x4015, n := 8, stride := 0x100, ty := .u8, acc := .ro, per := .vol, pdo := true },
  { ix := 0x4016, n := 8, stride := 0x100, ty := .u32, acc := .ro, per := .vol },
  { ix := 0x4017, n := 8, stride := 0x100, ty := .u32, acc := .ro, per := .vol },
  { ix := 0x4018, n := 8, stride := 0x100, ty := .dom, acc := .ro, per := .vol, dflt := .raw [] },
  { ix := 0x4019, n := 8, stride := 0x100, ty := .u32, acc := .ro, per := .vol },
  { ix := 0x401A, n := 8, stride := 0x100, ty := .u32, acc := .ro, per := .vol }]

/-- The haptic entries of channel n (Table 12-5): index 0x4800 + 0x10 n + k. -/
def rows12 : List DRow := [
  { ix := 0x4800, n := 8, stride := 0x10, ty := .u8, acc := .ro, per := .vol, pdo := true },
  { ix := 0x4801, n := 8, stride := 0x10, lo := 1, hi := 1, ty := .u16, dflt := .num 400, range := .span 10 1000 },
  { ix := 0x4801, n := 8, stride := 0x10, lo := 2, hi := 2, ty := .u16, acc := .rwl, dflt := .num 800, range := .span 10 1000 },
  { ix := 0x4801, n := 8, stride := 0x10, lo := 3, hi := 3, ty := .u16, acc := .rwl, dflt := .num 500, range := .span 10 2000 },
  { ix := 0x4801, n := 8, stride := 0x10, lo := 4, hi := 4, ty := .u8, acc := .rwl, dflt := .num 1, range := .span 0 1 },
  { ix := 0x4801, n := 8, stride := 0x10, lo := 5, hi := 5, ty := .u16, acc := .rwl, dflt := .num 400, range := .span 100 1000 },
  { ix := 0x4801, n := 8, stride := 0x10, lo := 6, hi := 6, ty := .u8, acc := .rwl, dflt := .num 10, range := .span 2 100 },
  { ix := 0x4802, n := 8, stride := 0x10, ty := .u8, range := .span 0 2 },
  { ix := 0x4803, n := 8, stride := 0x10, lo := 1, hi := 1, ty := .u16, dflt := .num 200 },
  { ix := 0x4803, n := 8, stride := 0x10, lo := 2, hi := 2, ty := .u16, dflt := .num 200, range := .span 10 10000 },
  { ix := 0x4803, n := 8, stride := 0x10, lo := 3, hi := 3, ty := .u16, dflt := .num 2000, range := .span 100 50000 },
  { ix := 0x4804, n := 8, stride := 0x10, lo := 1, hi := 1, ty := .u8, dflt := .num 0xFF, range := .among (0xFF :: rangeFrom 0 64) },
  { ix := 0x4804, n := 8, stride := 0x10, lo := 2, hi := 2, ty := .bool, dflt := .num 1 },
  { ix := 0x4804, n := 8, stride := 0x10, lo := 3, hi := 3, ty := .u8, dflt := .num 0xFF, range := .among (0xFF :: rangeFrom 0 64) },
  { ix := 0x4805, n := 8, stride := 0x10, lo := 0x01, hi := 0x10, ty := .u8, dflt := .num 0xFF, range := .among (0xFF :: rangeFrom 0 64) },
  { ix := 0x4806, n := 8, stride := 0x10, lo := 1, hi := 1, ty := .u8, acc := .wo, per := .vol, range := .among (0xFF :: rangeFrom 0 64) },
  { ix := 0x4806, n := 8, stride := 0x10, lo := 2, hi := 2, ty := .u8, acc := .wo, per := .vol, range := .span 1 1 },
  { ix := 0x4806, n := 8, stride := 0x10, lo := 3, hi := 3, ty := .u8, acc := .wo, per := .vol, range := .span 1 1, only := .service },
  { ix := 0x4807, n := 8, stride := 0x10, lo := 1, hi := 5, ty := .u32, acc := .ro, per := .vol },
  { ix := 0x4807, n := 8, stride := 0x10, lo := 6, hi := 6, ty := .u64, acc := .ro, per := .vol },
  { ix := 0x4807, n := 8, stride := 0x10, lo := 7, hi := 7, ty := .u8, acc := .ro, per := .vol },
  { ix := 0x4807, n := 8, stride := 0x10, lo := 8, hi := 8, ty := .u32 }]

/-- The 64 effect entries (R329): eight at 0x4808 + 0x10 n for each n. -/
def effectRows : List DRow :=
  (rangeFrom 0 8).map fun n => { ix := 0x4808 + 0x10 * n, n := 8, ty := .dom, dflt := .raw [], size := 24016 }

/-- The audio entries (Table 13-9): gain g at 0x5100 + g, stream k at 0x5240 + k, port p at 0x5300 + p. -/
def rows13 : List DRow := [
  { ix := 0x5000, ty := .u8, acc := .ro, per := .vol, pdo := true },
  { ix := 0x5001, ty := .u16, acc := .ro, per := .vol },
  { ix := 0x5002, ty := .u8, dflt := .num 20, range := .span 1 200 },
  { ix := 0x5003, ty := .u64, acc := .ro, per := .vol },
  { ix := 0x5005, ty := .u32, acc := .ro, per := .vol },
  { ix := 0x5100, n := 256, lo := 1, hi := 1, ty := .i16, range := .signed (-32768) 4608, pdo := true },
  { ix := 0x5100, n := 256, lo := 2, hi := 2, ty := .u8, dflt := .num 20, range := .span 1 200 },
  { ix := 0x5100, n := 256, lo := 3, hi := 3, ty := .i16, acc := .ro, per := .vol },
  { ix := 0x5200, lo := 1, hi := 64, ty := .bool, per := .vol, pdo := true },
  { ix := 0x5240, n := 64, lo := 1, hi := 1, ty := .u8, acc := .ro, per := .vol },
  { ix := 0x5240, n := 64, lo := 2, hi := 3, ty := .u32, acc := .ro, per := .vol },
  { ix := 0x5240, n := 64, lo := 4, hi := 4, ty := .u8, acc := .rwl, range := .span 0 1 },
  { ix := 0x5300, n := 4, lo := 1, hi := 1, ty := .u8, acc := .ro, per := .vol },
  { ix := 0x5300, n := 4, lo := 2, hi := 2, ty := .u32, acc := .ro, per := .vol }]

/-- The memory entries (Table 14-13); check channel c stands at 0x5650 + c. -/
def rows14 : List DRow := [
  { ix := 0x5600, ty := .u16, acc := .ro, per := .vol },
  { ix := 0x5601, lo := 1, hi := 1, ty := .u16, dflt := .num 8533, range := .among dramRates },
  { ix := 0x5601, lo := 2, hi := 2, ty := .u16, dflt := .num 6400, range := .among (0 :: dramRates) },
  { ix := 0x5601, lo := 3, hi := 4, ty := .u16, range := .among (0 :: dramRates) },
  { ix := 0x5602, ty := .u16, acc := .ro, per := .vol, pdo := true },
  { ix := 0x5603, lo := 1, hi := 1, ty := .u64, dflt := .num 0x01042040, range := .span 0 0xFFFFFFFFFF },
  { ix := 0x5603, lo := 2, hi := 2, ty := .u64, dflt := .num 0x02084080, range := .span 0 0xFFFFFFFFFF },
  { ix := 0x5603, lo := 3, hi := 3, ty := .u64, dflt := .num 0x04108100, range := .span 0 0xFFFFFFFFFF },
  { ix := 0x5603, lo := 4, hi := 4, ty := .u64, dflt := .num 0x08210000, range := .span 0 0xFFFFFFFFFF },
  { ix := 0x5603, lo := 5, hi := 5, ty := .u64, dflt := .num 0x00400200, range := .span 0 0xFFFFFFFFFF },
  { ix := 0x5603, lo := 6, hi := 6, ty := .u64, dflt := .num 0x00800400, range := .span 0 0xFFFFFFFFFF },
  { ix := 0x5603, lo := 7, hi := 7, ty := .u64, dflt := .num 0x10000800, range := .span 0 0xFFFFFFFFFF },
  { ix := 0x5603, lo := 8, hi := 8, ty := .u64, dflt := .num 0x20001000, range := .span 0 0xFFFFFFFFFF },
  { ix := 0x5604, lo := 0x01, hi := 0x10, ty := .u32 },
  { ix := 0x5605, lo := 1, hi := 8, ty := .u32 },
  { ix := 0x5606, lo := 1, hi := 1, ty := .u8, dflt := .num 6, range := .span 1 15 },
  { ix := 0x5606, lo := 2, hi := 2, ty := .u8, dflt := .num 3, range := .span 1 15 },
  { ix := 0x5607, lo := 1, hi := 4, ty := .u8, acc := .ro, per := .vol, pdo := true },
  { ix := 0x5608, n := 6, ty := .u32, acc := .ro, per := .vol },
  { ix := 0x5640, lo := 0x01, hi := 0x40, ty := .u8, acc := .ro, per := .vol },
  { ix := 0x5641, ty := .u32, acc := .ro, per := .vol },
  { ix := 0x5650, n := 16, lo := 1, hi := 1, ty := .u32, acc := .ro, per := .vol },
  { ix := 0x5650, n := 16, lo := 2, hi := 2, ty := .oct, acc := .ro, per := .vol, dflt := .raw (zeroBytes 32), size := 32 },
  { ix := 0x5650, n := 16, lo := 3, hi := 3, ty := .oct, acc := .wo, per := .vol, dflt := .raw [], size := 24 },
  { ix := 0x5650, n := 16, lo := 4, hi := 4, ty := .u32, acc := .ro, per := .vol }]

/-- The slice and port entries (Table 15-11); port p stands at 0x5400 + p, slice s at 0x5410 + s. -/
def rows15 : List DRow := [
  { ix := 0x5400, n := 4, lo := 1, hi := 1, ty := .u8, acc := .ro, per := .vol, pdo := true },
  { ix := 0x5400, n := 4, lo := 2, hi := 3, ty := .u8, acc := .ro, per := .vol },
  { ix := 0x5400, n := 4, lo := 4, hi := 4, ty := .bool, acc := .rwl, dflt := .num 1 },
  { ix := 0x5400, n := 4, lo := 5, hi := 7, ty := .u32, acc := .ro, per := .vol },
  { ix := 0x5410, n := 32, lo := 1, hi := 1, ty := .u32, acc := .ro, per := .vol },
  { ix := 0x5410, n := 32, lo := 2, hi := 2, ty := .u8, acc := .ro, per := .vol, pdo := true },
  { ix := 0x5410, n := 32, lo := 3, hi := 3, ty := .u8, acc := .ro, per := .vol },
  { ix := 0x5410, n := 32, lo := 4, hi := 4, ty := .u8, acc := .wo, per := .vol, range := .span 1 1 },
  { ix := 0x5410, n := 32, lo := 5, hi := 8, ty := .u32, acc := .ro, per := .vol }]

/-- The secure status entries (Table 16-14). -/
def rows16 : List DRow := [
  { ix := 0x5E00, ty := .u8, acc := .ro, per := .fixed },
  { ix := 0x5E01, ty := .u8, acc := .ro, per := .vol },
  { ix := 0x5E02, ty := .u8, acc := .ro, per := .vol, pdo := true },
  { ix := 0x5E03, ty := .u32, acc := .ro, per := .vol },
  { ix := 0x5E04, lo := 1, hi := 1, ty := .u8, acc := .ro, per := .vol },
  { ix := 0x5E04, lo := 2, hi := 2, ty := .u64, acc := .ro, per := .vol },
  { ix := 0x5E05, ty := .u64, acc := .ro, per := .vol },
  { ix := 0x5E06, ty := .u8, acc := .ro, per := .vol },
  { ix := 0x5E07, lo := 1, hi := 2, ty := .u64, acc := .ro, per := .fixed },
  { ix := 0x5E08, ty := .oct, acc := .ro, per := .fixed, dflt := .raw [], size := 96 },
  { ix := 0x5E09, ty := .oct, acc := .ro, per := .fixed, dflt := .raw [], size := 96 },
  { ix := 0x5E10, lo := 0x01, hi := 0x10, ty := .oct, acc := .ro, per := .vol, dflt := .raw (zeroBytes 32), size := 32 },
  { ix := 0x5E20, lo := 0x01, hi := 0x10, ty := .u32, acc := .ro },
  { ix := 0x5E21, ty := .u32, acc := .ro },
  { ix := 0x5E30, lo := 0x01, hi := 0x40, ty := .oct, acc := .sec, dflt := .raw [], size := 16 },
  { ix := 0x5E31, ty := .u16, acc := .sec, dflt := .num 256 },
  { ix := 0x5E32, ty := .u32, acc := .ro, per := .vol },
  { ix := 0x5E50, ty := .oct, acc := .ro, per := .vol, dflt := .raw [], size := 32 }]

/-- The identity, mode and power entries (Table 17-12); domain d takes subindex d + 1. -/
def rows17 : List DRow := [
  { ix := 0x2000, lo := 1, hi := 1, ty := .u16, acc := .ro, per := .fixed, dflt := .num 0x51 },
  { ix := 0x2000, lo := 2, hi := 2, ty := .u8, acc := .ro, per := .fixed, dflt := .num 1 },
  { ix := 0x2000, lo := 3, hi := 3, ty := .str, acc := .ro, per := .fixed, dflt := .raw (ascii "VL8840-IA"), size := 16 },
  { ix := 0x2001, ty := .u8, acc := .ro, per := .vol, pdo := true },
  { ix := 0x2002, ty := .u8, per := .vol },
  { ix := 0x2003, lo := 1, hi := 2, ty := .u8, acc := .ro, per := .vol },
  { ix := 0x2003, lo := 3, hi := 3, ty := .u8, acc := .ro, per := .vol, pdo := true },
  { ix := 0x2004, ty := .u8, acc := .ro, per := .vol },
  { ix := 0x2005, ty := .u8, acc := .rwl, range := .mask 0x7F },
  { ix := 0x2007, ty := .u8, acc := .ro, per := .vol },
  { ix := 0x2100, lo := 1, hi := 18, ty := .u8, acc := .ro, per := .vol },
  { ix := 0x2101, lo := 1, hi := 1, ty := .u16, acc := .ro },
  { ix := 0x2101, lo := 2, hi := 2, ty := .u16, dflt := .num 10, range := .span 1 1000 },
  { ix := 0x2101, lo := 3, hi := 3, ty := .u16, dflt := .num 50, range := .span 1 1000 },
  { ix := 0x2101, lo := 4, hi := 4, ty := .u16, acc := .ro, dflt := .num 50 },
  { ix := 0x2101, lo := 5, hi := 12, ty := .u16, dflt := .num 40, range := .span 1 1000 },
  { ix := 0x2101, lo := 13, hi := 13, ty := .u16, dflt := .num 10, range := .span 1 1000 },
  { ix := 0x2101, lo := 14, hi := 14, ty := .u16, dflt := .num 20, range := .span 1 1000 },
  { ix := 0x2101, lo := 15, hi := 15, ty := .u16, dflt := .num 5, range := .span 1 1000 },
  { ix := 0x2101, lo := 16, hi := 16, ty := .u16, dflt := .num 150, range := .span 1 1000 },
  { ix := 0x2101, lo := 17, hi := 18, ty := .u16, dflt := .num 10, range := .span 1 1000 },
  { ix := 0x2102, ty := .u32, acc := .ro, per := .vol },
  { ix := 0x2103, ty := .u32, acc := .ro, per := .vol },
  { ix := 0x2104, ty := .u8, acc := .wo, per := .vol, range := .span 0 17, only := .service },
  { ix := 0x2105, ty := .u8, acc := .ro, per := .vol },
  { ix := 0x2106, lo := 1, hi := 4, ty := .u8, range := .mask 0x03 },
  { ix := 0x2107, ty := .u8, range := .mask 0x1F },
  { ix := 0x2108, lo := 1, hi := 1, ty := .bool, dflt := .num 1 },
  { ix := 0x2108, lo := 2, hi := 2, ty := .u16, dflt := .num 0x0F0, range := .span 0x001 0x7FF },
  { ix := 0x2109, lo := 1, hi := 1, ty := .u8, dflt := .num 20, range := .span 5 100 },
  { ix := 0x2109, lo := 2, hi := 2, ty := .u8, dflt := .num 10, range := .span 2 50 },
  { ix := 0x2109, lo := 3, hi := 3, ty := .u8, dflt := .num 3, range := .span 0 3 },
  { ix := 0x2109, lo := 4, hi := 4, ty := .u16, dflt := .num 60, range := .span 1 3600 },
  { ix := 0x210A, ty := .u8, range := .span 0 1 },
  { ix := 0x210B, ty := .u8, acc := .rwl, dflt := .num 0xFF },
  { ix := 0x2110, lo := 1, hi := 8, ty := .u32, range := .mask 0x00FFFFFF },
  { ix := 0x2111, ty := .u8, acc := .ro, per := .vol },
  { ix := 0x2120, ty := .u8, acc := .ro, per := .vol },
  { ix := 0x2121, ty := .u32, acc := .ro, per := .vol }]

/-- The health entries (Table 18-7). -/
def rows18 : List DRow := [
  { ix := 0x5800, ty := .u8, acc := .ro, per := .vol, pdo := true },
  { ix := 0x5801, ty := .u8, acc := .ro, per := .vol, pdo := true },
  { ix := 0x5802, ty := .u8, per := .vol, range := .span 0 63, perPath := true },
  { ix := 0x5803, ty := .oct, acc := .ro, per := .vol, size := 32, dflt := .raw (zeroBytes 32) },
  { ix := 0x5804, ty := .u8, per := .vol, perPath := true },
  { ix := 0x5805, ty := .oct, acc := .ro, per := .vol, size := 32, dflt := .raw (zeroBytes 32) },
  { ix := 0x5806, ty := .u32, acc := .ro, per := .vol },
  { ix := 0x5807, ty := .u32, acc := .ro, per := .vol },
  { ix := 0x5808, ty := .u32, acc := .ro, per := .vol },
  { ix := 0x5A00, ty := .u8, acc := .ro, dflt := .num 1, pdo := true },
  { ix := 0x5A01, ty := .u16, acc := .ro, dflt := .num 0xFFFF },
  { ix := 0x5A02, lo := 1, hi := 4, ty := .i16, acc := .ro, per := .vol },
  { ix := 0x5A03, lo := 1, hi := 4, ty := .u8, acc := .ro, dflt := .num 1 },
  { ix := 0x5A04, lo := 1, hi := 64, ty := .i16, acc := .ro, per := .vol },
  { ix := 0x5A05, lo := 1, hi := 16, ty := .u16, acc := .ro, per := .vol },
  { ix := 0x5A10, ty := .u32, range := .span 0 86399 },
  { ix := 0x5A11, ty := .u16, acc := .ro },
  { ix := 0x5A12, ty := .u16, per := .vol, range := .span 0 399, perPath := true },
  { ix := 0x5A13, ty := .dom, acc := .ro, dflt := .raw [], size := 512 },
  { ix := 0x5A14, ty := .dom, acc := .ro, per := .vol, size := 512 }]

/-- The update entries (Table 19-6). -/
def rows19 : List DRow := [
  { ix := 0x5C00, ty := .u8, acc := .ro, per := .vol, pdo := true },
  { ix := 0x5C01, ty := .dom, acc := .wo, per := .vol, dflt := .raw [], size := 0x2000000 },
  { ix := 0x5C02, ty := .u32, acc := .ro, per := .vol },
  { ix := 0x5C03, lo := 1, hi := 2, ty := .u32, acc := .ro, per := .fixed },
  { ix := 0x5C03, lo := 3, hi := 4, ty := .u8, acc := .ro, per := .fixed },
  { ix := 0x5C04, ty := .u8, acc := .ro, per := .vol, dflt := .num 1 },
  { ix := 0x5C05, ty := .u32, per := .vol },
  { ix := 0x5C06, ty := .u64, acc := .wo, per := .vol },
  { ix := 0x5C07, ty := .u8, acc := .ro, per := .vol },
  { ix := 0x5C08, ty := .u8, acc := .wo, per := .vol, range := .span 1 1 },
  { ix := 0x5C09, ty := .u32, dflt := .num 108000, range := .span 600 5184000 },
  { ix := 0x5C0A, ty := .u8, acc := .ro, per := .fixed },
  { ix := 0x5C0B, ty := .u8, acc := .ro, per := .fixed },
  { ix := 0x5C0C, ty := .u16, acc := .ro, per := .fixed }]

/-- Every row of the dictionary. -/
def allRows : List DRow :=
  rows02 ++ rows03 ++ rows04 ++ rows06 ++ matrixRowsAll ++ rows07 ++ rows08 ++ rows10 ++ rows11 ++ rows12 ++ effectRows ++
  rows13 ++ rows14 ++ rows15 ++ rows16 ++ rows17 ++ rows18 ++ rows19

end Sys2Proof.Machine
end

