-- ==== Sys2Proof/Machine/Ops.lean ====
section
/-! DEFINITION. The named operations that every meaning is built from: positions on the reference raster, access to the
parts of the state, free values, dictionary values, and DRAM bytes. -/

namespace Sys2Proof.Machine

/-- What a command answers. -/
abbrev Out := Host.Outcome State Fault Refusal

/-! ### Positions on the reference raster -/

/-- L_ref of a reference rate (Table 3-2). -/
def lref : Rate → Nat
  | .hz60 => 2250
  | .hz5994 => 2250
  | .hz50 => 2700

/-- The rate code (Table 3-2). -/
def rateCode : Rate → Nat
  | .hz60 => 1
  | .hz5994 => 2
  | .hz50 => 3

/-- The rate of a code, 60 Hz for any other number. -/
def rateOf (n : Nat) : Rate := if n = 2 then .hz5994 else if n = 3 then .hz50 else .hz60

/-- The frames of a second as a fraction: numerator and denominator (Table 3-2). -/
def frameRate : Rate → Nat × Nat
  | .hz60 => (60, 1)
  | .hz5994 => (60000, 1001)
  | .hz50 => (50, 1)

/-- Phase units in one frame. -/
def frameTicks (r : Rate) : Nat := lref r * 65536

/-- Phase units in n microseconds (R8: raster figures bind), rounded down. -/
def usTicks (r : Rate) (n : Nat) : Nat := n * frameTicks r * (frameRate r).1 / ((frameRate r).2 * 1000000)

/-- Phase units in n milliseconds. -/
def msTicks (r : Rate) (n : Nat) : Nat := usTicks r (n * 1000)

/-- Phase units in n nanoseconds, rounded down. -/
def nsTicks (r : Rate) (n : Nat) : Nat := n * frameTicks r * (frameRate r).1 / ((frameRate r).2 * 1000000000)

/-- The microseconds in n phase units, rounded down. -/
def ticksUs (r : Rate) (n : Nat) : Nat := n * ((frameRate r).2 * 1000000) / (frameTicks r * (frameRate r).1)

/-- Phase units in n reference lines. -/
def rlTicks (n : Nat) : Nat := n * 65536

/-- The RRP as a 64-bit number (Table 3-1). -/
def rrpNum (x : Rrp) : Nat := x.frame % 2 ^ 32 * 2 ^ 32 + x.line % 65536 * 65536 + x.phase % 65536

/-- The RRP of a 64-bit number (Table 3-1). -/
def rrpOf (n : Nat) : Rrp := ⟨bits n 63 32, bits n 31 16, bits n 15 0⟩

/-- Whether an RRP is valid: LINE below L_ref (R60). -/
def rrpValid (r : Rate) (x : Rrp) : Bool := x.line < lref r

/-- (a - b) mod 2^32. -/
def frameDiff (a b : Nat) : Nat := (a % 2 ^ 32 + (2 ^ 32 - b % 2 ^ 32)) % 2 ^ 32

/-- Frame a is later than frame b by serial arithmetic (R61). -/
def frameLater (a b : Nat) : Bool := 1 ≤ frameDiff a b && frameDiff a b < 2 ^ 31

/-- The position within its frame, in phase units. -/
def rrpPos (x : Rrp) : Nat := x.line * 65536 + x.phase

/-- Position a lies before position b. -/
def rrpBefore (a b : Rrp) : Bool :=
  frameLater b.frame a.frame || (a.frame % 2 ^ 32 = b.frame % 2 ^ 32 && rrpPos a < rrpPos b)

/-- Position a does not lie after position b. -/
def rrpLe (a b : Rrp) : Bool := !rrpBefore b a

/-- Phase units from a to b; 0 where b does not lie after a. -/
def elapsed (r : Rate) (a b : Rrp) : Nat :=
  if rrpBefore a b then frameDiff b.frame a.frame * frameTicks r + rrpPos b - rrpPos a else 0

/-- Milliseconds have passed since a position. -/
def waited (s : State) (since : Rrp) (ms : Nat) : Bool := msTicks s.tb.rate ms ≤ elapsed s.tb.rate since s.now

/-- The position t phase units after x. -/
def rrpAdd (r : Rate) (x : Rrp) (t : Nat) : Rrp :=
  let p := rrpPos x + t
  let q := p % frameTicks r
  ⟨(x.frame + p / frameTicks r) % 2 ^ 32, q / 65536, q % 65536⟩

/-- The position t phase units before x. -/
def rrpSub (r : Rate) (x : Rrp) (t : Nat) : Rrp :=
  let f := t / frameTicks r + 1
  rrpAdd r ⟨(x.frame + 2 ^ 32 - f % 2 ^ 32) % 2 ^ 32, x.line, x.phase⟩ (f * frameTicks r - t)

/-- The first frame boundary at least n RL after x (Tables 17-1 and 17-7): the frame that starts there. -/
def nextBoundary (r : Rate) (x : Rrp) (n : Nat) : Nat :=
  let y := rrpAdd r x (rlTicks n)
  if rrpPos y = 0 then y.frame else (y.frame + 1) % 2 ^ 32

/-! ### Parts of the state -/

/-- Element i of a vector, d beyond its end. -/
def vecAt {α : Type} {n : Nat} (v : Vector α n) (i : Nat) (d : α) : α := v[i]?.getD d

/-- A vector with element i changed by f; unchanged where i lies beyond its end. -/
def vecMod {α : Type} {n : Nat} (v : Vector α n) (i : Nat) (f : α → α) : Vector α n :=
  if h : i < n then v.set i (f v[i]) else v

/-- A vector with every element changed by f, which is given its position. -/
def vecMap {α : Type} {n : Nat} (v : Vector α n) (f : Nat → α → α) : Vector α n := v.mapIdx f

/-- The time of an event becomes the present time. -/
def atTime (s : State) (t : Rrp) : State := { s with now := t }

/-- L_ref in force. -/
def lrefOf (s : State) : Nat := lref s.tb.rate

def outAt (s : State) (n : Nat) : Output := vecAt s.outs n resetOutput
def updOut (s : State) (n : Nat) (f : Output → Output) : State := { s with outs := vecMod s.outs n f }
def sliceAt (s : State) (k : Nat) : Slice := vecAt s.slices k resetSlice
def updSlice (s : State) (k : Nat) (f : Slice → Slice) : State := { s with slices := vecMod s.slices k f }
def portAt (s : State) (p : Nat) : Port := vecAt s.ports p resetPort
def updPort (s : State) (p : Nat) (f : Port → Port) : State := { s with ports := vecMod s.ports p f }
def ctxAt (s : State) (k : Nat) : GpuCtx := vecAt s.gpu.ctxs k resetGpuCtx
def updCtx (s : State) (k : Nat) (f : GpuCtx → GpuCtx) : State :=
  { s with gpu := { s.gpu with ctxs := vecMod s.gpu.ctxs k f } }
def clusterAt (s : State) (c : Nat) : Cluster := vecAt s.gpu.clusters c resetCluster
def updCluster (s : State) (c : Nat) (f : Cluster → Cluster) : State :=
  { s with gpu := { s.gpu with clusters := vecMod s.gpu.clusters c f } }
def feedAt (s : State) (f : Nat) : Feed := vecAt s.media.feeds f resetFeed
def updFeed (s : State) (k : Nat) (f : Feed → Feed) : State :=
  { s with media := { s.media with feeds := vecMod s.media.feeds k f } }
def captureAt (s : State) (i : Nat) : Capture := vecAt s.media.captures i resetCapture
def updCapture (s : State) (i : Nat) (f : Capture → Capture) : State :=
  { s with media := { s.media with captures := vecMod s.media.captures i f } }
def decRingAt (s : State) (k : Nat) : DecRing := vecAt s.media.rings k ⟨0, 0, [], none⟩
def updDecRing (s : State) (k : Nat) (f : DecRing → DecRing) : State :=
  { s with media := { s.media with rings := vecMod s.media.rings k f } }
def touchAt (s : State) (c : Nat) : TouchCh := vecAt s.touch c resetTouch
def updTouch (s : State) (c : Nat) (f : TouchCh → TouchCh) : State := { s with touch := vecMod s.touch c f }
def hapticAt (s : State) (h : Nat) : HapticCh := vecAt s.haptics h resetHaptic
def updHaptic (s : State) (h : Nat) (f : HapticCh → HapticCh) : State := { s with haptics := vecMod s.haptics h f }
def streamAt (s : State) (k : Nat) : Stream := vecAt s.audio.streams k resetStream
def updStream (s : State) (k : Nat) (f : Stream → Stream) : State :=
  { s with audio := { s.audio with streams := vecMod s.audio.streams k f } }
def gainAt (s : State) (g : Nat) : GainCtl := vecAt s.audio.gains g resetGain
def updGain (s : State) (g : Nat) (f : GainCtl → GainCtl) : State :=
  { s with audio := { s.audio with gains := vecMod s.audio.gains g f } }
def checkAt (s : State) (c : Nat) : CheckCh := vecAt s.mem.checks c resetCheck
def updCheck (s : State) (c : Nat) (f : CheckCh → CheckCh) : State :=
  { s with mem := { s.mem with checks := vecMod s.mem.checks c f } }
def slotAt (s : State) (i : Nat) : Slot := vecAt s.lasts.slots i resetSlot
def updSlot (s : State) (i : Nat) (f : Slot → Slot) : State :=
  { s with lasts := { s.lasts with slots := vecMod s.lasts.slots i f } }

/-- The running last: that of the active slot. -/
def activeLast (s : State) : Option Last :=
  if s.lasts.active = 0 then none else (slotAt s (s.lasts.active - 1)).last

/-- The output plan of output n in a last. -/
def planOf (l : Last) (n : Nat) : Option OutPlan := l.plans.find? fun p => p.out = n

/-- The output plan of output n in the active last. -/
def activePlan (s : State) (n : Nat) : Option OutPlan := (activeLast s).bind fun l => planOf l n

/-- Whether a power domain of Table 17-3 is on. -/
def domainOn (s : State) (d : Nat) : Bool := vecAt s.power.domains d 0 = 1

/-- Whether a containment region is isolated (R16). -/
def isolatedRegion (s : State) (g : Region) : Bool := s.isolated.contains g

/-- Whether the timebase and the last executor run: MGMT is powered (its region may be isolated without them) and the region
TIME is in service (R9, R16, Tables 1-1 and 1-6). -/
def timebaseOn (s : State) : Bool :=
  (domainOn s 2 || vecAt s.power.domains 2 0 = 4) && !isolatedRegion s .time

/-- Whether the Ethernet ports and the hive link are in service (R18, R461). -/
def netOn (s : State) : Bool := domainOn s 17 && !isolatedRegion s .net

/-- What leaves the device. -/
def emit (s : State) (e : Emit) : State := { s with emitted := e :: s.emitted }

/-- A free number below m, and the state with the counter of free values advanced (Config.freeNat). -/
def takeFree (s : State) (m : Nat) : Nat × State :=
  (Config.freeNat s.free % m, { s with free := s.free + 1 })

/-- A free string of k bytes. -/
def takeBytes (s : State) (k : Nat) : Bytes × State :=
  ((rangeFrom 0 k).map (Config.freeByte s.free), { s with free := s.free + 1 })

/-! ### Dictionary values -/

/-- The key of an entry in the dictionary map. -/
def dkey (ix sub : Nat) : Nat := ix * 256 + sub

/-- What an unset entry holds. -/
def unsetVal : Nat → DVal := fun _ => .unset

/-- Whether a row covers an entry. -/
def rowHas (r : DRow) (ix sub : Nat) : Bool :=
  r.ix ≤ ix && (ix - r.ix) % r.stride = 0 && (ix - r.ix) / r.stride < r.n && r.lo ≤ sub && sub ≤ r.hi

/-- The row of an entry. -/
def rowOf (ix sub : Nat) : Option DRow := allRows.find? fun r => rowHas r ix sub

/-- Whether any row covers an index (R25). -/
def indexKnown (ix : Nat) : Bool :=
  allRows.any fun r => r.ix ≤ ix && (ix - r.ix) % r.stride = 0 && (ix - r.ix) / r.stride < r.n

/-- The number a dictionary value stands for; 0 for an unset one or a string. -/
def DVal.toNat : DVal → Nat
  | .num n => n
  | _ => 0

/-- The bytes a dictionary value stands for; none for a number. -/
def DVal.toBytes : DVal → Bytes
  | .raw b => b
  | _ => []

/-- The value the map holds for an entry: its default where nothing has set it. -/
def entry (s : State) (ix sub : Nat) : DVal :=
  match SMap.get unsetVal s.dict (dkey ix sub) with
  | .unset => match rowOf ix sub with
    | some r => r.dflt
    | none => .unset
  | v => v

/-- The number an entry holds. -/
def entryNum (s : State) (ix sub : Nat) : Nat := (entry s ix sub).toNat

/-- The bytes an entry holds. -/
def entryBytes (s : State) (ix sub : Nat) : Bytes := (entry s ix sub).toBytes

/-- An entry set to a value. -/
def setEntry (s : State) (ix sub : Nat) (v : DVal) : State := { s with dict := SMap.set unsetVal s.dict (dkey ix sub) v }

/-- An entry set to a number. -/
def setNum (s : State) (ix sub n : Nat) : State := setEntry s ix sub (.num n)

/-- A counter of UNSIGNED32 raised by one; what it holds beyond 2^32 - 1 the manual does not say: a free value. -/
def bump (s : State) (ix sub : Nat) : State :=
  let n := entryNum s ix sub
  if n + 1 < 2 ^ 32 then setNum s ix sub (n + 1)
  else let (f, s) := takeFree s (2 ^ 32); setNum s ix sub f

/-- A counter raised k times over, as `bump` raises it once. -/
def bumpBy (s : State) (ix sub k : Nat) : State :=
  let n := entryNum s ix sub + k
  if n < 2 ^ 32 then setNum s ix sub n
  else let (f, s) := takeFree s (2 ^ 32); setNum s ix sub f

/-- The final result of the pending writes of an entry (R27, R51). -/
def finalResult (s : State) (key status : Nat) (payload : Bytes) : State :=
  let ts := s.net.tickets.map fun t =>
    if t.key = key && t.final.isNone && t.reading.isNone then { t with final := some (status, payload) } else t
  { s with net := { s.net with tickets := ts.filter fun t => t.no ≠ 0 || t.final.isNone } }

/-! ### Slice registers -/

/-- The key of a slice register. -/
def skey (k off : Nat) : Nat := k * 65536 + off

/-- A slice register without a set value reads zero (R413, R414). -/
def zeroReg : Nat → Nat := fun _ => 0

/-- A register of slice k. -/
def sreg (s : State) (k off : Nat) : Nat := SMap.get zeroReg s.sregs (skey k off)

/-- A register of slice k set. -/
def setSreg (s : State) (k off v : Nat) : State := { s with sregs := SMap.set zeroReg s.sregs (skey k off) v }

/-! ### DRAM bytes -/

/-- What an unlisted byte of DRAM reads as (DESIGN CHOICE, log entry 2: unsafe). -/
def dramDefault : Nat → Byte := fun _ => 0

/-- One byte of DRAM, the command's own writes included (R384). -/
def memByte (s : State) (a : Nat) : Byte :=
  match s.stores.find? fun w => w.1 = a with
  | some w => w.2
  | none => SMap.get dramDefault s.dram a

/-- n bytes of DRAM from address a. -/
def memBytes (s : State) (a n : Nat) : Bytes := (rangeFrom a n).map (memByte s)

/-- The writes of a byte string at an address, newest first. -/
def cellsAt (a : Nat) (bs : Bytes) : List (Nat × Byte) := (enumFrom a bs).reverse

/-- Bytes posted to DRAM at an address. -/
def memPost (s : State) (a : Nat) (bs : Bytes) : State := { s with stores := cellsAt a bs ++ s.stores }

/-- DRAM after the writes of a command, made in order (R384). -/
def applyStores (m : SMap Byte) (ws : List (Nat × Byte)) : SMap Byte := SMap.setAll dramDefault m ws.reverse

/-- The end of a command: its writes reach DRAM, which it may have emptied, and the queue of waiting commands is what it was. -/
def finish (s t : State) : State :=
  let old := if t.dramLost then [] else s.dram
  { t with pending := s.pending, dram := applyStores old t.stores, stores := [], dramLost := false }

/-! ### Repetition -/

/-- f applied for each element of a list in turn. -/
def each {α : Type} (xs : List α) (s : State) (f : State → α → State) : State := xs.foldl f s

end Sys2Proof.Machine
end

