-- ==== Sys2Proof/Machine/Faults.lean ====
section
/-! DEFINITION. Reporting a fault: records, cause keys, EMCY and the cause tokens of the hive (chapter 18; R48, R49), as
operations that every chapter's meanings call. -/

namespace Sys2Proof.Machine

/-- The node ID: ((S + H) mod 64) + 1 (R54). -/
def nodeIdOf (s : State) : Nat := (s.power.sampled.nodeId + s.hive.pos) % 64 + 1

/-- A hive cell of this device (Table 3-7). -/
def hiveCell (s : State) (ty dest : Nat) (rev : Bool) (payload : Bytes) : Bytes :=
  let org := if s.hive.enumerated then nodeIdOf s else 0
  let head := leBytes 1 ty ++ leBytes 1 org ++ leBytes 1 dest ++ leBytes 1 (if rev then 0x80 else 0) ++ padTo 24 payload
  head ++ leBytes 4 (crcOf crc32c head)

/-- A cell sent on the forward or the reverse lanes; nothing while NET is off. -/
def sendCell (s : State) (rev : Bool) (cell : Bytes) : State :=
  if netOn s then emit s (.hive rev cell) else s

/-- Whether a fault class has hive scope (Table 18-4). -/
def hiveClass (cls : Nat) : Bool := cls = 0x01 || cls = 0x03

/-- The cause key of a fault (R474). -/
def causeKey (cls inst : Nat) : Nat := cls * 2 ^ 24 + (if hiveClass cls then 2 ^ 23 else 0) + inst % 2 ^ 16

/-- The error code of a fault class (Table 18-4); 0 where the class sends no EMCY. -/
def classCode (cls : Nat) : Nat :=
  match cls with
  | 0x01 => 0xFF10
  | 0x03 => 0xFF11
  | 0x04 => 0xFF11
  | 0x10 => 0xFF20
  | 0x11 => 0xFF21
  | 0x20 => 0xFF30
  | 0x21 => 0xFF30
  | 0x23 => 0xFF31
  | 0x24 => 0xFF32
  | 0x26 => 0xFF33
  | 0x28 => 0xFF31
  | 0x30 => 0xFF40
  | 0x31 => 0xFF41
  | 0x32 => 0xFF41
  | 0x33 => 0xFF42
  | 0x40 => 0xFF50
  | 0x41 => 0xFF51
  | 0x42 => 0xFF52
  | 0x50 => 0xFF60
  | 0x51 => 0xFF61
  | 0x60 => 0xFF70
  | 0x61 => 0xFF70
  | 0x70 => 0xFF71
  | 0x71 => 0x3200
  | 0x80 => 0xFF80
  | _ => 0

/-- Whether a fault class has a clear condition (Table 18-4, "to Bring-up" marking those without). -/
def classClears (cls : Nat) : Bool :=
  [0x01, 0x03, 0x10, 0x11, 0x13, 0x14, 0x22, 0x23, 0x24, 0x25, 0x26, 0x27, 0x30, 0x34, 0x40, 0x41, 0x42, 0x50, 0x51, 0x70,
   0x71, 0xFF].contains cls

/-- The error register bit of an error code (Table 2-9). -/
def codeBit (code : Nat) : Nat :=
  if code = 0 then 0
  else if code = 0x3200 then 4
  else if code = 0x4200 then 8
  else if code / 256 = 0x81 || code / 256 = 0x82 then 16
  else 128

/-- The open records. -/
def openRecords (s : State) : List FaultRec := s.health.slots.toList.filterMap id

/-- The error register (0x1001): the bits of the codes of the open records, and those of CAN errors since Bring-up. -/
def errorRegister (s : State) : Nat :=
  (openRecords s).foldl (fun a r => Nat.lor a (codeBit r.code)) (entryNum s 0x1001 0)

/-! ### EMCY -/

/-- The 8 bytes of an EMCY (R48). -/
def emcyBytes (s : State) (e : Emcy) : Bytes :=
  match e.raw with
  | some b => b
  | none => leBytes 2 e.code ++ leBytes 1 (errorRegister s) ++ leBytes 4 e.key ++ leBytes 1 e.effect

/-- Whether CAN1's controller, of FIELD, is powered and reached (Table 1-7). -/
def can1On (s : State) : Bool := domainOn s 1 && s.dieLink

/-- The buses that 0x1D00 enables and whose controllers are powered: CAN0 in AON, CAN1 in FIELD (Table 1-7). -/
def busesOn (s : State) : List Nat :=
  (if entryNum s 0x1D00 1 = 1 then [0] else []) ++
  (if entryNum s 0x1D00 2 = 1 && can1On s then [1] else [])

/-- The k of a Communication Cycle Period within 1 µs of k reference frame periods, k from 1 to 255 (R46); 0 where there is none. -/
def syncFrames (r : Rate) (us : Nat) : Nat :=
  let (num, den) := frameRate r
  ((rangeFrom 1 255).find? fun k => us * num ≤ k * den * 1000000 + num && k * den * 1000000 ≤ us * num + num).getD 0

/-- A frame on every enabled bus (R41). -/
def canSend (s : State) (cob : Nat) (data : Bytes) : State := each (busesOn s) s fun s b => emit s (.can b cob data)

/-- The COB-ID of this node's EMCY: 0x1014, by default 0x80 plus the node ID. -/
def emcyCob (s : State) : Nat :=
  match SMap.get unsetVal s.dict (dkey 0x1014 0) with
  | .num n => n
  | _ => 0x80 + nodeIdOf s

/-- A code entered at the head of the predefined error field 0x1003 (Table 2-11); an error reset is no error code. -/
def pushErrorCode (s : State) (code : Nat) : State :=
  if code = 0 then s else
  let n := entryNum s 0x1003 0
  let s := each ((rangeFrom 1 15).reverse) s fun s k => setNum s 0x1003 (k + 1) (entryNum s 0x1003 k)
  setNum (setNum s 0x1003 1 code) 0x1003 0 (Nat.min 16 (n + 1))

/-- An EMCY put on the buses, or on the hive link where both buses are disabled (R49); the inhibit time starts. -/
def transmitEmcy (s : State) (e : Emcy) : State :=
  let own := e.node = nodeIdOf s
  let both := entryNum s 0x1D00 1 = 0 && entryNum s 0x1D00 2 = 0
  let s :=
    if both && own then sendCell s false (hiveCell s 0x07 0xFF false (emcyBytes s e))
    else canSend s (if own then emcyCob s else 0x80 + e.node) (emcyBytes s e)
  let s := if own then pushErrorCode s e.code else s
  if entryNum s 0x1015 0 = 0 then s else { s with net := { s.net with inhibit := e.node :: s.net.inhibit } }

/-- An EMCY that is due: kept in FIRST_RRP order while the management core restarts or is off (R477), held while the
inhibit time runs, else sent. -/
def sendEmcy (s : State) (e : Emcy) : State :=
  if s.net.restarting || !domainOn s 2 then
    let before := s.net.emcyDeferred.filter fun d => rrpLe d.first e.first
    let after := s.net.emcyDeferred.filter fun d => !rrpLe d.first e.first
    { s with net := { s.net with emcyDeferred := before ++ [e] ++ after } }
  else if s.net.inhibit.contains e.node then { s with net := { s.net with emcyHeld := s.net.emcyHeld ++ [e] } }
  else transmitEmcy s e

/-- The EMCYs kept while the management core was away, sent in their order (R477). -/
def sendDeferred (s : State) : State :=
  let es := s.net.emcyDeferred
  each es { s with net := { s.net with emcyDeferred := [] } } sendEmcy

/-- The EMCY of a record (R477). -/
def recordEmcy (s : State) (r : FaultRec) : State :=
  if r.code = 0 then s else sendEmcy s ⟨r.code, r.key, r.effect, r.first, nodeIdOf s, none⟩

/-! ### Records -/

/-- The slot of the open record of a key. -/
def findRecord (s : State) (key : Nat) : Option (Nat × FaultRec) :=
  (enumFrom 0 s.health.slots.toList).findSome? fun e =>
    match e.2 with
    | some r => if r.key = key then some (e.1, r) else none
    | none => none

/-- A record written to its slot. -/
def putRecord (s : State) (i : Nat) (r : Option FaultRec) : State :=
  { s with health := { s.health with slots := vecMod s.health.slots i fun _ => r } }

/-- The open inspection record changed. -/
def updInsp (s : State) (f : Inspection → Inspection) : State :=
  { s with health := { s.health with insp := f s.health.insp } }

/-- A count of a byte that saturates at 255 (Table 18-6). -/
def sat255 (n : Nat) : Nat := Nat.min 255 (n + 1)

/-- A later report of an open record: an echo (R475). -/
def echoRecord (s : State) (i : Nat) (r : FaultRec) (effect : Nat) : State :=
  let r := { r with
    effect := Nat.max r.effect effect, st := .active, latest := s.now, echoes := Nat.min (2 ^ 32 - 1) (r.echoes + 1) }
  updInsp (putRecord s i (some r)) fun d => { d with echoes := d.echoes + 1, worstEffect := Nat.max d.worstEffect effect }

/-- The nodes whose tokens for a key are held (R480). -/
def tokenNodes (s : State) (key : Nat) : List Nat :=
  ((s.health.tokens.filter fun t => t.key = key).map fun t => t.node).eraseDups

/-- The payload of a cause token (R478). -/
def tokenPayload (key : Nat) (first : Rrp) (node effect : Nat) : Bytes :=
  leBytes 4 key ++ leBytes 8 (rrpNum first) ++ leBytes 1 node ++ leBytes 1 effect

/-- A record opened in a slot (R475): counted, its key entered in the day's list; a hive-scope one sends its token (R478)
and waits for the decision of its reporter, any other is reported by this device at once (R477). -/
def openRecord (s : State) (i key effect code : Nat) : State :=
  let node := nodeIdOf s
  let hive := bit key 23
  let r : FaultRec :=
    { key := key, effect := effect, st := .active, reporter := node,
      devices := 1 + ((tokenNodes s key).filter fun n => n ≠ node).length, first := s.now, latest := s.now, echoes := 0,
      code := code, decided := !hive, clearedAt := s.now }
  let s := bump (putRecord s i (some r)) 0x5807 0
  let s := updInsp s fun d =>
    { d with firstReports := d.firstReports + 1, worstEffect := Nat.max d.worstEffect effect,
             causeKeys := if d.causeKeys.length < 16 then d.causeKeys ++ [key] else d.causeKeys }
  if hive then sendCell s false (hiveCell s 0x05 0xFF false (tokenPayload key s.now node effect))
  else recordEmcy s r

/-- The lowest free slot below 63 (R476). -/
def freeSlot (s : State) : Option Nat :=
  ((enumFrom 0 s.health.slots.toList).find? fun e => e.2.isNone && e.1 < 63).map fun e => e.1

/-- The key of OVERFLOW (R476). -/
def overflowKey : Nat := 0xFF000000

/-- A fault reported (R475, R476), with the error code that its EMCY carries. -/
def reportWith (s : State) (cls inst effect code : Nat) : State :=
  let key := causeKey cls inst
  match findRecord s key with
  | some (i, r) => echoRecord s i r effect
  | none =>
    match freeSlot s with
    | some i => openRecord s i key effect code
    | none =>
      let s := bump s 0x5806 0
      match findRecord s overflowKey with
      | some (i, r) => echoRecord s i r effect
      | none => openRecord s 63 overflowKey effect 0

/-- A fault reported with the error code of its class (Table 18-4). -/
def report (s : State) (cls inst effect : Nat) : State := reportWith s cls inst effect (classCode cls)

/-- The condition of an open record clears: STATE 2, for a class that has a clear condition (R475). -/
def clearFault (s : State) (cls inst : Nat) : State :=
  match findRecord s (causeKey cls inst) with
  | some (i, r) =>
    if classClears cls && r.st = .active then putRecord s i (some { r with st := .clearing, clearedAt := s.now }) else s
  | none => s

/-- A record closed: it moves to the history of 256, and the last one of its error code to close resets the error
(R475 to R477). -/
def closeRecord (s : State) (i : Nat) (r : FaultRec) : State :=
  let s := putRecord s i none
  let s := { s with health := { s.health with history := ({ r with st := .closed } :: s.health.history).take 256 } }
  let others := (openRecords s).filter fun q => q.key ≠ overflowKey
  let s := if others.length < 63 then clearFault s 0xFF 0 else s
  let more := (openRecords s).any fun q => q.code = r.code
  if r.code = 0 || more || r.reporter ≠ nodeIdOf s then s
  else sendEmcy s ⟨0, r.key, r.effect, s.now, nodeIdOf s, none⟩

/-! ### The effect of a fault as this device had it (R481, Table 18-3) -/

def effNone : Nat := 0
def effCovered : Nat := 1
def effService : Nat := 2
def effGuest : Nat := 3
def effOutput : Nat := 4
def effProtected : Nat := 5
def effDevice : Nat := 6

end Sys2Proof.Machine
end

