-- ==== Sys2Proof/Machine/Division.lean ====
section
/-! DEFINITION. DRAM accesses: the location of an address, mirroring, lost groups, the memory division, and the addresses of
slices (R370 to R379, R384, R411, R425, R439 to R444). -/

namespace Sys2Proof.Machine

/-- How a read ends: with data, blocked by the memory division, or with a read error (R379). -/
inductive MemRes where
  | ok (bs : Bytes)
  | blocked
  | error
  deriving DecidableEq, Repr

/-- The parity of the low w bits of n. -/
def parityOf (w n : Nat) : Nat := (rangeFrom 0 w).foldl (fun a i => (a + n / 2 ^ i) % 2) 0

/-- Mask i in force: C0, C1, G0, G1, B0 to B3 (0x5603). -/
def maskAt (s : State) (i : Nat) : Nat := s.mem.masks.getD i 0

/-- The mirror bit H = N - 1 (Table 14-1). -/
def mirrorBit (s : State) : Nat := s.mem.bitsN - 1

/-- The effective mask of hash field i (R373): bits N - 1 and above cleared, then bit H set for G1 (field 3). -/
def effMask (s : State) (i : Nat) : Nat :=
  maskAt s i % 2 ^ mirrorBit s + (if i = 3 then 2 ^ mirrorBit s else 0)

/-- Hashed field i of an address (R373). -/
def hashField (s : State) (i a : Nat) : Nat := parityOf 40 (andMask a (effMask s i))

/-- The channel group of an address: 2 G1 + G0 (R373). -/
def groupOf (s : State) (a : Nat) : Nat := 2 * hashField s 3 a + hashField s 2 a

/-- The DRAM channel of an address: 4 times the group plus 2 C1 + C0 (R370, R373). -/
def channelOf (s : State) (a : Nat) : Nat := 4 * groupOf s a + 2 * hashField s 1 a + hashField s 0 a

/-- The location of an address (Table 14-2): channel, bank, row, column, byte. -/
def locationOf (s : State) (a : Nat) : Nat × Nat × Nat × Nat × Nat :=
  let bank := 8 * hashField s 7 a + 4 * hashField s 6 a + 2 * hashField s 5 a + hashField s 4 a
  (channelOf s a, bank, bits a (s.mem.bitsN - 2) 18, bits a 17 13, a % 64)

/-- DRAM is in service: trained, powered, not in self-refresh. -/
def dramServing (s : State) : Bool :=
  domainOn s 16 && !s.mem.selfRefresh && !s.mem.off && s.mem.bitsN ≠ 0

/-- The bytes of the page-owner table: 2^N / 1024 in page-owner mode (R444). -/
def tableBytes (s : State) : Nat := if s.sec.divMode = 2 then 2 ^ s.mem.bitsN / 1024 else 0

/-- The base of the secure area (R441): the reserve, and below it the page-owner table, at the top of DRAM below 2^H. -/
def secureBase (s : State) : Nat := 2 ^ mirrorBit s - s.sec.reserveInForce * 2 ^ 20 - tableBytes s

/-- Whether an address lies in the secure area. -/
def inSecureArea (s : State) (a : Nat) : Bool := secureBase s ≤ a && a < 2 ^ mirrorBit s

/-- The base and the size of a declared range, in bytes; both come in units of 2 MiB (Table 14-13). -/
def declaredRange (v : Nat) : Nat × Nat := (v / 65536 * 0x200000, v % 65536 * 0x200000)

/-- Whether an address lies in a mirrored range; the secure area always does (R375, R441). -/
def mirrored (s : State) (a : Nat) : Bool :=
  inSecureArea s a || (a < 2 ^ mirrorBit s && s.mem.mirrors.any fun r => r.1 ≤ a && a < r.1 + r.2)

/-- Whether an address is the shadow of a mirrored one (R375). -/
def isShadow (s : State) (a : Nat) : Bool := 2 ^ mirrorBit s ≤ a && mirrored s (a - 2 ^ mirrorBit s)

/-- Whether an address lies in the check area of an ECC range (R378). -/
def inCheckArea (s : State) (a : Nat) : Bool :=
  s.mem.eccs.any fun r => r.1 + r.2 * 7 / 8 ≤ a && a < r.1 + r.2

/-- Whether an address lies in the data area of an ECC range (R378). -/
def inEcc (s : State) (a : Nat) : Bool :=
  s.mem.eccs.any fun r => r.1 ≤ a && a < r.1 + r.2 * 7 / 8

/-- The owner word of the secure world: VALID and WORLD (Table 16-11). -/
def secureWord : Nat := 0xC0000000

/-- The grant that covers a page: the lowest-numbered one (R442); in region mode only the first 16 count (R443). -/
def grantOf (s : State) (a : Nat) : Option Grant :=
  let gs := if s.sec.divMode = 1 then s.sec.grantsInForce.take 16 else s.sec.grantsInForce
  gs.find? fun g => g.base ≤ a && a < g.base + g.pages * 4096

/-- The owner word that covers an address (R439 to R444). -/
def ownerWord (s : State) (a : Nat) : Nat :=
  if 2 ^ s.mem.bitsN ≤ a || s.mem.bitsN = 0 || inSecureArea s a then secureWord
  else
    let given := match grantOf s a with
      | some g => g.word
      | none => secureWord
    if s.sec.divMode = 2 then (SMap.get (fun _ => none) s.sec.owners (a / 4096)).getD given else given

/-- Whether an owner word lets a principal read or write (R439). -/
def wordAllows (s : State) (who : Principal) (write : Bool) (w : Nat) : Bool :=
  let kind := bits w 29 28
  let ownerBit := bit w (if write then 19 else 20)
  match who with
  | .secure => true
  | .mgmt => bit w 31 && !bit w 30 && bit w (if write then 17 else 18)
  | .slice k =>
    let p := (sliceAt s k.val).port
    bit w 31 && !bit w 30 && ownerBit && bits w 27 26 = p && ((kind = 0 && bits w 25 21 = k.val) || kind = 1)
  | .port p => bit w 31 && !bit w 30 && ownerBit && kind = 1 && bits w 27 26 = p.val

/-- The pages that an access touches. -/
def pagesOf (a n : Nat) : List Nat := if n = 0 then [] else rangeFrom (a / 4096) ((a + n - 1) / 4096 + 1 - a / 4096)

/-- Whether the memory division lets a principal make an access: every page of it lies in DRAM in service, outside shadows
and check areas, and its owner word allows it. -/
def accessAllowed (s : State) (who : Principal) (write : Bool) (a n : Nat) : Bool :=
  dramServing s && (pagesOf a n).all fun p =>
    let b := p * 4096
    b < 2 ^ s.mem.bitsN && !isShadow s b && !inCheckArea s b && wordAllows s who write (ownerWord s b)

/-- The instance of a principal in class 0x13 (Table 18-4). -/
def principalInst : Principal → Nat
  | .slice k => k.val
  | .port p => 0x20 + p.val
  | .mgmt => 0x40
  | .secure => 0x41

/-- A blocked access of the normal world: counted, and recorded at most once per principal and second (R439). -/
def blockedFault (s : State) (who : Principal) : State :=
  if who = .secure then s else
  let i := principalInst who
  let s := bump s 0x5E32 0
  let recent := s.sec.divFaultAt.any fun e => e.1 = i && elapsed s.tb.rate e.2 s.now < msTicks s.tb.rate 1000
  if recent then s else
  let rest := s.sec.divFaultAt.filter fun e => e.1 ≠ i
  report { s with sec := { s.sec with divFaultAt := (i, s.now) :: rest } } 0x13 i effNone

/-- Whether a channel group is lost (R377). -/
def groupLost (s : State) (g : Nat) : Bool := vecAt s.mem.groups g 0 = 2

/-- Where a byte is read from: its primary, or its shadow while the primary's group is lost; nowhere when neither can
answer (R376, R377). -/
def readFrom (s : State) (a : Nat) : Option Nat :=
  let g := groupOf s a
  if !groupLost s g then some a
  else if mirrored s a && !groupLost s (Nat.xor g 2) then some (a + 2 ^ mirrorBit s) else none

/-- Bytes at physical addresses, whoever asks; none where a byte cannot be read. -/
def physBytes (s : State) (a n : Nat) : Option Bytes :=
  (rangeFrom a n).mapM fun x => (readFrom s x).map (memByte s)

/-- The words of an ECC range that an access touches and whose check bits report an uncorrectable error (R379). -/
def poisonedWords (s : State) (a n : Nat) : List Nat := s.mem.poisoned.filter fun w => a < 8 * w + 8 && 8 * w < a + n

/-- An uncorrectable error, recorded and counted (R379): covered where the shadow answers. -/
def uncorrectable (s : State) (covered : Bool) : State :=
  report (bump s 0x5609 0) 0x30 0 (if covered then effCovered else effGuest)

/-- The 64-byte units of a read that come from the shadow, as the primary group is lost (R376). -/
def shadowUnits (s : State) (a n : Nat) : Nat :=
  if n = 0 || !s.mem.groups.toList.contains 2 then 0
  else ((rangeFrom (a / 64) ((a + n - 1) / 64 + 1 - a / 64)).filter fun u =>
    mirrored s (64 * u) && groupLost s (groupOf s (64 * u)) && (readFrom s (64 * u)).isSome).length

/-- A read of DRAM for a principal (R376, R379, R384, R439). -/
def memRead (s : State) (who : Principal) (a n : Nat) : MemRes × State :=
  if accessAllowed s who false a n then
    let again := shadowUnits s a n
    let s := if again = 0 then s else bumpBy s 0x560A 0 again
    if !(poisonedWords s a n).isEmpty then (.error, uncorrectable s false)
    else match physBytes s a n with
      | some bs => (.ok bs, s)
      | none => (.error, s)
  else (.blocked, blockedFault s who)

/-- One byte written: at its address unless the group is lost, and in its shadow too where it is mirrored (R375, R377). -/
def writeByte (s : State) (a : Nat) (b : Byte) : State :=
  let g := groupOf s a
  let s := if groupLost s g then s else memPost s a [b]
  if mirrored s a && !groupLost s (Nat.xor g 2) then memPost s (a + 2 ^ mirrorBit s) [b] else s

/-- The words that a write replaces whole have good check bits again (R379). -/
def healWords (s : State) (a n : Nat) : State :=
  if s.mem.poisoned.isEmpty then s
  else { s with mem := { s.mem with poisoned := s.mem.poisoned.filter fun w => !(a ≤ 8 * w && 8 * w + 8 ≤ a + n) } }

/-- A write of DRAM for a principal: whether it was made (R439). -/
def memWrite (s : State) (who : Principal) (a : Nat) (bs : Bytes) : Bool × State :=
  if accessAllowed s who true a bs.length then
    (true, each (enumFrom a bs) (healWords s a bs.length) fun s e => writeByte s e.1 e.2)
  else (false, blockedFault s who)

/-! ### Addresses of slices (R411) -/

/-- Slice k as a principal. -/
def sliceWho (k : Nat) : Principal := if h : k < 32 then .slice ⟨k, h⟩ else .mgmt

/-- Whether an I/O virtual address names host memory. -/
def isHost (v : Nat) : Bool := bit v 63

/-- Whether a slice's port has PASID Enable set. -/
def pasidOn (s : State) (k : Nat) : Bool := (portAt s (sliceAt s k).port).pasidEnable

/-- A read of host memory for a slice: what it holds is free, and so is whether the request ends without data, in Unsupported
Request, Completer Abort or a timeout, which is a blocked access (R411). -/
def hostRead (s : State) (n : Nat) : MemRes × State :=
  let (lost, s) := takeFree s 2
  if lost = 1 then (.blocked, s) else let (bs, s) := takeBytes s n; (.ok bs, s)

/-- A read through slice k's translation; host says whether a host address is allowed for this use. -/
def sliceRead (s : State) (k v n : Nat) (host : Bool) : MemRes × State :=
  if isHost v then
    if host && pasidOn s k then hostRead s n else (.blocked, s)
  else if 2 ^ 40 ≤ v then (.blocked, blockedFault s (sliceWho k))
  else memRead s (sliceWho k) v n

/-- A write through slice k's translation: whether it was made. -/
def sliceWrite (s : State) (k v : Nat) (bs : Bytes) (host : Bool) : Bool × State :=
  if isHost v then
    if host && pasidOn s k then
      (true, emit s (.hostWrite (sliceAt s k).port (sliceAt s k).pasid (v % 2 ^ 63) bs))
    else (false, s)
  else if 2 ^ 40 ≤ v then (false, blockedFault s (sliceWho k))
  else memWrite s (sliceWho k) v bs

/-- Whether a slice may make an access at an address, without making it. -/
def sliceMay (s : State) (k : Nat) (write : Bool) (v n : Nat) (host : Bool) : Bool :=
  if isHost v then host && pasidOn s k else v + n ≤ 2 ^ 40 && accessAllowed s (sliceWho k) write v n

/-! ### Vectors and events of a slice (R417, Table 15-5) -/

/-- The first MSI-X entry of a slice: 8 for each bound slice of the same port with a lower number (R417). -/
def vectorBase (s : State) (k : Nat) : Nat :=
  let p := (sliceAt s k).port
  8 * ((rangeFrom 0 k).filter fun j => (sliceAt s j).st ≠ .unbound && (sliceAt s j).port = p).length

/-- An occurrence of a cause on an entry of a port: a message, or the pending bit while it is masked; nothing while MSI-X
is disabled (R417). -/
def raiseVector (s : State) (p e : Nat) : State :=
  let port := portAt s p
  if !port.msixEnable then s
  else if port.msixMask || (vecAt port.msix e ⟨0, 0, true⟩).masked then
    if port.msixPending.contains e then s else updPort s p fun q => { q with msixPending := e :: q.msixPending }
  else emit s (.msix p e)

/-- A cause of a slice (Table 15-7). -/
def raiseCause (s : State) (k cause : Nat) : State :=
  if (sliceAt s k).st = .unbound then s else raiseVector s (sliceAt s k).port (vectorBase s k + cause)

/-- A SLICE_EVENTS bit set; vector 7 where its enable bit is 1. -/
def sliceEvent (s : State) (k b : Nat) : State :=
  if (sliceAt s k).st = .unbound then s else
  let s := setSreg s k 0x10 (setBit (sreg s k 0x10) b true)
  if bit (sreg s k 0x14) b then raiseCause s k 7 else s

/-- A counter held in a slice register raised by one. -/
def bumpSreg (s : State) (k off : Nat) : State :=
  let n := sreg s k off
  if n + 1 < 2 ^ 32 then setSreg s k off (n + 1) else let (f, s) := takeFree s (2 ^ 32); setSreg s k off f

/-- A doorbell or start discarded (R415, R416): DISCARDED is set and counted. -/
def discardStart (s : State) (k : Nat) : State := sliceEvent (bumpSreg s k 0x18) k 7

/-- A fence, completion or record write of a slice, with WRITE_FAULT where it is blocked. -/
def recordWrite (s : State) (k v : Nat) (bs : Bytes) (host : Bool) : State :=
  let (ok, s) := sliceWrite s k v bs host
  if ok then s else sliceEvent s k 3

/-- A blocked access of a slice shown in BLOCKED. -/
def sliceBlocked (s : State) (k : Nat) : State := sliceEvent s k 2

end Sys2Proof.Machine
end

