-- ==== Sys2Proof/Machine/Timebase.lean ====
section
/-! DEFINITION. The timebase and the field inputs (R59 to R78): sources, qualification, lock and holdover. -/

namespace Sys2Proof.Machine

/-- The timebase changed. -/
def updTb (s : State) (f : Timebase → Timebase) : State := { s with tb := f s.tb }

/-- The status of source k (1 to 4). -/
def srcStatus (s : State) (k : Nat) : SrcStatus := vecAt s.tb.status (k - 1) .absent

/-- The status and the count of consecutive good datums of source k set. -/
def setSource (s : State) (k : Nat) (st : SrcStatus) (count : Nat) : State :=
  updTb s fun t => { t with status := vecMod t.status (k - 1) fun _ => st, count := vecMod t.count (k - 1) fun _ => count }

/-- The order in which the device selects its source (R66): the Source Priority list at position 0 or without a hive
link, else the hive, forward first. A device that would count 64 or more follows none (R86). -/
def sourceOrder (s : State) : List Nat :=
  if s.hive.excluded then []
  else if s.hive.enumerated && s.hive.pos ≠ 0 then [3, 4]
  else (((rangeFrom 1 3).map fun i => entryNum s 0x2201 i).takeWhile fun k => k ≠ 0).filter fun k => k = 1 || k = 2

/-- The first qualified source in the order. -/
def firstQualified (s : State) : Option Nat := (sourceOrder s).find? fun k => srcStatus s k = .qualified

/-- Whether an output, a TDM port or a touch scan runs: the raster then moves by slewing only (R70). -/
def rasterBusy (s : State) : Bool :=
  s.outs.toList.any (fun o => o.scan = .running || o.scan = .starting) || s.audio.running.isSome ||
    s.touch.toList.any fun c => c.st = .startScan || c.st = .scanning

/-- A source is taken: Bring-up may step the raster onto it while nothing runs on the raster, else by slewing (R67, R70, R72). -/
def takeSource (s : State) (k : Nat) : State :=
  let steps := s.tb.st = .acquiring && !rasterBusy s
  updTb s fun t => { t with active := k, st := if steps then .acquiring else .slewing, stepDue := steps }

/-- A source has qualified (R67): taken at once while the device has none; an earlier one waits its 10 s
(SOURCE_DWELL_EXPIRE). -/
def sourceQualified (s : State) (k : Nat) : State :=
  let s := setSource s k .qualified (vecAt s.tb.count (k - 1) 0)
  let s := if k = 2 then updTb s fun t => { t with ptpEver := true } else s
  if s.tb.active = 0 then
    match firstQualified s with
    | some j => takeSource s j
    | none => s
  else s

/-- One good datum of source k counted; 4 in a row qualify it (Table 3-3). -/
def goodDatum (s : State) (k : Nat) : State :=
  let n := Nat.min 4 (vecAt s.tb.count (k - 1) 0 + 1)
  let q := srcStatus s k
  if q = .qualified then setSource s k q n
  else if n = 4 then sourceQualified (setSource s k .qualifying n) k
  else setSource s k .qualifying n

/-- The timebase in holdover: no step; its duration counts from here. -/
def holdTb (t : Timebase) : Timebase := { t with st := .holdover, active := 0, holdFrames := 0, stepDue := false }

/-- Holdover is entered (R67, R71). The device at position 0, or alone, reports the loss (class 0x01, INSTANCE the source
code). -/
def enterHoldover (s : State) (k : Nat) : State :=
  let s := updTb s holdTb
  if s.hive.pos = 0 then report s 0x01 k effNone else s

/-- The order of sources has changed (R66): a source that it no longer holds is left for the first qualified one, and a device
without a source takes the first qualified one. -/
def reselect (s : State) : State :=
  if s.tb.active ≠ 0 && (sourceOrder s).contains s.tb.active then s
  else match firstQualified s with
    | some j => takeSource s j
    | none =>
      if s.tb.active = 0 then s
      else if s.tb.st = .acquiring then updTb s fun t => { t with active := 0, stepDue := false }
      else updTb s holdTb

/-- A source is lost (R67): the next qualified one is taken at once, else holdover; Bring-up goes on acquiring. The loss of
a hive source is a fault of its hop. -/
def sourceLost (s : State) (k : Nat) : State :=
  let was := srcStatus s k
  let s := setSource s k .lost 0
  let s := if k ≥ 3 && was = .qualified then
      report s 0x03 (if k = 3 then s.hive.pos else s.hive.pos + 1) effCovered else s
  if s.tb.active ≠ k then s
  else
    let s := updTb s fun t => { t with active := 0 }
    match firstQualified s with
    | some j => takeSource s j
    | none => if s.tb.st = .acquiring || s.tb.st = .freeRun then s else enterHoldover s k

/-- A difference of positions reduced to the nearer alignment modulo one frame period (R70). -/
def nearer (s : State) (d : Int) : Int :=
  let t : Int := frameTicks s.tb.rate
  let m := d % t
  if 2 * m ≤ t then m else m - t

/-- A position moved by a signed number of phase units. -/
def shifted (s : State) (x : Rrp) (d : Int) : Rrp :=
  if 0 ≤ d then rrpAdd s.tb.rate x d.toNat else rrpSub s.tb.rate x (-d).toNat

/-- The frame whose boundary is nearest to a position. -/
def nearestFrame (s : State) (x : Rrp) : Nat :=
  if rrpPos x * 2 ≤ frameTicks s.tb.rate then x.frame else (x.frame + 1) % 2 ^ 32

/-- Reference Offset (0x2203), in phase units. -/
def refOffset (s : State) : Int := sint 32 (entryNum s 0x2203 0)

/-- A position renumbered so that the boundary nearest to it starts frame n. -/
def renumbered (s : State) (x : Rrp) (n : Nat) : Rrp :=
  ⟨if rrpPos x * 2 ≤ frameTicks s.tb.rate then n % 2 ^ 32 else (n + 2 ^ 32 - 1) % 2 ^ 32, x.line, x.phase⟩

/-- The cadence position that a frame number gives at Bring-up: at position 0 or alone (R75). -/
def cadenceOf (s : State) (f : Nat) : Nat := if s.tb.rate = .hz5994 then f % 5 else 0

/-- The step of Bring-up (R69, R72, R75): the raster stands at x; at position 0 the cadence is that of its frame. -/
def stepRaster (s : State) (x : Rrp) : State :=
  let s := updTb { s with now := x } fun t => { t with stepDue := false, phaseErr := 0 }
  if s.hive.pos = 0 then updTb s fun t => { t with cadence := cadenceOf s x.frame } else s

/-- The frame number of 802.1AS at a datum whose displaced place on the raster is x (R68): a difference from the own count is
kept and reported, for the frame number never steps after Bring-up. -/
def frameNumberCheck (s : State) (x : Rrp) (n : Nat) : State :=
  let own := nearestFrame s x
  if own = n % 2 ^ 32 then s
  else report (updTb s fun t => { t with mismatch := sint 32 (frameDiff n own) }) 0x02 0 effNone

/-- A datum of the active source (R64, R68, R70): err is the place of the raster less that of the source, modulo a frame. n is
the frame number that the source gives, where it gives one; renumber says whether a later difference is reported. -/
def follow (s : State) (err : Int) (n : Option Nat) (check : Bool) : State :=
  let e := nearer s err
  let x := shifted s s.now (-e)
  if s.tb.stepDue then stepRaster s (n.elim x (renumbered s x))
  else
    let s := updTb s fun t => { t with phaseErr := e }
    match n with
    | some k => if check then frameNumberCheck s x k else s
    | none => s

/-- Whether a datum lies in the window of 2 RL on either side of its expected place (Table 3-3). -/
def inWindow (s : State) (x : Rrp) : Bool :=
  elapsed s.tb.rate x s.now ≤ rlTicks 2 && elapsed s.tb.rate s.now x ≤ rlTicks 2

/-- The place one frame period after a datum. -/
def nextDatum (s : State) (x : Rrp) : Rrp := rrpAdd s.tb.rate x (frameTicks s.tb.rate)

/-- A REFSYNC datum taken: it counts toward qualification, and the active source is followed. -/
def takeDatum (s : State) (periodOk : Bool) (gptpN : Nat) : State :=
  let s := updTb s fun t => { t with missing := 0, expected := some (nextDatum s s.now) }
  let s :=
    if periodOk then goodDatum s 1
    else if srcStatus s 1 = .qualified then s
    else setSource s 1 .wrongRate 1
  if s.tb.active ≠ 1 then s
  else
    let ptp := srcStatus s 2 = .qualified
    let s := updTb s fun t => { t with gptpN := if ptp then gptpN else t.gptpN }
    follow s (rrpPos s.now + refOffset s) (if ptp then some gptpN else none) true

/-- A REFSYNC datum (R63, R64, R68). Of a qualified source, one outside the window of its expected place is no datum. -/
def refsyncDatum (s : State) (periodOk : Bool) (gptpN : Nat) : State :=
  let stray := srcStatus s 1 = .qualified && match s.tb.expected with
    | some x => !inWindow s x
    | none => false
  if !timebaseOn s || stray then s else takeDatum s periodOk gptpN

def execRefsyncDatum (t : Rrp) (periodOk : Bool) (gptpN : Nat) (s : State) : Out :=
  .next (finish s (refsyncDatum (atTime s t) periodOk gptpN))

/-- The window of an expected datum closes empty: the second in a row loses the source (Table 3-3). -/
def refsyncMissing (s : State) : State :=
  let n := s.tb.missing + 1
  if !timebaseOn s then s
  else
  let s := updTb s fun t => { t with missing := n, expected := t.expected.map (nextDatum s) }
  if n ≥ 2 then
    if srcStatus s 1 = .qualified then sourceLost s 1 else setSource s 1 .absent 0
  else if srcStatus s 1 = .qualified then s
  else setSource s 1 (srcStatus s 1) 0

def execRefsyncDatumMissing (t : Rrp) (s : State) : Out := .next (finish s (refsyncMissing (atTime s t)))

/-- The port whose time is used: the slave port, of two the one with fewer hops, on a tie ETH0 (R65). -/
def ptpPortOf (s : State) : Nat :=
  let a := vecAt s.tb.ptpSlave 0 false
  let b := vecAt s.tb.ptpSlave 1 false
  if a && b then (if vecAt s.tb.ptpHops 1 0 < vecAt s.tb.ptpHops 0 0 then 1 else 0) else if b then 1 else 0

/-- An 802.1AS time message on a port (R63, R65), in the domain that the device takes part in. -/
def ptpSync (s : State) (p : PtpPort) (slave asCapable stable : Bool) (hops grandmaster n : Nat) (err : Int) : State :=
  let port := p.port
  if !timebaseOn s || !netOn s || p.ptpDomain ≠ entryNum s 0x2204 0 then s
  else
  let s := updTb s fun t =>
    { t with ptpSlave := vecMod t.ptpSlave port.val fun _ => slave, ptpHops := vecMod t.ptpHops port.val fun _ => hops }
  let s := updTb s fun t => { t with ptpPort := ptpPortOf s }
  if port.val ≠ s.tb.ptpPort then s
  else
    let changed := s.tb.grandmaster ≠ grandmaster && srcStatus s 2 = .qualified
    let s := if changed then sourceLost s 2 else s
    let s := updTb s fun t => { t with grandmaster := grandmaster, gptpN := n }
    let s := if slave && asCapable && stable then goodDatum s 2
      else if srcStatus s 2 = .qualified then s else setSource s 2 .qualifying 0
    if s.tb.active = 2 then follow s (err + refOffset s) (some n) false else s

def execPtpSyncReceive (t : Rrp) (port : PtpPort) (slave asCapable stable : Bool) (hops grandmaster : Nat)
    (n : Nat) (err : Int) (s : State) : Out :=
  .next (finish s (ptpSync (atTime s t) port slave asCapable stable hops grandmaster n err))

/-- A source's own time runs out while the timebase runs. -/
def sourceTimeout (s : State) (k : Nat) : State := if timebaseOn s then sourceLost s k else s

def execPtpSourceLost (t : Rrp) (s : State) : Out := .next (finish s (sourceTimeout (atTime s t) 2))

/-- The records of a class whose condition has cleared. -/
def clearClass (s : State) (cls : Nat) : State :=
  each ((openRecords s).filter fun r => r.key / 2 ^ 24 = cls) s fun s r => clearFault s cls (r.key % 2 ^ 16)

/-- A hive cell whose CRC holds and whose type is not reserved (R80). -/
def cellOk (cell : Bytes) : Bool :=
  cell.length = 32 && u32 cell 28 = crcOf crc32c (cell.take 28) && u8 cell 0 ≤ 7

/-- A cell discarded and counted (R80). -/
def cellError (s : State) : State :=
  let n := s.hive.cellErrors + 1
  let (v, s) := if n < 2 ^ 32 then (n, s) else takeFree s (2 ^ 32)
  { s with hive := { s.hive with cellErrors := v } }

/-- A TIMING cell (R63, R83): its RRP is corrected by the hop delay; it carries the rate, the sender's state, the head's
active source and the cadence position. A cell whose RRP is invalid is no valid TIMING
cell (R60). One that shows the head in holdover opens the head's fault here too (R478's
example), and the head locked again clears it. -/
def hiveTiming (s : State) (rev : Bool) (cell : Bytes) : State :=
  if !timebaseOn s || !netOn s then s
  else if !cellOk cell then cellError s
  else
    let k := if rev then 4 else 3
    let p := (cell.drop 4).take 24
    let delayPs := if rev then s.hive.hopDelayOutPs else s.hive.hopDelayPs
    let sent := rrpOf (u64 p 0)
    let x := rrpAdd s.tb.rate sent (nsTicks s.tb.rate delayPs / 1000)
    let senderState := u8 p 9
    let headSrc := u8 p 10
    if u8 p 8 ≠ rateCode s.tb.rate then setSource s k .wrongRate 0
    else if !rrpValid s.tb.rate sent then s
    else
      let s := goodDatum s k
      let lost := headSrc = 0 && s.tb.headSource ≠ 0
      let s := if s.hive.pos ≠ 0 && lost then report s 0x01 s.tb.headSource effNone else s
      let s := if s.hive.pos ≠ 0 && headSrc ≠ 0 && senderState = 2 then clearClass s 0x01 else s
      let s := updTb s fun t => { t with headSource := headSrc }
      if s.tb.active = k then
        let s := updTb s fun t => { t with cadence := if t.rate = .hz5994 then u8 p 11 else 0 }
        if s.tb.stepDue then stepRaster s x
        else updTb s fun t => { t with phaseErr := nearer s ((rrpPos s.now : Int) - (rrpPos x : Int)) }
      else s

def execHiveTimingReceive (t : Rrp) (rev : Bool) (cell : Bytes) (s : State) : Out :=
  .next (finish s (hiveTiming (atTime s t) rev cell))

def execHiveTimingTimeout (t : Rrp) (rev : Bool) (s : State) : Out :=
  .next (finish s (sourceTimeout (atTime s t) (if rev then 4 else 3)))

/-- The 10 s of an earlier source are over (R67): the device slews onto it if it is still qualified. -/
def dwellExpire (s : State) (k : Nat) : State :=
  let earlier := (sourceOrder s).takeWhile fun j => j ≠ s.tb.active
  if timebaseOn s && s.tb.active ≠ 0 && earlier.contains k && srcStatus s k = .qualified then takeSource s k else s

def execSourceDwellExpire (t : Rrp) (src : Nat) (s : State) : Out := .next (finish s (dwellExpire (atTime s t) src))

/-- The Locked condition of Table 3-4 holds (R69, R70). -/
def timebaseLocked (s : State) : State :=
  if !timebaseOn s || s.tb.active = 0 then s
  else
    let s := updTb s fun t => { t with st := .locked, everLocked := true, stepDue := false }
    if s.hive.pos = 0 then clearClass s 0x01 else s

def execTimebaseLocked (t : Rrp) (s : State) : Out := .next (finish s (timebaseLocked (atTime s t)))

/-- No source in 12 frame periods of Bring-up: FREE_RUN, frames numbered from 0 (R72). -/
def acquisitionTimeout (s : State) : State :=
  if timebaseOn s && s.tb.st = .acquiring && s.tb.active = 0 then
    { updTb s (fun t => { t with st := .freeRun, cadence := 0 }) with now := { s.now with frame := 0 } }
  else s

def execAcquisitionTimeout (t : Rrp) (s : State) : Out := .next (finish s (acquisitionTimeout (atTime s t)))

/-- The frame boundary's part of the timebase (R75; holdover duration). -/
def timebaseFrame (s : State) : State :=
  updTb s fun t => { t with
    cadence := if t.rate = .hz5994 then (t.cadence + 1) % 5 else 0,
    holdFrames := if t.st = .holdover then (t.holdFrames + 1) % 2 ^ 32 else t.holdFrames }

/-- The sample that begins at the present position of the raster, counted in its frame at 60 and 50 Hz (R74) and in its group of
five frames at 59.94 Hz (R75), where the exact position is rounded down to a phase unit as R73 rounds (log entry 201). -/
def sampleBegins (s : State) : Option Nat :=
  let pos := rrpPos s.now
  if s.tb.rate = .hz5994 then
    let place := s.tb.cadence * frameTicks s.tb.rate + pos
    let sample := (place * 4004 + rlTicks 11250 - 1) / rlTicks 11250
    if sample * rlTicks 11250 / 4004 = place then some sample else none
  else if pos % 184320 = 0 then some (pos / 184320) else none

/-- Whether the reference raster runs: not in Off or Watch, and only with its timebase. -/
def rasterRuns (s : State) : Bool := s.mode ≠ .off && s.mode ≠ .watch && timebaseOn s

/-- Whether a new level has held for the input's filter time, in 1/256 RL from its first sample (R76). Without a raster there is
no such time (R78). -/
def heldLongEnough (s : State) (i : Nat) (first : Rrp) : Bool :=
  !rasterRuns s || entryNum s 0x5F00 (i + 1) * 256 ≤ elapsed s.tb.rate first s.now

/-- A change of a field input (R76 to R78, R10) that has held for its filter time: the level; where the main die sees its inputs
and a raster runs, also its RRP, which is that of the first sample at the new level. -/
def fioChange (s : State) (i : Fin 16) (level : Bool) (first : Rrp) : State :=
  let seen := s.dieLink && !s.fioUnknown && rasterRuns s
  if !heldLongEnough s i.val first || (vecAt s.fio i.val ⟨false, zeroRrp⟩).level = level then s
  else { s with fio := vecMod s.fio i.val fun f => { level := level, edge := if seen then first else f.edge } }

def execFioInputChange (t : Rrp) (i : Fin 16) (level : Bool) (first : Rrp) (s : State) : Out :=
  .next (finish s (fioChange (atTime s t) i level first))

/-! ### The hive link without its messages (R79, R83, R85, R86) -/

/-- A lane of a hop fails (R79): the hop goes on at half rate. -/
def laneFail (s : State) (rev : Bool) (lane : Fin 2) (out : Bool) : State :=
  if !netOn s then s else
  let e := (out, rev, lane.val)
  let s := if s.hive.failedLanes.contains e then s
    else { s with hive := { s.hive with failedLanes := e :: s.hive.failedLanes } }
  report s 0x03 (if out then s.hive.pos + 1 else s.hive.pos) effCovered

def execHiveLaneFail (t : Rrp) (rev : Bool) (lane : Fin 2) (out : Bool) (s : State) : Out :=
  .next (finish s (laneFail (atTime s t) rev lane out))

/-- The value of Timebase State (Table 3-5). -/
def tbStateCode : TbState → Nat
  | .freeRun => 0
  | .acquiring => 1
  | .locked => 2
  | .holdover => 3
  | .slewing => 4

/-- The head's active source as this device passes it on: its own at position 0. -/
def headSourceOf (s : State) : Nat := if s.hive.pos = 0 then s.tb.active else s.tb.headSource

/-- A TIMING cell of this device (Table 3-8). -/
def timingCell (s : State) (rev : Bool) : Bytes :=
  hiveCell s 0x01 0xFF rev (leBytes 8 (rrpNum s.now) ++ leBytes 1 (rateCode s.tb.rate) ++
    leBytes 1 (tbStateCode s.tb.st) ++ leBytes 1 (headSourceOf s) ++ leBytes 1 s.tb.cadence)

/-- TIMING cells on the forward and reverse lanes, at lines that are multiples of 150 with PHASE 0 (R83). -/
def timingSend (s : State) : State :=
  if timebaseOn s && s.now.line % 150 = 0 && s.now.phase = 0 && !s.hive.excluded then
    let s := sendCell s false (timingCell s false)
    sendCell s true (timingCell s true)
  else s

def execHiveTimingSend (t : Rrp) (s : State) : Out := .next (finish s (timingSend (atTime s t)))

/-- A DELAY exchange with a neighbour (R83): half the round trip less the turnaround, in ps. Both stamps of the cell sent are
the present RRP (log entry 196). -/
def delayExchange (s : State) (out : Bool) (roundTrip turnaround : Nat) : State :=
  if !netOn s then s else
  let d := (roundTrip - turnaround) / 2
  let s := sendCell s (!out) (hiveCell s 0x02 0xFF (!out) (leBytes 8 (rrpNum s.now) ++ leBytes 8 (rrpNum s.now)))
  if out then { s with hive := { s.hive with hopDelayOutPs := d } } else { s with hive := { s.hive with hopDelayPs := d } }

def execHiveDelayExchange (t : Rrp) (out : Bool) (roundTrip turnaround : Nat) (s : State) : Out :=
  .next (finish s (delayExchange (atTime s t) out roundTrip turnaround))

/-- Whether this device is the head (R85). -/
def isHead (s : State) : Bool := s.power.sampled.headSel

/-- The head's ENUM (R85): it takes count 0 itself, and the cell leaves with the count of the next device. -/
def enumSend (s : State) : State :=
  if netOn s && isHead s && !s.hive.enumStopped then
    let s := reselect { s with hive := { s.hive with pos := 0, enumerated := true } }
    sendCell s false (hiveCell s 0x03 0xFF false (leBytes 1 1 ++ leBytes 1 (b2n s.hive.closed)))
  else s

def execEnumSend (t : Rrp) (s : State) : Out := .next (finish s (enumSend (atTime s t)))

/-- A cell relayed with its payload: HOPS raised by one (R81). -/
def relayed (cell : Bytes) (payload : Bytes) : Bytes :=
  let head := cell.take 3 ++ leBytes 1 (u8 cell 3 + 1) ++ padTo 24 payload
  head ++ leBytes 4 (crcOf crc32c head)

/-- A cell passed on with a new payload, unless its HOPS would reach 64 (R81). -/
def passOn (s : State) (cell payload : Bytes) : State :=
  if u8 cell 3 % 128 < 63 then sendCell s false (relayed cell payload) else s

/-- An ENUM cell (R85, R86). A head that meets another head's passes it on as any device does; the ring-closed flag at the head,
once set, stays set (log entry 197). -/
def enumReceive (s : State) (cell : Bytes) : State :=
  if !netOn s then s
  else if !cellOk cell then cellError s
  else
    let p := (cell.drop 4).take 24
    let count := u8 p 0
    let counted := leBytes 1 (count + 1) ++ p.drop 1
    if isHead s && u8 cell 1 = nodeIdOf s then { s with hive := { s.hive with closed := true, size := count } }
    else if isHead s then passOn (report { s with hive := { s.hive with enumStopped := true } } 0x04 0 effService) cell counted
    else if s.hive.enumerated then
      let s := { s with hive := { s.hive with closed := bit (u8 p 1) 0 } }
      let s := if count ≠ s.hive.pos then report s 0x04 0 effService else s
      passOn s cell counted
    else if s.hive.excluded then sendCell s false cell
    else if count ≥ 64 then
      let s := updTb { s with hive := { s.hive with excluded := true } } holdTb
      sendCell (report s 0x04 0 effService) false cell
    else passOn (reselect { s with hive := { s.hive with pos := count, enumerated := true, closed := bit (u8 p 1) 0 } }) cell counted

def execEnumReceive (t : Rrp) (cell : Bytes) (s : State) : Out := .next (finish s (enumReceive (atTime s t) cell))

end Sys2Proof.Machine
end

