-- ==== Sys2Proof/Machine/Health.lean ====
section
/-! DEFINITION. The health monitor: fault records, cause tokens, EMCY and the daily inspection record (chapter 18). -/

namespace Sys2Proof.Machine

/-! ### Fault records and tokens -/

/-- A release condition of a paired output (R210, R211): a released or unpaired output is not changed; one that rearms is
released again; else the condition waits for the next vertical sync, and the run of matching frames starts again. -/
def pairTrigger (s : State) (n : Nat) : State :=
  updOut s n fun o =>
    match o.pair with
    | .notPaired => o
    | .released => o
    | .rearming => { o with pair := .released, pairRun := 0 }
    | _ => { o with pairCond := true, pairRun := 0 }

/-- A detector's report (R475); a fault of the sentinel renderer for an output releases its pair pin (R210). -/
def faultReport (s : State) (cls inst effect : Nat) : State :=
  let s := report s cls inst effect
  if cls = 0x28 then pairTrigger s inst else s

def execFaultReport (t : Rrp) (cls inst effect : Nat) (s : State) : Out :=
  .next (finish s (faultReport (atTime s t) cls inst effect))

/-- DEVICES of a key's open record counted again (R480). -/
def recountDevices (s : State) (key : Nat) : State :=
  match findRecord s key with
  | some (i, r) =>
    let others := (tokenNodes s key).filter fun n => n ≠ nodeIdOf s
    putRecord s i (some { r with devices := 1 + others.length })
  | none => s

/-- A TOKEN cell (R478, R479): kept, and its node counted; it never changes a decision made. -/
def tokenReceive (s : State) (cell : Bytes) : State :=
  if !netOn s then s
  else if !cellOk cell then cellError s
  else
    let p := (cell.drop 4).take 24
    let tok : Token := { key := u32 p 0, first := rrpOf (u64 p 4), node := u8 p 12, effect := u8 p 13 }
    if s.hive.excluded || tok.node = nodeIdOf s then s
    else
      let rest := s.health.tokens.filter fun t => !(t.key = tok.key && t.node = tok.node)
      recountDevices { s with health := { s.health with tokens := tok :: rest } } tok.key

def execHiveTokenReceive (t : Rrp) (cell : Bytes) (s : State) : Out := .next (finish s (tokenReceive (atTime s t) cell))

/-- A token 60 s after its FIRST_RRP is dropped (R478). -/
def tokenExpire (s : State) (key node : Nat) : State :=
  let keep := s.health.tokens.filter fun t => !(t.key = key && t.node = node && waited s t.first 60000)
  recountDevices { s with health := { s.health with tokens := keep } } key

def execHiveTokenExpire (t : Rrp) (key node : Nat) (s : State) : Out := .next (finish s (tokenExpire (atTime s t) key node))

/-- The pair (FIRST_RRP, NODE) a is lower than b (R479). -/
def pairLower (a b : Rrp × Nat) : Bool := rrpBefore a.1 b.1 || (rrpNum a.1 = rrpNum b.1 && a.2 < b.2)

/-- The reporter that the tokens held name for a record: the lowest pair's node (R479). -/
def reporterOf (s : State) (r : FaultRec) : Nat :=
  let own := (r.first, nodeIdOf s)
  let pairs := (s.health.tokens.filter fun t => t.key = r.key).map fun t => (t.first, t.node)
  (pairs.foldl (fun best p => if pairLower p best then p else best) own).2

/-- The decision at 4 RL after a hive-scope record's FIRST_RRP (R479, R480). -/
def reporterDecision (s : State) (key : Nat) : State :=
  match findRecord s key with
  | some (i, r) =>
    if r.decided || elapsed s.tb.rate r.first s.now < rlTicks 4 then s
    else
      let who := reporterOf s r
      let r := { r with reporter := who, decided := true }
      let s := putRecord s i (some r)
      if who = nodeIdOf s then recordEmcy s r else bump s 0x5808 0
  | none => s

def execReporterDecision (t : Rrp) (key : Nat) (s : State) : Out := .next (finish s (reporterDecision (atTime s t) key))

/-- A record that has been clearing for 60 s, without a report, closes (R475). -/
def recordClose (s : State) (key : Nat) : State :=
  match findRecord s key with
  | some (i, r) => if r.st = .clearing && waited s r.clearedAt 60000 then closeRecord s i r else s
  | none => s

def execFaultRecordClose (t : Rrp) (key : Nat) (s : State) : Out := .next (finish s (recordClose (atTime s t) key))

/-- The inhibit time of a node runs out: its first held EMCY is sent (R48, R477). -/
def inhibitExpire (s : State) (node : Nat) : State :=
  let s := { s with net := { s.net with inhibit := s.net.inhibit.filter fun n => n ≠ node } }
  match s.net.emcyHeld.find? fun e => e.node = node with
  | some e =>
    let s := { s with net := { s.net with emcyHeld := s.net.emcyHeld.erase e } }
    sendEmcy s e
  | none => s

def execEmcyInhibitExpire (t : Rrp) (node : Nat) (s : State) : Out := .next (finish s (inhibitExpire (atTime s t) node))

def execSupplyOutOfRange (t : Rrp) (_inst : Nat) (s : State) : Out :=
  .next (finish s (reportWith (atTime s t) 0x71 0 effNone 0x3200))

/-- A sensor above 110 °C (R522), read in hundredths of a degree. -/
def overTemperature (s : State) (centi : Int) : State :=
  if centi > 11000 then reportWith s 0x71 0 effNone 0x4200 else s

def execOverTemperature (t : Rrp) (_sensor : Nat) (centi : Int) (s : State) : Out :=
  .next (finish s (overTemperature (atTime s t) centi))

/-- An EMCY of the CAN communication itself (Table 2-9, 0x8110 to 0x8250): the manual gives it no fault class, so its cause
key and effect class are free values. Error register bit 4 stays set until the next Bring-up. -/
def commEmcy (s : State) (code : Nat) : State :=
  let s := setNum s 0x1001 0 (Nat.lor (entryNum s 0x1001 0) 16)
  let (key, s) := takeFree s (2 ^ 32)
  let (eff, s) := takeFree s 256
  sendEmcy s ⟨code, key, eff, s.now, nodeIdOf s, none⟩

/-- Overrun, error passive, recovered from bus-off (Table 2-9). -/
def canErrorCode (what : Fin 3) : Nat := if what = 0 then 0x8110 else if what = 1 then 0x8120 else 0x8140

def execCanErrorStateChange (t : Rrp) (_bus : Fin 2) (what : Fin 3) (s : State) : Out :=
  .next (finish s (commEmcy (atTime s t) (canErrorCode what)))

/-! ### The daily inspection record (R490 to R493) -/

/-- The seconds of n frames at the reference rate. -/
def framesToSeconds (r : Rate) (n : Nat) : Nat := n * (frameRate r).2 / (frameRate r).1

/-- MODE_SECONDS: from the guard's milliseconds in Watch and the frames counted in each other mode. -/
def modeSecondsBytes (r : Rate) (v : Vector Nat 7) : Bytes :=
  (enumFrom 0 v.toList).flatMap fun e => leBytes 4 (if e.1 = 0 then e.2 / 1000 else framesToSeconds r e.2)

/-- A monitor's worst value of the day as UNSIGNED16; 0 where it was not evaluated. -/
def monitorWord (m : Option Int) : Bytes := leBytes 2 (ofSint 16 (m.getD 0))

/-- Bytes 0 to 415 of the inspection record (Table 18-6). -/
def inspectionBody (s : State) (d : Inspection) (flags : Nat) : Bytes :=
  ascii "INS1" ++ leBytes 2 1 ++ leBytes 2 d.day ++ leBytes 8 (rrpNum d.start) ++ leBytes 8 (rrpNum s.now) ++
  leBytes 8 d.startTime ++ modeSecondsBytes s.tb.rate d.modeCounts ++ leBytes 4 flags ++
  d.crcChecks.toList.flatMap (leBytes 4) ++ d.crcMismatches.toList.flatMap (leBytes 2) ++
  leBytes 4 d.firstReports ++ leBytes 4 d.echoes ++ leBytes 1 d.worstEffect ++ leBytes 1 d.classStart ++
  leBytes 1 (entryNum s 0x5A00 0) ++ leBytes 1 d.wakeFailures ++ leBytes 2 (entryNum s 0x5A01 0) ++
  leBytes 1 d.islandRestarts ++ leBytes 1 d.mgmtRestarts ++ d.touchTests.toList.flatMap (leBytes 4) ++
  d.actuatorPf.toList.flatMap (leBytes 4) ++ d.actuatorState.toList.flatMap (leBytes 1) ++
  leBytes 1 d.takeovers ++ leBytes 1 d.pairReleases ++ leBytes 1 d.debugUnlocks ++ leBytes 1 d.updates ++ zeroBytes 4 ++
  padTo 64 (d.causeKeys.flatMap (leBytes 4)) ++ d.monitors.toList.flatMap monitorWord ++ zeroBytes 136

/-- An inspection record with the signature of the secure island over its first 416 bytes (R492). -/
def signRecord (body : Bytes) : Bytes := body ++ padTo 96 (Config.ecdsaSign body)

/-- The open record closed with its flags, and the next one opened (R490 to R493): signed while the island runs, signed on
its return while it restarts, unsigned with FLAGS bit 0 while it is stopped or not running. -/
def closeInspection (s : State) (flags startTime : Nat) : State :=
  let d := s.health.insp
  let stopped := s.sec.island ≠ 1 && s.sec.island ≠ 2
  let body := inspectionBody s d (if stopped then Nat.lor flags 1 else flags)
  let full := if s.sec.island = 1 then signRecord body else body ++ zeroBytes 96
  let fresh := { resetInspection with
    day := (d.day + 1) % 2 ^ 16, start := s.now, startTime := startTime, classStart := entryNum s 0x5A00 0 }
  let s := { s with health := { s.health with
    records := (full :: s.health.records).take 400, insp := fresh, checkpoint := none,
    unsigned := if s.sec.island = 2 then Nat.min 400 (s.health.unsigned + 1)
                else if s.health.unsigned = 0 then 0 else Nat.min 400 (s.health.unsigned + 1) } }
  setNum s 0x5A11 0 s.health.records.length

/-- The records that waited for the island are signed on its return (R492): those with FLAGS bit 0 clear and no
signature. -/
def signWaiting (s : State) : State :=
  let n := s.health.unsigned
  let sign := fun (r : Bytes) => if bit (u32 r 60) 0 || !zeros r 416 96 then r else signRecord (r.take 416)
  { s with health := { s.health with
    records := (s.health.records.take n).map sign ++ s.health.records.drop n, unsigned := 0 } }

/-- A day boundary (R490): a frame boundary at which, once 802.1AS has been qualified, Inspection Day Start has been passed since
the record opened (one opened without gPTP time meets it at once), or else 86 400 s of raster time have passed since the boundary
before. -/
def dayOver (s : State) (gptpSeconds : Nat) : Bool :=
  let start := entryNum s 0x5A10 0
  let day := fun (x : Nat) => (x + 86400 - start) / 86400
  rrpPos s.now = 0 &&
    (if s.tb.ptpEver then s.health.insp.startTime = 0 || day s.health.insp.startTime < day gptpSeconds
     else waited s s.health.boundaryAt 86400000)

/-- The inspection day ends (R490). -/
def dayEnd (s : State) (gptpSeconds : Nat) : State :=
  if dayOver s gptpSeconds then
    let s := closeInspection s 0 (if s.tb.ptpEver then gptpSeconds else 0)
    { s with health := { s.health with boundaryAt := s.now } }
  else s

def execInspectionDayEnd (t : Rrp) (gptpSeconds : Nat) (s : State) : Out :=
  .next (finish s (dayEnd (atTime s t) gptpSeconds))

/-- The open record checkpointed to flash every 60 minutes (R490). -/
def inspectionCheckpoint (s : State) : State := { s with health := { s.health with checkpoint := some s.health.insp } }

def execInspectionCheckpoint (t : Rrp) (s : State) : Out := .next (finish s (inspectionCheckpoint (atTime s t)))

/-- The place of a mode in MODE_SECONDS (Table 18-6). -/
def modeSlot : Mode → Option Nat
  | .off => none
  | .watch => some 0
  | .quiet => some 1
  | .bringup => some 2
  | .run => some 3
  | .degraded => some 4
  | .hold => some 5
  | .service => some 6

/-- One frame counted to the present mode. -/
def countModeFrame (s : State) : State :=
  match modeSlot s.mode with
  | some i => updInsp s fun d => { d with modeCounts := vecMod d.modeCounts i (· + 1) }
  | none => s

end Sys2Proof.Machine
end

