-- ==== Sys2Proof/Machine/Modes.lean ====
section
/-! DEFINITION. The mode codes and the state of a power domain (R456, R461). -/

namespace Sys2Proof.Machine

/-- The value of Device Mode (0x2001). -/
def modeCode : Mode → Nat
  | .off => 0
  | .watch => 1
  | .quiet => 2
  | .bringup => 3
  | .run => 4
  | .degraded => 5
  | .hold => 6
  | .service => 7

def updPower (s : State) (f : Power → Power) : State := { s with power := f s.power }

/-- Domain d's state (Table 17-12: 0 off, 1 on, 2 lowering, 3 forced off, 4 isolated). -/
def setDomain (s : State) (d v : Nat) : State := updPower s fun p => { p with domains := vecMod p.domains d fun _ => v }

/-- A domain asked for power, a block of it delaying; trans: a mode transition asks (R458). -/
def askDomain (s : State) (d : Nat) (trans : Bool) : State :=
  updPower (setDomain s d 2) fun p => { p with
    asking := p.asking ++ [(d, trans)], askedAt := vecMod p.askedAt d fun _ => s.now }

/-- A domain raised: on, with its held pads released (R456); one left isolated stays as it is. -/
def raiseDomain (s : State) (d : Nat) : State :=
  if vecAt s.power.domains d 0 = 4 then s
  else setDomain (updPower s fun p => { p with heldPads := setBit p.heldPads d false }) d 1

/-- A domain left isolated: on, cut off from the others, its pads held (R16). -/
def isolateDomain (s : State) (d : Nat) : State :=
  setDomain (updPower s fun p => { p with heldPads := setBit p.heldPads d true }) d 4

/-- FAULT_N asserted for a reason: 0 boot stopped, 1 wake failure, 2 a comb pair lost. -/
def assertFault (s : State) (reason : Nat) : State :=
  if s.power.faultN.contains reason then s else updPower s fun p => { p with faultN := reason :: p.faultN }

/-- A domain switched off with its pads latched (R461); what its blocks end first is their own chapters'. -/
def dropDomain (s : State) (d : Nat) : State :=
  if vecAt s.power.domains d 0 = 1 || vecAt s.power.domains d 0 = 2 then
    setDomain (updPower s fun p => { p with heldPads := setBit p.heldPads d true }) d 0
  else s

end Sys2Proof.Machine
end

