-- ==== Sys2Proof/Machine/Memory.lean ====
section
/-! DEFINITION. The DRAM controller (chapter 14): accesses, panic, refresh, the start of frequency changes. -/

namespace Sys2Proof.Machine

/-- The canonical form of DRAM: addresses strictly rising, and no byte listed that an unlisted address reads as. -/
def Memory.wf (m : SMap Byte) : Bool := SMap.wf dramDefault m


def updMem (s : State) (f : Memory → Memory) : State := { s with mem := f s.mem }

/-- Whether an item's requester code covers a requester: its own, or 0x13 for the touch processor, the audio router and
haptic streaming (R129, Table 5-7). -/
def itemCovers (code requester : Nat) : Bool := code = requester || (code = 0x13 && 0x10 ≤ requester && requester ≤ 0x12)

/-- The item of a requester's DRAM bytes in the active last: its number, from 1. -/
def dramItem (s : State) (requester : Nat) : Option (Nat × Item) :=
  (activeLast s).bind fun l =>
    (enumFrom 1 l.items).find? fun e => itemCovers e.2.requester requester && e.2.resource = 0

/-- Monitor i (from 1) changed. -/
def updMonitor (s : State) (i : Nat) (f : Monitor → Monitor) : State :=
  { s with lasts := { s.lasts with monitors := listUpd s.lasts.monitors (i - 1) f } }

/-- A monitor of which nothing has been counted. -/
def freshMonitor : Monitor := ⟨0, 0, 0, false, false, zeroRrp, 0⟩

/-- Monitor i (from 1). -/
def monitorAt (s : State) (i : Nat) : Monitor := s.lasts.monitors[i - 1]?.getD freshMonitor

/-- Item i (from 1) of the active last. -/
def itemAt (s : State) (i : Nat) : Option Item :=
  if i = 0 then none else (activeLast s).bind fun l => l.items[i - 1]?

/-- The allotment of item i (from 1) in an allotment set of the active last. -/
def allotment (s : State) (set i : Nat) : Nat :=
  match activeLast s with
  | some l => (l.sets.getD set []).getD (i - 1) 0
  | none => 0

/-- The fault of a violation (R106): NONE, or GUEST with DROP (Table 18-4). -/
def violationEffect (a : Nat) : Nat := if a = 3 then effGuest else effNone

/-- A violation of item i counted and recorded (R103, R106): at most once in a window. -/
def violate (s : State) (i measure : Nat) : State :=
  match itemAt s i with
  | none => s
  | some item =>
    let s := updMonitor s i fun m => { m with peak := Nat.max m.peak measure }
    if (monitorAt s i).violated then s
    else
      let s := updMonitor s i fun m => { m with
        violations := m.violations + 1, violated := true, engaged := item.action ≠ 0, since := s.now, extra := 0 }
      let s := setNum (setNum (setNum (bump s 0x2220 0) 0x2221 1 (rrpNum s.now)) 0x2221 2 i) 0x2221 3 item.action
      let s := report s 0x10 i (violationEffect item.action)
      if item.slice < 32 then sliceEvent (bump s (0x5410 + item.slice) 7) item.slice 0 else s

/-- Bytes counted on a requester's item, in 64-byte units (R103); more than its allotment in the open window is a violation. -/
def countBytes (s : State) (requester bytes : Nat) : State :=
  match dramItem s requester with
  | some (i, _) =>
    let n := (monitorAt s i).count + bytes
    let s := updMonitor s i fun m => { m with count := n, peak := Nat.max m.peak n }
    if s.lasts.windowOpen && allotment s s.lasts.windowSet i < n then violate s i n else s
  | none => s

/-- Bytes that moved in the windows before the present one too: counted here, and left to CONTRACT_VIOLATION to judge. -/
def noteBytes (s : State) (requester bytes : Nat) : State :=
  match dramItem s requester with
  | some (i, _) => updMonitor s i fun m => { m with count := m.count + bytes, peak := Nat.max m.peak (m.count + bytes) }
  | none => s

/-- Whether a requester's item has an action of a kind engaged (Table 4-5). -/
def engagedWith (s : State) (requester action : Nat) : Bool :=
  match dramItem s requester with
  | some (i, item) => item.action = action && (monitorAt s i).engaged
  | none => false

/-- The bytes in whole 64-byte units that an access of n bytes at a moves: check units of an ECC range, mirrored writes and units read
again from the shadow counted too (R96, R103, R376, R378). -/
def movedBytes (s : State) (a n : Nat) (write : Bool) : Nat :=
  let units := if n = 0 then 0 else (a + n - 1) / 64 + 1 - a / 64
  let checks := if inEcc s a then (units + 7) / 8 else 0
  64 * ((units + checks) * (if write && mirrored s a then 2 else 1) + if write then 0 else shadowUnits s a n)

/-- The principal's access is answered to its requester. -/
def answerRead (s : State) (requester a : Nat) (r : MemRes) : State :=
  match r with
  | .ok bs => emit s (.dramRead requester a bs)
  | .blocked => emit s (.dramRefused requester a false)
  | .error => emit s (.dramRefused requester a true)

/-- The errors of a read's words (R379): corrected ones counted; an uncorrectable one read again from the shadow in a mirrored range
(R376), else the read ends in an error. Whether the read is good. -/
def eccRead (s : State) (q : DramReq) : Bool × State :=
  let s := bumpBy s 0x5608 0 q.corrected
  if !q.badPrimary then (true, s)
  else if mirrored s q.addr then (!q.badShadow, uncorrectable (bump s 0x560A 0) !q.badShadow)
  else (false, uncorrectable s false)

/-- The bytes that a request moves; an uncorrectable mirrored read moves its unit again (R376). -/
def requestBytes (s : State) (q : DramReq) : Nat :=
  match q.data with
  | some bs => movedBytes s q.addr bs.length true
  | none => movedBytes s q.addr q.len false + if q.badPrimary && inEcc s q.addr && mirrored s q.addr then 64 else 0

/-- The words of an ECC range that a write covers in part (R379). -/
def mergedWords (s : State) (a n : Nat) : List Nat :=
  if n = 0 then []
  else (rangeFrom (a / 8) ((a + n - 1) / 8 + 1 - a / 8)).filter fun w => inEcc s (8 * w) && !(a ≤ 8 * w && 8 * w + 8 ≤ a + n)

/-- A write's merges of words: corrected errors are counted; where an old word is uncorrectable, so is the merged one (R379). -/
def mergeWrite (s : State) (q : DramReq) (n : Nat) : State :=
  let ws := mergedWords s q.addr n
  if ws.isEmpty then s
  else
    let s := bumpBy s 0x5608 0 q.corrected
    if !q.badPrimary then s
    else uncorrectable (updMem s fun m => { m with poisoned := m.poisoned ++ ws.filter fun w => !m.poisoned.contains w }) false

/-- An access accepted by the DRAM controller (R370, R375 to R380, R384, R439). -/
def serveAccess (s : State) (q : DramReq) : State :=
  match q.data with
  | some bs =>
    let (ok, s) := memWrite s q.who q.addr bs
    if ok then mergeWrite s q bs.length else emit s (.dramRefused q.requester q.addr false)
  | none =>
    let (r, s) := memRead s q.who q.addr q.len
    match r with
    | .ok _ =>
      if inEcc s q.addr then
        let (good, s) := eccRead s q
        answerRead s q.requester q.addr (if good then r else .error)
      else answerRead s q.requester q.addr r
    | _ => answerRead s q.requester q.addr r

/-- A mirrored read repeated from the shadow (R376): lost primary (0), uncorrectable (1), late (2). -/
def rereadShadow (s : State) (addr : Nat) (cause : Fin 3) (secondFails : Bool) : State :=
  let g := groupOf s addr
  let due := mirrored s addr && match cause with
    | 0 => groupLost s g
    | 1 => inEcc s addr
    | 2 => !groupLost s g
  if !due then s
  else
    let s := bump s 0x560A 0
    match cause with
    | 0 => s
    | 1 => uncorrectable s !secondFails
    | 2 => updMem s fun m => { m with
        late := (g, s.now) :: m.late.filter fun e => elapsed s.tb.rate e.2 s.now < msTicks s.tb.rate 1 }

/-- Whether every layer shown from DRAM lies in a mirrored range: a lost group is then COVERED (R377, R481). -/
def layersMirrored (s : State) : Bool :=
  s.outs.toList.all fun o => o.layers.toList.all fun c =>
    match c with
    | some c => mirrored s c.desc.plane0
    | none => true

/-- The groups lost. -/
def lostGroups (s : State) : List Nat := (rangeFrom 0 4).filter fun g => groupLost s g

/-- DRAM service is lost with the groups (R484): both of a mirror pair, or three or more. -/
def serviceLost (s : State) : Bool :=
  (groupLost s 0 && groupLost s 2) || (groupLost s 1 && groupLost s 3) || (lostGroups s).length ≥ 3

/-- The panic level of an RT port (Table 14-4): composition engines 0 to 8 from the lines left of the band's deadline, the
touch processor (9), the audio router (10) and haptic streaming (11) from the wait of the oldest request. -/
def panicLevel (s : State) (port : Nat) (incomplete : Bool) (linesLeft waitedNs : Nat) : Nat :=
  if port < 9 then
    if incomplete && linesLeft < entryNum s 0x5606 2 then 2
    else if incomplete && linesLeft < entryNum s 0x5606 1 then 1 else 0
  else if waitedNs ≥ 100000 then 2 else if waitedNs ≥ 20000 then 1 else 0

/-- A port's panic level evaluated again (R381), with the channels on which it has requests waiting. -/
def panicEvaluate (s : State) (port : Fin 12) (incomplete : Bool) (linesLeft waitedNs channels : Nat) : State :=
  let lv := panicLevel s port.val incomplete linesLeft waitedNs
  let s := updMem s fun m => { m with panic := vecMod m.panic port.val fun _ => lv,
                                      panicChannels := vecMod m.panicChannels port.val fun _ => channels }
  -- owed refreshes issue as soon as no port is at level 2 (R382)
  if s.mem.panic.toList.any fun l => l = 2 then s else updMem s fun m => { m with owed := Vector.replicate 16 0 }

def execPanicEvaluate (t : Rrp) (port : Fin 12) (incomplete : Bool) (linesLeft waitedNs channels : Nat) (s : State) : Out :=
  .next (finish s (panicEvaluate (atTime s t) port incomplete linesLeft waitedNs channels))

/-- Whether a port at panic level 2 has requests waiting on a channel. -/
def channelPanics (s : State) (ch : Nat) : Bool :=
  (rangeFrom 0 12).any fun p => vecAt s.mem.panic p 0 = 2 && bit (vecAt s.mem.panicChannels p 0) ch

/-- A refresh interval of a channel (R382): postponed under panic level 2 while fewer than 8 are owed, issued otherwise. -/
def dramRefresh (s : State) (ch : Fin 16) : State :=
  let owed := vecAt s.mem.owed ch.val 0
  if channelPanics s ch.val && owed < 8 then
    bump (updMem s fun m => { m with owed := vecMod m.owed ch.val fun n => n + 1 }) 0x560B 0
  else if s.mem.panic.toList.any fun l => l = 2 then s
  else updMem s fun m => { m with owed := vecMod m.owed ch.val fun _ => 0 }

def execDramRefresh (t : Rrp) (ch : Fin 16) (s : State) : Out := .next (finish s (dramRefresh (atTime s t) ch))

/-! ### Frequency (R372, R385, R386) -/

/-- The rates that 0x5601 lists, up to the 0 that ends the list (Table 14-13). -/
def listedRates (s : State) : List Nat :=
  ((rangeFrom 1 4).map fun i => entryNum s 0x5601 i).takeWhile fun r => r ≠ 0

/-- The rate in force set. -/
def setRate (s : State) (r : Nat) : State := updMem s fun m => { m with rate := r }

/-- The inactive timing set holds the parameters of a rate (R385). -/
def loadInactive (s : State) (r : Nat) : State :=
  updMem s fun m => { m with setA := if m.setInUse then r else m.setA, setB := if m.setInUse then m.setB else r }

/-- A change of rate begins (R385): DRAM stalls until FREQ_CHANGE_COMPLETE. Already in force, or DDR not in service: nothing
changes (R386). -/
def beginFreq (s : State) (mts : Nat) : State :=
  if mts = s.mem.rate || !dramServing s || s.mem.changing.isSome then s
  else updMem (loadInactive s mts) fun m => { m with changing := some mts }

/-- A last that declares rates becomes active: the controller changes to its INITIAL_RATE if that differs (R372). -/
def lastRate (s : State) (l : Last) : State :=
  if l.rates.isEmpty then s else beginFreq s (l.rates.getD l.initialRate 0)

end Sys2Proof.Machine
end

