-- ==== Sys2Proof/Machine/Sha2.lean ====
section
/-! DEFINITION. SHA-256, SHA-384 (FIPS 180-4) and HMAC-SHA-256 (RFC 2104), the external standards that R33, R145, R428
and R429 name, over byte strings. Both hashes are one machine over words of w bits: a register of eight words, turned once
for each word of the stretched message. -/

namespace Sys2Proof.Machine

/-- Fractional parts of the cube roots of the first eighty primes, 64 bits each, eight to a numeral, the first prime's in the
highest bits (FIPS 180-4). -/
def cubeRoots : List Nat := [
  0x428a2f98d728ae227137449123ef65cdb5c0fbcfec4d3b2fe9b5dba58189dbbc3956c25bf348b53859f111f1b605d019923f82a4af194f9bab1c5ed5da6d8118,
  0xd807aa98a303024212835b0145706fbe243185be4ee4b28c550c7dc3d5ffb4e272be5d74f27b896f80deb1fe3b1696b19bdc06a725c71235c19bf174cf692694,
  0xe49b69c19ef14ad2efbe4786384f25e30fc19dc68b8cd5b5240ca1cc77ac9c652de92c6f592b02754a7484aa6ea6e4835cb0a9dcbd41fbd476f988da831153b5,
  0x983e5152ee66dfaba831c66d2db43210b00327c898fb213fbf597fc7beef0ee4c6e00bf33da88fc2d5a79147930aa72506ca6351e003826f142929670a0e6e70,
  0x27b70a8546d22ffc2e1b21385c26c9264d2c6dfc5ac42aed53380d139d95b3df650a73548baf63de766a0abb3c77b2a881c2c92e47edaee692722c851482353b] ++ [
  0xa2bfe8a14cf10364a81a664bbc423001c24b8b70d0f89791c76c51a30654be30d192e819d6ef5218d69906245565a910f40e35855771202a106aa07032bbd1b8,
  0x19a4c116b8d2d0c81e376c085141ab532748774cdf8eeb9934b0bcb5e19b48a8391c0cb3c5c95a634ed8aa4ae3418acb5b9cca4f7763e373682e6ff3d6b2b8a3,
  0x748f82ee5defb2fc78a5636f43172f6084c87814a1f0ab728cc702081a6439ec90befffa23631e28a4506cebde82bde9bef9a3f7b2c67915c67178f2e372532b,
  0xca273eceea26619cd186b8c721c0c207eada7dd6cde0eb1ef57d4f7fee6ed17806f067aa72176fba0a637dc5a2c898a6113f9804bef90dae1b710b35131c471b,
  0x28db77f523047d8432caab7b40c724933c9ebe0a15c9bebc431d67c49c100d4c4cc5d4becb3e42b6597f299cfc657e2a5fcb6fab3ad6faec6c44198c4a475817]

/-- The same of the square roots of the first sixteen primes. -/
def squareRoots : List Nat := [
  0x6a09e667f3bcc908bb67ae8584caa73b3c6ef372fe94f82ba54ff53a5f1d36f1510e527fade682d19b05688c2b3e6c1f1f83d9abfb41bd6b5be0cd19137e2179,
  0xcbbb9d5dc1059ed8629a292a367cd5079159015a3070dd17152fecd8f70e593967332667ffc00b318eb44a8768581511db0c2e0d64f98fa747b5481dbefa4fa4]

/-- The eight 64-bit words of a packed numeral, from its highest bits down. -/
def unpack8 (x : Nat) : List Nat := (List.range 8).map fun i => x / 2 ^ (448 - 64 * i) % 2 ^ 64

/-- The list in pieces of k elements, at most n of them. -/
def chunks {α : Type} (k : Nat) : Nat → List α → List (List α)
  | 0, _ => []
  | n + 1, xs => if xs.isEmpty then [] else xs.take k :: chunks k n (xs.drop k)

/-- A w-bit word turned right by r bits. -/
def turned (w r x : Nat) : Nat := (x * 2 ^ w + x) / 2 ^ r % 2 ^ w

/-- A word turned by each amount of a list, the results added bit by bit without carry. -/
def turnedSum (w : Nat) (rs : List Nat) (x : Nat) : Nat := rs.foldl (fun acc r => acc ^^^ turned w r x) 0

/-- The amounts by which a hash of w-bit words turns a word: in a round, of the first word and of the fifth; in the stretched
message, of the word fifteen back and of the word two back, each with the amount of its shift first. -/
def roundTurns (w : Nat) : List Nat × List Nat := if w = 32 then ([2, 13, 22], [6, 11, 25]) else ([28, 34, 39], [14, 18, 41])

/-- See `roundTurns`. -/
def stretchTurns (w : Nat) : List Nat × List Nat := if w = 32 then ([3, 7, 18], [10, 17, 19]) else ([7, 1, 8], [6, 19, 61])

/-- The sum of a shifted word and its turned copies. -/
def stretchSum (w : Nat) (rs : List Nat) (x : Nat) : Nat := x / 2 ^ rs.headD 0 ^^^ turnedSum w rs.tail x

/-- The message of a block stretched by n words, newest first. -/
def stretch (w : Nat) : Nat → List Nat → List Nat
  | 0, ws => ws
  | n + 1, ws =>
    let at_ := fun back => ws.getD (back - 1) 0
    let new := [at_ 16, stretchSum w (stretchTurns w).1 (at_ 15), at_ 7, stretchSum w (stretchTurns w).2 (at_ 2)]
    stretch w n (new.sum % 2 ^ w :: ws)

/-- One turn of the register with a round constant and a message word. -/
def hashTurn (w : Nat) (reg : List Nat) (k m : Nat) : List Nat :=
  match reg with
  | [a, b, c, d, e, f, g, h] =>
    let chosen := g ^^^ (e &&& (f ^^^ g))
    let common := (a &&& b) ||| (c &&& (a ||| b))
    let inner := h + k + m + chosen + turnedSum w (roundTurns w).2 e
    let front := inner + common + turnedSum w (roundTurns w).1 a
    [front % 2 ^ w, a, b, c, (d + inner) % 2 ^ w, e, f, g]
  | _ => reg

/-- A block's sixteen words taken into the register. -/
def hashBlock (w : Nat) (ks reg words : List Nat) : List Nat :=
  let ms := (stretch w (ks.length - 16) words.reverse).reverse
  let turned := (ks.zip ms).foldl (fun r km => hashTurn w r km.1 km.2) reg
  List.zipWith (fun x y => (x + y) % 2 ^ w) reg turned

/-- The message filled to whole blocks of sixteen words: a one bit, zeros, the length in bits in two words. -/
def filled (w : Nat) (bs : Bytes) : Bytes :=
  let block := 2 * w
  bs ++ 0x80 :: zeroBytes ((2 * block - 1 - w / 4 - bs.length % block) % block) ++ beBytes (w / 4) (8 * bs.length)

/-- The final register of a hash of w-bit words, of the round constants and the first register given. -/
def hashWords (w : Nat) (ks start : List Nat) (bs : Bytes) : List Nat :=
  let data := filled w bs
  (chunks (2 * w) (data.length / (2 * w)) data).foldl (fun reg b => hashBlock w ks reg ((chunks (w / 8) 16 b).map beNat)) start

/-- SHA-256, 32 bytes: the upper halves of the first sixty-four cube roots and the first eight square roots. -/
def sha256 (bs : Bytes) : Bytes :=
  let upper := fun xs : List Nat => (xs.flatMap unpack8).map (· / 2 ^ 32)
  (hashWords 32 (upper (cubeRoots.take 8)) (upper (squareRoots.take 1)) bs).flatMap (beBytes 4)

/-- SHA-384, 48 bytes: all the cube roots and the second eight square roots. -/
def sha384 (bs : Bytes) : Bytes :=
  ((hashWords 64 (cubeRoots.flatMap unpack8) ((squareRoots.drop 1).flatMap unpack8) bs).take 6).flatMap (beBytes 8)

/-- HMAC-SHA-256 (R33). -/
def hmacSha256 (key msg : Bytes) : Bytes :=
  let k := padTo 64 (if key.length ≤ 64 then key else sha256 key)
  sha256 (k.map (fun b => b ^^^ 0x5C) ++ sha256 (k.map (fun b => b ^^^ 0x36) ++ msg))

end Sys2Proof.Machine
end

