-- ==== Sys2Proof/Machine/Check.lean ====
section
/-! DEFINITION. The check-value units (R398 to R402) and what they share with other chapters: the owner of a peripheral under
the locked assignment, and the scan addresses of the comb. -/

namespace Sys2Proof.Machine

/-! ### Peripherals under the locked assignment (R445, R446; Tables 5-16 and 5-17) -/

/-- The record of a peripheral in the locked section 0x0C. -/
def periphOf (s : State) (cls inst : Nat) : Option Periph :=
  s.lasts.lock.bind fun a => a.periphs.find? fun p => p.cls = cls && p.inst = inst

/-- The slice that owns a peripheral. -/
def ownerSlice (s : State) (cls inst : Nat) : Option Nat :=
  (periphOf s cls inst).bind fun p => if p.slice = 0xFF || p.secure then none else some p.slice

/-- Whether a peripheral is assigned to the secure world. -/
def secureOwned (s : State) (cls inst : Nat) : Bool :=
  match periphOf s cls inst with
  | some p => p.secure
  | none => false

/-- Whether a port is a safety port of the locked assignment. -/
def safetyPort (s : State) (p : Nat) : Bool :=
  match s.lasts.lock with
  | some a => bit (a.portFlags.getD p 0) 1
  | none => false

/-! ### Scan addresses of the comb (Table 14-6) -/

/-- The entry of haptic effect e (R329). -/
def effectIndex (e : Nat) : Nat := 0x4808 + 0x10 * (e / 8) + e % 8

/-- A byte string's byte at an offset, if it has one. -/
def byteAt? (bs : Bytes) (i : Nat) : Option Byte := bs[i]?

/-- What the comb holds at a scan address where the spec says what stands there: the image of a last slot, a haptic effect.
The rest of a slot or effect, and the management core's store, are not stated. -/
def combByte? (s : State) (a : Nat) : Option Byte :=
  if a < 0x1000000 then byteAt? (slotAt s (a / 0x400000)).image (a % 0x400000)
  else if a < 0x1180000 then
    byteAt? (entryBytes s (effectIndex ((a - 0x1000000) / 0x6000)) 0) ((a - 0x1000000) % 0x6000)
  else none

/-- n bytes of the comb from a scan address: free where the spec does not say what stands there. -/
def combBytes (s : State) (a n : Nat) : Bytes :=
  (rangeFrom a n).map fun x => (combByte? s x).getD (Config.freeByte s.free x)

/-! ### Check channels -/

/-- The CRC of an algorithm (Table 14-8). -/
def crcSpecOf (alg : Nat) : Option CrcSpec :=
  if alg = 1 then some crc32Ieee else if alg = 2 then some crc32c else if alg = 3 then some crc64Ecma
  else if alg = 4 then some crc16Ccitt else none

/-- Whether a channel computes an algorithm: CRCs on every channel, SHA-256 on channels 12 to 15 (R398). -/
def algorithmOk (c alg : Nat) : Bool := (1 ≤ alg && alg ≤ 4) || (alg = 5 && 12 ≤ c)

/-- The 32 result bytes of an algorithm over a byte string (Table 14-9). -/
def checkResult (alg : Nat) (bs : Bytes) : Bytes :=
  match crcSpecOf alg with
  | some c => padTo 32 (leBytes 8 (crcOf c bs))
  | none => padTo 32 (sha256 bs)

/-- CHK_STATUS (Table 14-9). -/
def chkStatus (c : CheckCh) : Nat :=
  b2n c.valid * 2 ^ 31 + b2n c.job.isSome * 2 ^ 30 + c.error * 2 ^ 24 + c.algorithm * 2 ^ 16 + c.seq * 2 ^ 8 + b2n c.refused

/-- The index of check channel c's entries (R403). -/
def checkIndex (c : Nat) : Nat := 0x5650 + c

/-- A start of a channel that runs is refused and counted (R399). -/
def refuseCheck (s : State) (c : Nat) : State :=
  bump (updCheck s c fun q => { q with refused := true }) (checkIndex c) 4

/-- A start accepted (R400). -/
def acceptCheck (s : State) (c : Nat) (j : CheckJob) : State :=
  updCheck s c fun q => { q with
    valid := false, error := 0, algorithm := j.algorithm % 256, result := zeroBytes 32, job := some j }

/-- The arguments of a job stand in their ranges (Table 14-10; Table 14-6 for the comb). -/
def checkArgsOk (c : Nat) (j : CheckJob) : Bool :=
  algorithmOk c j.algorithm && 1 ≤ j.length && j.length ≤ 2 ^ 40 && (!j.comb || j.start + j.length ≤ 0x1E80000)

/-- The bytes a job reads: of the comb, through the slice's translation, or of DRAM for the management core. -/
def checkBytes (s : State) (j : CheckJob) : MemRes × State :=
  if j.comb then (.ok (combBytes s j.start j.length), { s with free := s.free + 1 })
  else match j.by_ with
    | .ring k => sliceRead s k j.start j.length false
    | _ => memRead s .mgmt j.start j.length

/-- A result record (Table 14-11) of slice k's entry, and its vector (R401). -/
def checkRecord (s : State) (k : Nat) (j : CheckJob) (status seq len : Nat) (result : Bytes) : State :=
  let rec_ := leBytes 4 j.jobSeq ++ leBytes 1 status ++ leBytes 1 seq ++ leBytes 1 j.algorithm ++ leBytes 1 0 ++
    leBytes 8 len ++ leBytes 8 (rrpNum s.now) ++ zeroBytes 8 ++ padTo 32 result
  raiseCause (recordWrite s k j.resultAddr rec_ true) k 5

/-- The status of a result record that an error gives (Tables 14-9 and 14-11); bad arguments never reach a ring's job. -/
def recordStatus (error : Nat) (reset : Bool) : Nat :=
  if error = 0 then 0 else if error = 1 then 1 else if error = 2 then 2 else if error = 3 then 3 else if reset then 5 else 6

/-- A job ends (R400 to R402): SEQ advances, the result or error is latched, a ring's record is written. How many bytes an
ended job had read is not stated: a free value. -/
def endCheck (s : State) (c error : Nat) (result : Bytes) (reset : Bool) : State :=
  let q := checkAt s c
  match q.job with
  | none => s
  | some j =>
    let seq := (q.seq + 1) % 256
    let s := updCheck s c fun q => { q with
      valid := true, error := error, seq := seq, result := if error = 0 then result else zeroBytes 32, job := none }
    match j.by_ with
    | .ring k =>
      if error = 0 then checkRecord s k j 0 seq j.length result
      else
        let (len, s) := takeFree s (j.length + 1)
        checkRecord s k j (recordStatus error reset) seq len (zeroBytes 32)
    | _ => s

/-- A running job read to its end: what it computes, or the error that ends it early (R402). -/
def finishCheck (s : State) (c : Nat) (readError : Bool) : State :=
  match (checkAt s c).job with
  | none => s
  | some j =>
    if j.paused then s
    else if !checkArgsOk c j then endCheck s c 3 [] false
    else if readError then endCheck s c 1 [] false
    else
      let s := if j.comb then s else noteBytes s 0x50 (movedBytes s j.start j.length false)
      let (r, s) := checkBytes s j
      match r with
      | .ok bs => endCheck s c 0 (checkResult j.algorithm bs) false
      | .blocked =>
        let s := match j.by_ with
          | .ring k => sliceBlocked s k
          | _ => s
        endCheck s c 2 [] false
      | .error => endCheck s c 1 [] false

/-! ### The check ring (R401, R415) -/

/-- The job of a check ring entry (Table 14-10). -/
def parseCheckEntry (k : Nat) (e : Bytes) : Nat × CheckJob :=
  (u8 e 28, { by_ := .ring k, start := u64 e 0, length := u64 e 8, algorithm := u8 e 29, comb := false, item := 0,
              resultAddr := u64 e 16, jobSeq := u32 e 24, paused := false })

/-- One entry taken: skipped without a result address, BAD_ENTRY where it breaks the table, BUSY where the channel runs,
else started (R399, R401). -/
def takeCheckEntry (s : State) (k : Nat) (e : Bytes) : State :=
  let (c, j) := parseCheckEntry k e
  if j.resultAddr = 0 || j.resultAddr % 64 ≠ 0 then sliceEvent s k 3
  else
    let bad := c ≥ 16 || ownerSlice s 0x07 c ≠ some k || !algorithmOk c j.algorithm || j.length = 0 || j.length > 2 ^ 40 ||
      !zeros e 30 2
    let seq := (checkAt s c).seq
    if bad then checkRecord s k j 3 (if c < 16 then seq else 0) 0 []
    else if (checkAt s c).job.isSome then checkRecord (refuseCheck s c) k j 4 seq 0 []
    else acceptCheck s c j

/-- The entries of slice k's check ring that are available, taken in order; n bounds their number. -/
def takeChecks (k : Nat) : Nat → State → State
  | 0, s => s
  | n + 1, s =>
    let sl := sliceAt s k
    if sl.chkHead = sl.chkTail then s
    else
      let size := 2 ^ (sreg s k 0x408 % 16)
      let (r, s) := sliceRead s k (sreg s k 0x400 + sl.chkHead * 32) 32 true
      let s := updSlice s k fun q => { q with chkHead := (q.chkHead + 1) % size }
      let s := match r with
        | .ok e => takeCheckEntry s k e
        | _ => sliceBlocked s k
      takeChecks k n s

/-- Whether a slice's doorbells and starts are discarded: it drains, or is idle (R416). -/
def discarding (s : State) (k : Nat) : Bool := (sliceAt s k).st = .draining || (sliceAt s k).st = .idle

/-- Whether a slice's window takes writes: bound, and no forced reset runs (R412, R420). -/
def windowOpen (s : State) (k : Nat) : Bool :=
  (sliceAt s k).st ≠ .unbound && !((sliceAt s k).st = .resetting && (sliceAt s k).forced) && domainOn s 15

/-- Whether the first and the last page of a ring are writable by the slice (R240, R415). -/
def ringPagesOk (s : State) (k base bytes : Nat) (host : Bool) : Bool :=
  base % 4096 = 0 && sliceMay s k true base 1 host && sliceMay s k true (base + bytes - 1) 1 host

/-- A write of a ring's CTRL register: LOG2_SIZE while the ring is disabled; ENABLE where the page check passes (R415). lo
and hi bound LOG2_SIZE, unit is the size of an entry. -/
def ringCtrl (s : State) (k ctrl baseReg unit lo hi value : Nat) (host ready : Bool) : State :=
  if bit (sreg s k ctrl) 31 then s
  else
    let lg := value % 16
    let ok := bit value 31 && ready && lo ≤ lg && lg ≤ hi && ringPagesOk s k (sreg s k baseReg) (unit * 2 ^ lg) host
    setSreg s k ctrl (lg + if ok then 2 ^ 31 else 0)

/-- The check ring enabled (R415). -/
def chkRingEnable (s : State) (k value : Nat) : State :=
  if windowOpen s k then ringCtrl s k 0x408 0x400 32 4 12 value true true else s

def execChkRingEnable (t : Rrp) (k : Fin 32) (value : Nat) (s : State) : Out :=
  .next (finish s (chkRingEnable (atTime s t) k.val value))

/-- Whether a doorbell is taken: the ring is enabled, TAIL is below its size, the slice is not draining or idle (R415,
R416). -/
def bellOk (s : State) (k ctrl tail : Nat) : Bool :=
  bit (sreg s k ctrl) 31 && tail < 2 ^ (sreg s k ctrl % 16) && !discarding s k

/-- A doorbell of the check ring (R401, R415). -/
def chkDoorbell (s : State) (k tail : Nat) : State :=
  if !windowOpen s k then s
  else if bellOk s k 0x408 tail then takeChecks k 4096 (updSlice s k fun q => { q with chkTail := tail })
  else discardStart s k

def execChkDoorbell (t : Rrp) (k : Fin 32) (tail : Nat) (s : State) : Out :=
  .next (finish s (chkDoorbell (atTime s t) k.val (tail % 65536)))

def execCheckJobComplete (t : Rrp) (c : Fin 16) (readError : Bool) (s : State) : Out :=
  .next (finish s (finishCheck (atTime s t) c.val readError))

/-- The job of a dictionary start (0x5650 + c:03), 24 bytes; none where its length or a reserved byte is wrong (R6). -/
def parseCheckStart (d : Bytes) : Option CheckJob :=
  if d.length = 24 && zeros d 18 6 then
    some { by_ := .dict, start := u64 d 0, length := u64 d 8, algorithm := u8 d 16, comb := u8 d 17 = 1, item := 0,
           resultAddr := 0, jobSeq := 0, paused := false }
  else none

/-- A check job of every channel ended with MODE: of DRAM jobs when DDR goes off, of all when MGMT does (R402). -/
def abortChecks (s : State) (dramOnly : Bool) : State :=
  each (rangeFrom 0 16) s fun s c =>
    match (checkAt s c).job with
    | some j => if dramOnly && j.comb then s else endCheck s c 4 [] false
    | none => s

/-- The jobs of a slice's ring ended by its forced reset (R402, R420). -/
def abortSliceChecks (s : State) (k : Nat) : State :=
  each (rangeFrom 0 16) s fun s c =>
    match (checkAt s c).job with
    | some j => if j.by_ = .ring k then endCheck s c 4 [] true else s
    | none => s

end Sys2Proof.Machine
end

