-- ==== Sys2Proof/Machine/Access.lean ====
section
/-! DEFINITION. One write of a dictionary entry (R20 to R28, R40, R50, R60, R446): the checks before it, the value stored, and
the tickets of writes that stay pending. Rows that are dictionary writes of one entry run through `rowWrite`. -/

namespace Sys2Proof.Machine

/-! ### Statuses (Table 2-5) -/

def stOk : Nat := 0
def stPending : Nat := 1
def stUnavailable : Nat := 2
def stBusy : Nat := 3
def stPathDenied : Nat := 9
def stWriteOnly : Nat := 0x06010001
def stReadOnly : Nat := 0x06010002
def stNoIndex : Nat := 0x06020000
def stLength : Nat := 0x06070010
def stNoSub : Nat := 0x06090011
def stRange : Nat := 0x06090030
def stState : Nat := 0x08000020
def stMode : Nat := 0x08000022

/-! ### Paths (R23, R24) -/

/-- The bit of a path in a path mask (R142). -/
def pathBit : Path → Nat
  | .can => 0
  | .eth => 1
  | .pcie p => 2 + p.val
  | .svc => 6

/-- Whether the locked assignment has removed a path from the write mask of an index (R24). -/
def pathRemoved (s : State) (p : Path) (ix : Nat) : Bool :=
  match s.lasts.lock with
  | some a => a.masks.any fun m => m.1 ≤ ix && ix ≤ m.2.1 && bit m.2.2 (pathBit p)
  | none => false

/-- Whether an entry belongs to a peripheral assigned to the secure world (R446, Table 5-17). -/
def secureEntry (s : State) (ix sub : Nat) : Bool :=
  if 0x3000 ≤ ix && ix < 0x3800 then secureOwned s 0x01 ((ix - 0x3000) / 0x100)
  else if 0x4000 ≤ ix && ix < 0x4800 then secureOwned s 0x03 ((ix - 0x4000) / 0x100)
  else if 0x4800 ≤ ix && ix < 0x4880 then secureOwned s 0x04 ((ix - 0x4800) / 0x10)
  else if 0x5700 ≤ ix && ix ≤ 0x5704 then secureOwned s 0x02 (sub - 1)
  else if 0x5650 ≤ ix && ix < 0x5660 then secureOwned s 0x07 (ix - 0x5650)
  else if 0x1D04 ≤ ix && ix ≤ 0x1D06 then secureOwned s 0x09 (sub - 1)
  else if ix = 0x1D00 then secureOwned s 0x0A (sub - 1)
  else if 0x5F00 ≤ ix && ix ≤ 0x5F02 then secureOwned s 0x0B 0
  else false

/-! ### Values -/

/-- The size of a fixed-size type (Table 2-1). -/
def typeSize : DType → Option Nat
  | .bool => some 1
  | .i8 => some 1
  | .i16 => some 2
  | .i32 => some 4
  | .u8 => some 1
  | .u16 => some 2
  | .u32 => some 4
  | .u64 => some 8
  | .str => none
  | .oct => none
  | .dom => none

/-- Whether a length fits a row's type (R20). -/
def lengthOk (r : DRow) (n : Nat) : Bool :=
  match typeSize r.ty with
  | some k => n = k
  | none => n ≤ r.size

/-- Whether a number lies in a row's range (R6, R22, R60). -/
def rangeOk (s : State) (r : DRow) (v : Nat) : Bool :=
  let w := 8 * (typeSize r.ty).getD 8
  (r.ty ≠ .bool || v ≤ 1) &&
    match r.range with
    | .any => true
    | .span lo hi => lo ≤ v && v ≤ hi
    | .signed lo hi => decide (lo ≤ sint w v) && decide (sint w v ≤ hi)
    | .among vs => vs.contains v
    | .mask m => andMask v m = v
    | .rrp => v = 0 || rrpValid s.tb.rate (rrpOf v)

/-- Whether a row's value is a number. -/
def isNum (r : DRow) : Bool := (typeSize r.ty).isSome

/-- Whether a write of an entry waits for its final result (R28). -/
def writePending (s : State) (key : Nat) : Bool :=
  s.net.tickets.any fun t => t.key = key && t.final.isNone && t.reading.isNone

/-- Whether two origins are the same owner of a ticket (R50). -/
def sameOwner (a b : Origin) : Bool := a.path = b.path && (a.path ≠ .eth || a.addr = b.addr)

/-- The open tickets of a path. Number 0 marks a pending access whose ticket a port reset has retired (R421). -/
def openTickets (s : State) (p : Path) : Nat := (s.net.tickets.filter fun t => t.origin.path = p && t.no ≠ 0).length

/-- Whether the present mode lets an entry be written (R22, R40). -/
def modeAllows (s : State) (p : Path) (r : DRow) : Bool :=
  (p ≠ .svc || s.mode = .bringup || s.mode = .service) &&
    match r.only with
    | .always => true
    | .service => s.mode = .service
    | .serviceOrBringup => s.mode = .service || s.mode = .bringup

/-- Whether the dictionary is served: the management core runs (R47, R52). -/
def dictOn (s : State) : Bool := domainOn s 2 && !s.net.restarting && !isolatedRegion s .mgmt

/-- The checks of a write that do not look at its value: index, subindex, path, access, mode, owner. -/
def entryStatus (s : State) (o : Origin) (ix sub : Nat) : Nat :=
  match rowOf ix sub with
  | none => if indexKnown ix then stNoSub else stNoIndex
  | some r =>
    if !bit r.wpaths (pathBit o.path) || pathRemoved s o.path ix then stPathDenied
    else if r.acc = .ro || r.acc = .sec || (r.acc = .rwl && s.lasts.lock.isSome) then stReadOnly
    else if !modeAllows s o.path r then stMode
    else if secureEntry s ix sub then stState
    else stOk

/-- The status of a write before its entry's own rules: 0 where every general check passes (R20 to R28). -/
def writeStatus (s : State) (o : Origin) (ix sub : Nat) (data : Bytes) : Nat :=
  if !dictOn s then stUnavailable
  else if openTickets s o.path ≥ 16 then stBusy
  else
    let e := entryStatus s o ix sub
    if e ≠ 0 then e
    else match rowOf ix sub with
      | none => stNoIndex
      | some r =>
        if !lengthOk r data.length then stLength
        else if isNum r && !rangeOk s r (leNat data) then stRange
        else if writePending s (dkey ix sub) then stBusy
        else stOk

/-! ### Storing -/

/-- The key under which a path's own value of an entry stands. -/
def pathKey (p : Path) (ix sub : Nat) : Nat := dkey ix sub + (pathBit p + 1) * 2 ^ 24

/-- The number that a path's own value of an entry holds. -/
def pathNum (s : State) (p : Path) (ix sub : Nat) : Nat :=
  match SMap.get unsetVal s.dict (pathKey p ix sub) with
  | .unset => entryNum s ix sub
  | v => v.toNat

/-- The cells bound to an entry count their frames again (R195). -/
def noteWritten (s : State) (ix sub : Nat) : State :=
  match s.sentinel.atlas with
  | none => s
  | some a =>
    each a.outs s fun s t =>
      updOut s t.out fun o =>
        { o with cells := (t.cells.zip o.cells).map fun e =>
            if e.1.kind = 2 && e.1.bindId = ix && e.1.bindSub = sub then
              { e.2 with unwritten := 0, timedOut := false, counting := true }
            else e.2 }

/-- The value of a byte string for a row. -/
def valueOf (r : DRow) (data : Bytes) : DVal := if isNum r then .num (leNat data) else .raw data

/-- A value stored in its entry, and committed where the entry is Stored (R21). -/
def storeValue (s : State) (o : Origin) (ix sub : Nat) (data : Bytes) : State :=
  match rowOf ix sub with
  | none => s
  | some r =>
    let v := valueOf r data
    if r.perPath then { s with dict := SMap.set unsetVal s.dict (pathKey o.path ix sub) v }
    else
      let s := setEntry s ix sub v
      if r.per = .stored then { s with store := SMap.set unsetVal s.store (dkey ix sub) v } else s

/-! ### Tickets (R27, R50, R51) -/

/-- A ticket number that no ticket held has: the first free one from a free value on. -/
def freshTicket (s : State) : Nat × State :=
  let (k, s) := takeFree s (2 ^ 32 - 1)
  let used := s.net.tickets.map fun t => t.no
  let no := ((rangeFrom k (used.length + 1)).map fun n => n % (2 ^ 32 - 1) + 1).find? fun n => !used.contains n
  (no.getD (k + 1), s)

/-- A message with nothing in it, for accesses that no message carried. -/
def noMsg : Msg := ⟨1, 2, 0, 0, 0, 0, 0, 0, [], [], false, false⟩

/-- A ticket opened for a pending access, with its number still to be set: shown as the path's last ticket. -/
def putTicket (s : State) (t : Ticket) : Nat × State :=
  let (k, s) := freshTicket s
  let s := { s with net := { s.net with tickets := s.net.tickets ++ [{ t with no := k }] } }
  (k, { s with dict := SMap.set unsetVal s.dict (pathKey t.origin.path 0x1FA0 1) (.num k) })

/-- The ticket of a pending write. -/
def openTicket (s : State) (o : Origin) (m : Msg) (key : Nat) (held : Bool) : Nat × State :=
  putTicket s ⟨0, o, m, key, held, none, none⟩

/-- The ticket of a pending read, whose final result takes at most len bytes of the value from an offset. -/
def openRead (s : State) (o : Origin) (key off len : Nat) : Nat × State :=
  putTicket s ⟨0, o, noMsg, key, true, some (off, len), none⟩

/-! ### DOMAIN writes that end early (R31, R113, R499) -/

/-- A load of a last that ends without a completed WRITE_SEG_END leaves the slot refused with BAD_LENGTH. -/
def abortLoad (s : State) (i : Nat) : State :=
  if (slotAt s i).st = .loading then updSlot s i fun _ => { resetSlot with st := .refused, status := 0x0103 } else s

/-- A load of an image that is lost leaves the bank refused. -/
def abortUpdate (s : State) : State :=
  if s.update.banks.toList.any fun b => b.st = 1 then
    { s with update := { s.update with banks := s.update.banks.map (fun b => if b.st = 1 then { b with st := 3 } else b), st := 3 } }
  else s

/-- What an entry's load leaves where its DOMAIN write is discarded. -/
def abortEntry (s : State) (key : Nat) : State :=
  if key / 256 = 0x2211 then abortLoad s (key % 256 - 1) else if key = dkey 0x5C01 0 then abortUpdate s else s

/-- Open DOMAIN writes discarded. -/
def discardDomains (s : State) (p : OpenDomain → Bool) : State :=
  let gone := s.net.domains.filter p
  let s := { s with net := { s.net with domains := s.net.domains.filter fun d => !p d } }
  each gone s fun s d => abortEntry s d.key

/-! ### A row that is the write of one entry -/

/-- Whether a path answers while the dictionary is not served: only Ethernet, whose hardware does, while the management core
restarts or is isolated (Table 2-10). -/
def answersAway (s : State) (p : Path) : Bool := p = .eth && netOn s && (s.net.restarting || isolatedRegion s .mgmt)

/-- An accepted write noted, whatever its value and path, where a cell is bound to its entry (R195). -/
def noted (ix sub : Nat) (r : Nat × State) : Nat × State :=
  if r.1 = stOk || r.1 = stPending then (r.1, noteWritten r.2 ix sub) else r

/-- A write of an entry: the general checks, then the entry's own rules f; its status is answered. -/
def rowWrite (s : State) (o : Origin) (ix sub : Nat) (data : Bytes) (f : State → Nat × State) : State :=
  let e := writeStatus s o ix sub data
  let (st, s) := if e ≠ 0 then (e, s) else noted ix sub (f s)
  if e = stUnavailable && !answersAway s o.path then s else emit s (.status o (dkey ix sub) st)

/-- The bytes of a number for an entry's type; a number that the type cannot hold makes one byte more, which R20 refuses. -/
def numData (ix sub v : Nat) : Bytes :=
  match rowOf ix sub with
  | some r => match typeSize r.ty with
    | some k => if v < 2 ^ (8 * k) then leBytes k v else leBytes (k + 1) v
    | none => leBytes 8 v
  | none => leBytes 8 v

/-- A write of a number to an entry. -/
def rowWriteNum (s : State) (o : Origin) (ix sub v : Nat) (f : State → Nat × State) : State :=
  rowWrite s o ix sub (numData ix sub v) f

/-- A number stored in its entry, as an accepted write. -/
def storeNum (s : State) (o : Origin) (ix sub v : Nat) : State := storeValue s o ix sub (numData ix sub v)

end Sys2Proof.Machine
end

