-- ==== Sys2Proof/Machine/Pixel.lean ====
section
/-! DEFINITION. The pixel arithmetic of composition (R151 to R156, R179, R180): source formats, colour conversion, blending,
gamma and output depth, on plain numbers. -/

namespace Sys2Proof.Machine

/-- A pixel of 12 bits per channel with its alpha. -/
structure Px where
  r : Nat
  g : Nat
  b : Nat
  a : Nat
  deriving DecidableEq, Repr

/-! ### Source formats (Table 6-4) -/

/-- Expansion of an 8-bit channel. -/
def expand8 (x : Nat) : Nat := x * 16 + x / 16
/-- Expansion of a 10-bit colour channel. -/
def expand10 (x : Nat) : Nat := x * 4 + x / 256
/-- Expansion of a 2-bit alpha. -/
def expand2 (x : Nat) : Nat := 1365 * x
/-- Expansion of 5-bit and 6-bit channels of RGB565. -/
def expand5 (x : Nat) : Nat := x * 128 + x * 4 + x / 8
def expand6 (x : Nat) : Nat := x * 64 + x

/-- A binary16 value as a 12-bit channel: NaN is 0, values are clamped to 0 to 1, then ⌊4 095 v + 0.5⌋. -/
def expandHalf (h : Nat) : Nat :=
  let e := bits h 14 10
  let m := bits h 9 0
  if e = 31 && m ≠ 0 then 0
  else if bit h 15 then 0
  else if 15 ≤ e then 4095
  else
    -- v = num / 2^24
    let num := if e = 0 then m else (1024 + m) * 2 ^ (e - 1)
    (2 * 4095 * num + 2 ^ 24) / 2 ^ 25

/-- A pixel word of ARGB8888. -/
def argbPx (w : Nat) : Px := ⟨expand8 (bits w 23 16), expand8 (bits w 15 8), expand8 (bits w 7 0), expand8 (bits w 31 24)⟩

/-- Bytes of one pixel in plane 0, and of one chroma pair in plane 1, of a format; 0 for none. -/
def bytesPer (fmt : Nat) : Nat :=
  if fmt = 1 || fmt = 2 then 4 else if fmt = 3 then 2 else if fmt = 4 then 1 else if fmt = 5 then 2
  else if fmt = 6 then 8 else 0
def chromaBytes (fmt : Nat) : Nat := if fmt = 4 then 2 else if fmt = 5 then 4 else 0

/-- Whether a format has a chroma plane. -/
def isYuv (fmt : Nat) : Bool := fmt = 4 || fmt = 5

/-- The 12-bit components of a pixel word, and of its chroma pair c: R, G, B, or Y, Cb, Cr. -/
def sourcePx (fmt w c : Nat) : Px :=
  match fmt with
  | 1 => argbPx w
  | 2 => ⟨expand10 (bits w 9 0), expand10 (bits w 19 10), expand10 (bits w 29 20), expand2 (bits w 31 30)⟩
  | 3 => ⟨expand5 (bits w 15 11), expand6 (bits w 10 5), expand5 (bits w 4 0), 4095⟩
  | 4 => ⟨bits w 7 0 * 16, bits c 7 0 * 16, bits c 15 8 * 16, 4095⟩
  | 5 => ⟨bits w 15 6 * 4, bits c 15 6 * 4, bits c 31 22 * 4, 4095⟩
  | 6 => ⟨expandHalf (bits w 15 0), expandHalf (bits w 31 16), expandHalf (bits w 47 32), expandHalf (bits w 63 48)⟩
  | _ => ⟨0, 0, 0, 0⟩

/-! ### Colour conversion (R152) -/

/-- The matrix and pre-offsets of CSC 1 to 3 (Table 6-5), row by row, then p. -/
def cscTable (csc : Nat) : List Int :=
  match csc with
  | 1 => [4769, 0, 6537, 4769, -1605, -3330, 4769, 8263, 0, 256, 2048, 2048]
  | 2 => [4769, 0, 7343, 4769, -873, -2183, 4769, 8652, 0, 256, 2048, 2048]
  | _ => [4769, 0, 6876, 4769, -767, -2664, 4769, 8773, 0, 256, 2048, 2048]

/-- One output component of a conversion. -/
def cscRow (m : List Int) (row : Nat) (x0 x1 x2 : Int) : Nat :=
  let v := m.getD (3 * row) 0 * x0 + m.getD (3 * row + 1) 0 * x1 + m.getD (3 * row + 2) 0 * x2
  (clampInt 0 4095 ((v + 2048).fdiv 4096)).toNat

/-- A pixel converted: identity for CSC 0; the custom matrix m for 15. Pre-offsets are 0 for RGB formats. -/
def convertPx (fmt csc : Nat) (m : List Int) (p : Px) : Px :=
  if csc = 0 then p
  else
    let t := if csc = 15 then m else cscTable csc
    let q : Nat → Int := fun j => if isYuv fmt then t.getD (9 + j) 0 else 0
    let x0 := (p.r : Int) - q 0
    let x1 := (p.g : Int) - q 1
    let x2 := (p.b : Int) - q 2
    ⟨cscRow t 0 x0 x1 x2, cscRow t 1 x0 x1 x2, cscRow t 2 x0 x1 x2, p.a⟩

/-! ### Blending (R154, R155) -/

/-- αs·A_L/255, rounded half up. -/
def scaleAlpha (x al : Nat) : Nat := (2 * x * al + 255) / 510

/-- x·y/4 095, rounded half up. -/
def mul12 (x y : Nat) : Nat := (2 * x * y + 4095) / 8190

/-- One channel blended over cd. -/
def blendCh (premult : Bool) (cs al a cd : Nat) : Nat :=
  Nat.min 4095 ((if premult then scaleAlpha cs al else mul12 cs a) + mul12 cd (4095 - a))

/-- A pixel blended over another; the target alpha is kept with it. -/
def blendPx (premult : Bool) (al : Nat) (s d : Px) : Px :=
  let a := scaleAlpha s.a al
  ⟨blendCh premult s.r al a d.r, blendCh premult s.g al a d.g, blendCh premult s.b al a d.b,
   Nat.min 4095 (a + mul12 d.a (4095 - a))⟩

/-- Black with no alpha: Cd and αd before the first layer. -/
def blackPx : Px := ⟨0, 0, 0, 0⟩

/-! ### Gamma and depth (R156, R179, R180) -/

/-- Entry i of a gamma table of 1 024 values of 16 bits; e[1024] is 4 096, and the default table is e[i] = 4 i. -/
def gammaAt (tab : Option Bytes) (i : Nat) : Nat :=
  if i = 1024 then 4096
  else match tab with
    | some b => u16 b (2 * i)
    | none => 4 * i

/-- The gamma-corrected value of a channel. -/
def gammaOf (tab : Option Bytes) (x : Nat) : Nat :=
  let i := x / 4
  let e := (gammaAt tab i : Int)
  let y := e + (((gammaAt tab (i + 1) : Int) - e) * (x % 4 : Nat) + 2).fdiv 4
  (if y < 4095 then y else 4095).toNat

/-- A 12-bit value reduced to b bits. -/
def reduceTo (b y : Nat) : Nat := Nat.min (2 ^ b - 1) ((y + 2 ^ (11 - b)) / 2 ^ (12 - b))

/-- A composed pixel as it is sent, at a depth. -/
def sendPx (tab : Option Bytes) (bpc : Nat) (p : Px) : Rgb :=
  ⟨reduceTo bpc (gammaOf tab p.r), reduceTo bpc (gammaOf tab p.g), reduceTo bpc (gammaOf tab p.b)⟩

/-- The word of a recorded pixel (R180). -/
def recordWord (bpc : Nat) (p : Rgb) : Nat :=
  if bpc = 10 then 3 * 2 ^ 30 + p.b * 2 ^ 20 + p.g * 2 ^ 10 + p.r
  else
    let k := if bpc = 6 then 4 else 1
    0xFF000000 + p.r * k * 2 ^ 16 + p.g * k * 2 ^ 8 + p.b * k

/-- The word of an offscreen target's pixel (R179): format 1 ARGB8888, 2 ABGR2101010. -/
def targetWord (fmt : Nat) (p : Px) : Nat :=
  if fmt = 1 then
    reduceTo 8 p.a * 2 ^ 24 + reduceTo 8 p.r * 2 ^ 16 + reduceTo 8 p.g * 2 ^ 8 + reduceTo 8 p.b
  else
    (3 * p.a + 2047) / 4095 * 2 ^ 30 + reduceTo 10 p.b * 2 ^ 20 + reduceTo 10 p.g * 2 ^ 10 + reduceTo 10 p.r

/-- The word of a sealed pixel in the CRC of R205. -/
def crcWord (p : Rgb) : Nat := p.r * 2 ^ 20 + p.g * 2 ^ 10 + p.b

/-- A pixel with every component zero. -/
def zeroRgb : Rgb := ⟨0, 0, 0⟩

end Sys2Proof.Machine
end

