-- ==== Sys2Proof/Machine/LastFormat.lean ====
section
/-! DEFINITION. The byte layout of a last and the load checks of stages 1 to 3 (chapter 05; R100, R147, R172, R213, R215,
R291, R330, R344, R353, R357, R408). -/

namespace Sys2Proof.Machine

/-! ### Container (R121 to R125) -/

/-- A directory entry: type, flags, offset, length (Table 5-3). -/
structure DirEntry where
  ty : Nat
  flags : Nat
  off : Nat
  len : Nat
  deriving DecidableEq, Repr

/-- The first code of a list whose check fails, in the order of the codes (R146). -/
def firstFail : List (Nat × Bool) → Nat
  | [] => 0
  | (code, ok) :: rest => if ok then firstFail rest else code

/-- The records of a byte string, n of size k from an offset; a count above the number of bytes is cut to it. -/
def records (bs : Bytes) (off k n : Nat) : List Bytes :=
  (rangeFrom 0 (Nat.min n bs.length)).map fun i => sub bs (off + i * k) k

/-- The directory of an image (Table 5-3). -/
def dirOf (img : Bytes) : List DirEntry :=
  (records img 64 12 (u16 img 6)).map fun r => ⟨u16 r 0, u16 r 2, u32 r 4, u32 r 8⟩

/-- Whether the image has a section. -/
def hasSect (img : Bytes) (ty : Nat) : Bool := (dirOf img).any fun e => e.ty = ty

/-- The bytes of a section; none where it is absent. -/
def sect (img : Bytes) (ty : Nat) : Bytes :=
  match (dirOf img).find? fun e => e.ty = ty with
  | some e => sub img e.off e.len
  | none => []

/-- The offset of a section. -/
def sectOff (img : Bytes) (ty : Nat) : Nat :=
  match (dirOf img).find? fun e => e.ty = ty with
  | some e => e.off
  | none => 0

/-- Numbers rise strictly along a list. -/
def rising : List Nat → Bool
  | [] => true
  | x :: xs => (xs.head?.all fun y => x < y) && rising xs

/-- L_ref that Table 3-2 gives for a rate code; 0 for no code. -/
def lrefOfCode (c : Nat) : Nat := if c = 1 || c = 2 then 2250 else if c = 3 then 2700 else 0

/-- BAD_HEADER (R122). -/
def headerOk (img : Bytes) : Bool :=
  let n := u16 img 6
  zeros img 36 28 && 8 ≤ n && n ≤ 15 && 1 ≤ u8 img 16 && u8 img 16 ≤ 4 && 1 ≤ u8 img 17 && u8 img 17 ≤ 3 &&
    u16 img 18 = lrefOfCode (u8 img 17)

/-- Sections follow one another with at most 7 zero bytes of padding before each (R121). -/
def placesOk (img : Bytes) : Nat → List DirEntry → Bool
  | _, [] => true
  | p, e :: es =>
    p ≤ e.off && e.off ≤ p + 7 && e.off % 8 = 0 && e.len % 8 = 0 && e.off + e.len ≤ img.length &&
      zeros img p (e.off - p) && placesOk img (e.off + e.len) es

/-- BAD_DIRECTORY (R121, R124). An absent section 0x0F is MISSING_SECTION's alone (R146). -/
def directoryOk (img : Bytes) : Bool :=
  let d := dirOf img
  let start := 64 + 12 * u16 img 6
  start ≤ img.length && rising (d.map fun e => e.ty) && d.all (fun e => 1 ≤ e.ty && e.ty ≤ 15 && e.flags = 0x0100) &&
    placesOk img start d && d.all (fun e => e.ty ≠ 15 || e.off + e.len = img.length)

/-- The mandatory sections (R125). -/
def mandatory : List Nat := [0x01, 0x02, 0x03, 0x04, 0x07, 0x0C, 0x0D, 0x0F]

/-- The body (R123). -/
def bodyOf (img : Bytes) : Bytes := sub img 64 (sectOff img 0x0F - 64)

/-- Stage 1: 0, or the code of the first check that fails (Table 5-18). -/
def stage1 (img : Bytes) : Nat :=
  firstFail
    [(0x0101, img.take 4 = ascii "LST1"), (0x0102, sub img 4 2 = [1, 0]),
     (0x0103, 64 ≤ img.length && u32 img 8 = img.length && img.length ≤ 0x400000), (0x0104, headerOk img),
     (0x0105, directoryOk img), (0x0106, mandatory.all fun t => hasSect img t),
     (0x0107, u32 img 20 = crcOf crc32c (bodyOf img))]

/-! ### Reading the sections -/

/-- The items: sections 0x02 and 0x0D side by side (R128, R143). -/
def itemsOf (img : Bytes) : List Item :=
  let b := sect img 0x02
  let m := sect img 0x0D
  (rangeFrom 0 (u16 b 0)).map fun i =>
    let r := sub b (8 + 16 * i) 16
    let q := sub m (8 + 8 * i) 8
    { requester := u8 r 2, cls := u8 r 3, resource := u8 r 4, slice := u8 r 5, frameBudget := u32 r 8,
      action := u8 q 2, throttle := u8 q 3 }

/-- An event record (Table 5-9). -/
def eventOf (b : Bytes) : RowEvent :=
  let n := u64 b 0
  ⟨bits n 63 58, bits n 57 48, bits n 47 32, bits n 31 0⟩

/-- The listed rows with their events (R130). -/
def rowsOf (img : Bytes) : List LastRow :=
  let b := sect img 0x03
  let n := u32 b 4
  (records b 16 8 n).map fun r =>
    { cycle := u8 r 2, line := u16 r 0, events := (records b (16 + 8 * n + 8 * u32 r 4) 8 (u8 r 3)).map eventOf }

/-- An output plan (Table 5-11). -/
def planRec (r : Bytes) : OutPlan :=
  { out := u8 r 0, flags := u8 r 1, mult := u8 r 2, link := u8 r 3, linkRate := u8 r 4, bpc := u8 r 5, vTotal := u16 r 8,
    vActive := u16 r 10, vFront := u16 r 12, vSync := u16 r 14, hTotal := u16 r 16, hActive := u16 r 18,
    hFront := u16 r 20, hSync := u16 r 22, offLine := u32 r 24 / 65536, offPhase := u32 r 24 % 65536, lead := u16 r 28 }

/-- The bits set of an 8-bit mask, in rising order. -/
def maskBits (w m : Nat) : List Nat := (rangeFrom 0 w).filter fun i => bit m i

/-- The output plans (R133). -/
def plansOf (img : Bytes) : List OutPlan :=
  let b := sect img 0x04
  (records b 8 32 (maskBits 8 (u8 b 0)).length).map planRec

/-- A layer-slot binding (Table 5-12). -/
def bindingRec (r : Bytes) : Binding :=
  { out := u8 r 0, layer := u8 r 1, slice := u8 r 2, static := bit (u8 r 3) 0, fallback := u32 r 4,
    rects := (rangeFrom 0 (u8 r 8)).map fun i =>
      (u16 r (16 + 8 * i), u16 r (18 + 8 * i), u16 r (20 + 8 * i), u16 r (22 + 8 * i)) }

def bindingsOf (img : Bytes) : List Binding :=
  let b := sect img 0x05
  (records b 8 48 (u16 b 0)).map bindingRec

/-- A context record (Table 5-13). -/
def ctxsOf (img : Bytes) : List CtxRec :=
  let b := sect img 0x06
  (records b 8 16 (u8 b 0)).map fun r => ⟨u8 r 0, u32 r 4, u16 r 8, u16 r 10⟩

/-- The allotment sets (R136). -/
def setsOf (img : Bytes) : List (List Nat) :=
  let b := sect img 0x07
  let n := u16 b 2
  (rangeFrom 0 (u8 b 0)).map fun k => (rangeFrom 0 n).map fun i => u32 b (8 + 4 * (k * n + i))

/-- The burst plans (Table 5-14). -/
def burstsOf (img : Bytes) : List BurstPlan :=
  let b := sect img 0x08
  (records b 8 16 (u16 b 0)).map fun r =>
    ⟨u8 r 0, u8 r 1, u8 r 2, u8 r 3, u32 r 4, u16 r 8, u8 r 10, u8 r 11, u8 r 12⟩

/-- The haptic reservations (R138); none enabled where the section is absent (Table 5-4). -/
def hapticsOf (img : Bytes) : List HapticRes :=
  (rangeFrom 0 8).map fun i =>
    let r := sub (sect img 0x09) (8 * i) 8
    ⟨bit (u8 r 1) 0, u32 r 4⟩

/-- The audio program (R139). -/
def audioOf (img : Bytes) : Option AudioProg :=
  if hasSect img 0x0A then
    let b := sect img 0x0A
    let n := u16 b 0
    some { ops := (rangeFrom 0 n).map fun i => u64 b (32 + 8 * i),
           coefs := (rangeFrom 0 (u16 b 2)).map fun i => u32 b (32 + 8 * n + 4 * i),
           tdm := (rangeFrom 0 4).map fun p => u32 b (8 + 4 * p) }
  else none

/-- The check plans (Table 5-15). -/
def checkPlansOf (img : Bytes) : List CheckPlan :=
  let b := sect img 0x0B
  (records b 8 32 (u16 b 0)).map fun r => ⟨u8 r 0, u8 r 1, u8 r 2, u16 r 4, u64 r 8, u64 r 16⟩

/-- The assignment section (Table 5-16). -/
def assignmentOf (img : Bytes) : Assignment :=
  let b := sect img 0x0C
  let ns := u8 b 4
  let np := u16 b 6
  { portFlags := (rangeFrom 0 4).map (u8 b),
    slices := (records b 16 8 ns).map fun r => (u8 r 0, u8 r 1, u32 r 4),
    periphs := (records b (16 + 8 * ns) 8 np).map fun r => ⟨u8 r 0, u8 r 1, u8 r 2 = 1, u8 r 3, u8 r 4⟩,
    masks := (records b (16 + 8 * ns + 8 * np) 8 (u16 b 8)).map fun r => (u16 r 0, u16 r 2, u8 r 4),
    keyId := u16 b 10, raw := b }

/-- The links (R144). -/
def linksOf (img : Bytes) : List Bytes :=
  let b := sect img 0x0E
  records b 8 16 (u8 b 0)

/-- The last that an image holds. -/
def parseLast (img : Bytes) : Last :=
  let a := sect img 0x01
  { identity := sub img 20 16, family := u16 img 12, steppings := u16 img 14, margin := u8 img 16, rateCode := u8 img 17,
    lRef := u16 img 18, role := u8 a 0, opPoint := u8 a 1, rates := (rangeFrom 0 (u8 a 2)).map fun i => u16 a (4 + 2 * i),
    initialRate := u8 a 12, highest := u64 a 16, items := itemsOf img, cycles := u8 (sect img 0x03) 0, rows := rowsOf img,
    plans := plansOf img, bindings := bindingsOf img, ctxs := ctxsOf img, sets := setsOf img, bursts := burstsOf img,
    haptics := hapticsOf img, audio := audioOf img, checks := checkPlansOf img, assign := assignmentOf img,
    links := linksOf img }

/-! ### 0x0301 SECTION_FORMAT (R126, R136, R144, R145) -/

/-- The highest DRAM rate of a margin class (Table 4-8). -/
def highestRate (m : Nat) : Nat := if m ≤ 2 then 8533 else if m = 3 then 7500 else 6400

/-- No element of a list stands in it twice. -/
def distinct (xs : List Nat) : Bool := xs.eraseDups.length = xs.length

/-- Section 0x01 (R126), its rules for RATE_COUNT, RATES and INITIAL_RATE included. -/
def assumptionsOk (img : Bytes) : Bool :=
  let a := sect img 0x01
  let n := u8 a 2
  let rates := (rangeFrom 0 (Nat.min 4 n)).map fun i => u16 a (4 + 2 * i)
  a.length = 32 && n ≤ 4 && (n ≠ 0 || u8 a 0 = 3) && zeros a 3 1 && zeros a 13 3 && zeros a 24 8 &&
    u64 a 16 < 2 ^ 40 && distinct rates && rates.all (fun r => r ≤ highestRate (u8 img 16)) &&
    zeros a (4 + 2 * n) (8 - 2 * n) && (u8 a 12 < n || (n = 0 && u8 a 12 = 0))

/-- Section 0x07 (R136). -/
def windowsOk (img : Bytes) : Bool :=
  let b := sect img 0x07
  let sets := u8 b 0
  let n := u16 b 2
  let used := 8 + 4 * sets * n
  let items := itemsOf img
  1 ≤ sets && sets ≤ 64 && zeros b 1 1 && zeros b 4 4 && n = u16 (sect img 0x02) 0 && b.length = (used + 7) / 8 * 8 &&
    zeros b used (b.length - used) &&
    (setsOf img).all fun s =>
      (s.zip items).all fun e => e.1 % 64 = 0 && (e.2.resource ≠ 1 || e.1 = 0)

/-- Section 0x0E (R144). -/
def linksOk (img : Bytes) : Bool :=
  let b := sect img 0x0E
  !hasSect img 0x0E || (u8 b 0 ≤ 7 && zeros b 1 7 && b.length = 8 + 16 * u8 b 0)

/-- Section 0x0F (R145). -/
def signatureFormOk (img : Bytes) : Bool := (sect img 0x0F).length = 112 && zeros (sect img 0x0F) 4 12

/-- The 0x0301 check. -/
def sectionFormatOk (img : Bytes) : Bool := assumptionsOk img && windowsOk img && linksOk img && signatureFormOk img

/-! ### 0x0302 OUTPUT_PLAN (R133, R172, R213 to R215) -/

/-- The numerator and the denominator of the frame rate of a rate code. -/
def rateFrac (code : Nat) : Nat × Nat := frameRate (rateOf code)

/-- The lane rate in units of 10 kbit/s (R215). -/
def laneRate (code : Nat) : Nat :=
  if code = 1 then 162000 else if code = 2 then 270000 else if code = 3 then 540000 else if code = 4 then 810000 else 0

/-- The limits of a plan (Table 8-2, R214, R215), under a rate code. -/
def planLimits (p : OutPlan) (code : Nat) : Bool :=
  let (num, den) := rateFrac code
  let dp := p.link / 16 = 0
  let lanes := p.link % 16
  let clock := p.hTotal * p.vTotal * p.mult * num
  let hUsed := p.hActive + p.hFront + p.hSync
  let vUsed := p.vActive + p.vFront + p.vSync
  640 ≤ p.hActive && p.hActive ≤ (if dp then 5120 else 1920) && 8 ≤ p.hFront && 8 ≤ p.hSync && hUsed + 16 ≤ p.hTotal &&
    p.hTotal ≤ (if dp then 8192 else 4096) &&
    p.hTotal % 2 = 0 && p.hActive % 2 = 0 && p.hFront % 2 = 0 && p.hSync % 2 = 0 &&
    480 ≤ p.vActive && p.vActive ≤ (if dp then 2160 else 1200) && 1 ≤ p.vFront && 1 ≤ p.vSync && vUsed + 1 ≤ p.vTotal &&
    p.vActive + 10 ≤ p.vTotal && p.vTotal ≤ 4096 && (p.mult = 1 || p.mult = 2) &&
    (p.bpc = 6 || p.bpc = 8 || (p.bpc = 10 && dp)) && p.hActive * p.bpc ≤ 40960 &&
    (if dp then 25000000 else 40000000) * den ≤ clock && clock ≤ (if dp then 600000000 else 170000000) * den &&
    p.offLine < lrefOfCode code && p.lead = 32 && p.link / 16 ≤ 1 &&
    (if dp then (lanes = 1 || lanes = 2 || lanes = 4) && 1 ≤ p.linkRate && p.linkRate ≤ 4 &&
        clock * 3 * p.bpc * 1000 ≤ 776 * lanes * laneRate p.linkRate * 10000 * den
      else lanes = 0 && p.linkRate = 0)

/-- The 0x0302 check. -/
def outputPlansOk (img : Bytes) : Bool :=
  let b := sect img 0x04
  let outs := maskBits 8 (u8 b 0)
  8 ≤ b.length && zeros b 1 7 && b.length = 8 + 32 * outs.length && (plansOf img).map (fun p => p.out) = outs &&
    (records b 8 32 outs.length).all (fun r => zeros r 6 2 && zeros r 30 2) &&
    (plansOf img).all fun p => p.flags < 16 && planLimits p (u8 img 17)

/-! ### 0x0303 ITEM (R94, R128, R129, R143; Tables 4-6 and 5-7) -/

/-- Whether a requester code may have a class (Table 5-7). -/
def classAllowed (r c : Nat) : Bool :=
  if r ≤ 0x08 || (0x10 ≤ r && r ≤ 0x13) then c = 0
  else if r = 0x18 || r = 0x19 then c = 1
  else if 0x20 ≤ r && r ≤ 0x3F then c = 3 || c = 4
  else if r = 0x40 then c = 2
  else if r = 0x41 || (0x48 ≤ r && r ≤ 0x4A) then c = 3
  else if r = 0x50 || r = 0x51 then c = 4
  else false

/-- Whether a requester code is a GPU context. -/
def isGpuReq (r : Nat) : Bool := 0x20 ≤ r && r ≤ 0x41

/-- Whether an item may name its action (R94, Table 4-6). -/
def actionAllowed (i : Item) : Bool :=
  if i.cls ≤ 2 then i.action = 0
  else if isGpuReq i.requester then
    if i.resource = 1 then i.action = 2 || i.action = 3 else i.action = 1 || i.action = 2
  else if i.requester = 0x48 then i.action = 2 || i.action = 3
  else if i.requester = 0x49 || i.requester = 0x4A then i.action = 3
  else if i.requester = 0x50 then i.action = 2
  else if i.requester = 0x51 then i.action = 1
  else false

/-- One item (R128, R129, R143). -/
def itemOk (lRef : Nat) (i : Item) : Bool :=
  classAllowed i.requester i.cls && i.resource ≤ 1 && (i.resource = 0 || isGpuReq i.requester) &&
    (i.slice < 32 || i.slice = 0xFF) &&
    (!isGpuReq i.requester || i.slice = (if i.requester < 0x40 then i.requester - 0x20 else 0xFF)) &&
    (if i.resource = 1 then 1 ≤ i.frameBudget && i.frameBudget ≤ lRef else i.frameBudget = 0) &&
    actionAllowed i && (if i.action = 1 then 1 ≤ i.throttle else i.throttle = 0)

/-- The 0x0303 check. -/
def itemsOk (img : Bytes) : Bool :=
  let b := sect img 0x02
  let m := sect img 0x0D
  let n := u16 b 0
  let items := itemsOf img
  8 ≤ b.length && n ≤ 512 && zeros b 2 6 && b.length = 8 + 16 * n && 8 ≤ m.length && u16 m 0 = n && zeros m 2 6 &&
    m.length = 8 + 8 * n &&
    (rangeFrom 0 n).all (fun i =>
      u16 b (8 + 16 * i) = i + 1 && zeros b (14 + 16 * i) 2 && zeros b (20 + 16 * i) 4 &&
      u16 m (8 + 8 * i) = i + 1 && zeros m (12 + 8 * i) 4) &&
    items.all (itemOk (u16 img 18)) && distinct (items.map fun i => i.requester * 2 + i.resource) &&
    !(items.any (fun i => i.requester = 0x13) && items.any fun i => 0x10 ≤ i.requester && i.requester ≤ 0x12)

/-! ### 0x0304 ROW_TABLE (R130 to R132) -/

/-- The phase units of a line. -/
def rowTick (lRef : Nat) (r : LastRow) (e : RowEvent) : Nat := (r.cycle * lRef + r.line) * 65536 + e.phase

/-- Every event with its position in the frame cycle, in order. -/
def eventsAt (l : Last) : List (Nat × RowEvent) := l.rows.flatMap fun r => r.events.map fun e => (rowTick l.lRef r e, e)

/-- One event (Table 5-10); rate is the index of the rate in force before it. -/
def eventOk (l : Last) (rate : Nat) (e : RowEvent) : Bool :=
  match e.kind with
  | 1 => (match planOf l e.target with
    | some p => e.arg ≤ 1 && (p.mult = 2 || e.arg = 0)
    | none => false)
  | 2 =>
    e.target ≤ 33 && l.ctxs.any (fun c => c.ctx = e.target) && e.arg < 2 ^ 28 && 1 ≤ bits e.arg 27 12 &&
      bits e.arg 27 12 ≤ l.lRef && bits e.arg 11 0 ≠ 0
  | 3 => e.target = 0 && e.phase = 0 && e.arg < 256 && e.arg < l.sets.length
  | 4 => e.target ≤ 7 && e.arg < 65536 && (match l.bursts[e.arg]? with
    | some p => p.ch = e.target
    | none => false)
  | 5 => e.target = 0 && e.arg < 4 && e.arg < l.rates.length && e.arg ≠ rate
  | 6 => e.target ≤ 15 && e.arg < 65536 && (match l.checks[e.arg]? with
    | some p => p.ch = e.target
    | none => false)
  | _ => false

/-- The events in order, each judged with the rate in force at it. -/
def eventsOk (l : Last) : Nat → List RowEvent → Bool
  | _, [] => true
  | rate, e :: es => eventOk l rate e && eventsOk l (if e.kind = 5 then e.arg else rate) es

/-- Phases do not fall along a row (R131). -/
def phasesOk : List RowEvent → Bool
  | [] => true
  | e :: es => (es.head?.all fun f => e.phase ≤ f.phase) && phasesOk es

/-- FIRST is the running sum of COUNT (R130). -/
def firstsOk : Nat → List Bytes → Bool
  | _, [] => true
  | k, r :: rs => u32 r 4 = k && firstsOk (k + u8 r 3) rs

/-- The 0x0304 check. -/
def rowTableOk (img : Bytes) (l : Last) : Bool :=
  let b := sect img 0x03
  let rows := u32 b 4
  let events := u32 b 8
  let entries := records b 16 8 rows
  16 ≤ b.length && 1 ≤ u8 b 0 && u8 b 0 ≤ 60 && zeros b 1 1 && u16 b 2 = u16 img 18 && zeros b 12 4 &&
    1 ≤ rows && rows ≤ u8 b 0 * u16 img 18 && b.length = 16 + 8 * rows + 8 * events &&
    entries.all (fun r => u16 r 0 < u16 img 18 && u8 r 2 < u8 b 0 && 1 ≤ u8 r 3 && u8 r 3 ≤ 64) &&
    rising (entries.map fun r => u8 r 2 * 65536 + u16 r 0) && firstsOk 0 entries &&
    events = (entries.map fun r => u8 r 3).sum &&
    l.rows.all (fun r => phasesOk r.events) && eventsOk l l.initialRate (l.rows.flatMap fun r => r.events)

/-! ### 0x0305 LATCH_POSITION (R73, R100) -/

/-- The phase units of one reference frame, and of the frame cycle. -/
def lastFrame (l : Last) : Nat := l.lRef * 65536
def lastCycle (l : Last) : Nat := l.cycles * lastFrame l

/-- The position of output line k of a plan after the start of its reference frame, in phase units rounded down; k may lie
before the frame (R73). -/
def lineStart (lRef : Nat) (p : OutPlan) (k : Int) : Int :=
  (p.offLine * 65536 + p.offPhase : Nat) + (k * (lRef * 65536 : Nat)).fdiv ((p.mult * p.vTotal : Nat) : Int)

/-- Where the LATCH of output frame j of the frame at cycle position c stands in the frame cycle (R100). -/
def latchTick (l : Last) (p : OutPlan) (c j : Nat) : Nat :=
  (((c * lastFrame l : Nat) : Int) + lineStart l.lRef p ((j * p.vTotal : Nat) - 32) ) % (lastCycle l : Nat) |>.toNat

/-- The LATCH events that a plan needs: position and output frame. -/
def latchesOf (l : Last) (p : OutPlan) : List (Nat × Nat) :=
  (rangeFrom 0 l.cycles).flatMap fun c => (rangeFrom 0 p.mult).map fun j => (latchTick l p c j, j)

/-- The 0x0305 check: the LATCH events of each output are those its plan needs, each once. -/
def latchPositionsOk (l : Last) : Bool :=
  l.plans.all fun p =>
    let have_ := ((eventsAt l).filter fun e => e.2.kind = 1 && e.2.target = p.out).map fun e => (e.1, e.2.arg)
    let need := latchesOf l p
    have_.all (fun e => need.contains e) && need.all fun e => have_.count e = 1

/-! ### 0x0306 and 0x0307: DRAM windows and the ceiling (R95, R96, R100, R147) -/

/-- The DRAM windows of the cycle: start, set and length in RL, in order (R147). -/
def dramWindows (l : Last) : List (Nat × Nat × Nat) :=
  let ws := ((eventsAt l).filter fun e => e.2.kind = 3).map fun e => (e.1 / 65536, e.2.arg)
  let starts := ws.map fun w => w.1
  let ends := starts.drop 1 ++ [starts.headD 0 + l.cycles * l.lRef]
  (ws.zip ends).map fun e => (e.1.1, e.1.2, e.2 - e.1.1)

/-- The 0x0306 check. -/
def dramWindowsOk (l : Last) : Bool :=
  let ws := dramWindows l
  (rangeFrom 0 l.cycles).all (fun c =>
    l.rows.any (fun r => r.cycle = c && r.line = 0 && (r.events.head?.any fun e => e.kind = 3)) &&
    ((ws.filter fun w => w.1 / l.lRef = c).length ≤ 32)) &&
  ws.all fun w => 8 ≤ w.2.2

/-- The rate changes of the cycle: position and rate index, in order. -/
def freqChanges (l : Last) : List (Nat × Nat) :=
  ((eventsAt l).filter fun e => e.2.kind = 5).map fun e => (e.1, e.2.arg)

/-- The changes inside a window. One at the very position of a DRAM_WINDOW lies in the window that opens there, whatever the stored
order of the two (DESIGN CHOICE, log entry 215). -/
def changesIn (l : Last) (w : Nat × Nat × Nat) : List (Nat × Nat) :=
  (freqChanges l).filter fun f => w.1 * 65536 ≤ f.1 && f.1 < (w.1 + w.2.2) * 65536

/-- The ceiling of a window in bytes (R95, R147); 0 where no rate is declared. -/
def ceilingOf (l : Last) (w : Nat × Nat × Nat) : Nat :=
  let (num, den) := rateFrac l.rateCode
  let inside := changesIn l w
  let before := match (freqChanges l).reverse.find? fun f => f.1 ≤ w.1 * 65536 && !inside.contains f with
    | some f => l.rates.getD f.2 0
    | none => l.rates.getD l.initialRate 0
  let d := inside.foldl (fun a f => Nat.min a (l.rates.getD f.2 0)) before
  let len := if inside.isEmpty then w.2.2 else w.2.2 - 2
  85 * 32 * d * 1000000 * den * len / (100 * num * l.lRef)

/-- The declared demand of an allotment set, in 1/256 byte (R96). -/
def demandOf (l : Last) (set : Nat) : Nat :=
  (((l.sets.getD set []).zip l.items).map fun e =>
    if e.1 = 0 then 0
    else if e.2.action = 0 then e.1 * 256
    else if e.2.action = 1 then e.1 * (256 + e.2.throttle) + 4096 * 256
    else (e.1 + 4096) * 256).sum

/-- The 0x0307 check. -/
def ceilingsOk (l : Last) : Bool := (dramWindows l).all fun w => demandOf l w.2.1 ≤ ceilingOf l w * 256

/-! ### 0x0308 GPU_WINDOWS (C2, R147) -/

/-- The GPU windows of the cycle: start, context, length in phase units, clusters. -/
def gpuWindows (l : Last) : List (Nat × Nat × Nat × Nat) :=
  ((eventsAt l).filter fun e => e.2.kind = 2).map fun e =>
    (e.1, e.2.target, bits e.2.arg 27 12 * 65536, bits e.2.arg 11 0)

/-- Phase units from position a to position b, going forward around the cycle. -/
def ahead (cycle a b : Nat) : Nat := (b + cycle - a % cycle) % cycle

/-- Windows a and b, with b later in the list or a later, keep their distances: no overlap on a cluster or of one context,
and 8 RL before a window of context 32. -/
def windowPairOk (cycle : Nat) (a b : Nat × Nat × Nat × Nat) : Bool :=
  let shared := andMask a.2.2.2 b.2.2.2 ≠ 0
  let d := ahead cycle a.1 b.1
  let need := if b.2.1 = 32 && a.2.1 ≠ 32 && shared then a.2.2.1 + rlTicks 8 else a.2.2.1
  !(shared || a.2.1 = b.2.1) || need ≤ d

/-- The 0x0308 check. -/
def gpuWindowsOk (l : Last) : Bool :=
  let ws := enumFrom 0 (gpuWindows l)
  ws.all fun a => ws.all fun b => a.1 = b.1 || windowPairOk (lastCycle l) a.2 b.2

/-! ### 0x0309 TOUCH_PLACEMENT (R137, R147, R291) -/

/-- The limits of a channel (Table 11-1): transmit electrodes, drive, frequency. -/
def burstLimits (p : BurstPlan) : Bool :=
  let vt := p.ch ≥ 2
  p.txFirst + p.txCount ≤ (if vt then 64 else 72) && 10 ≤ p.drive && p.drive ≤ (if vt then 100 else 120) &&
    100 ≤ p.freqKHz && p.freqKHz ≤ (if vt then 1000 else 2000)

/-- Section 0x08 (R137). -/
def burstsOk (img : Bytes) (l : Last) : Bool :=
  let b := sect img 0x08
  !hasSect img 0x08 ||
    (8 ≤ b.length && zeros b 2 6 && b.length = 8 + 16 * u16 b 0 &&
      (rangeFrom 0 (u16 b 0)).all (fun i => zeros b (8 + 16 * i + 13) 3) &&
      l.bursts.all fun p =>
        p.ch ≤ 7 && (planOf l p.out).isSome && 1 ≤ p.txCount && p.rates < 64 && p.mode ≤ 1 && burstLimits p &&
          l.bursts.all fun q => q.ch ≠ p.ch || q.out = p.out)

/-- Whether a burst at a position of the cycle lies in one quiet interval of a plan's output (R147). -/
def inQuiet (l : Last) (p : OutPlan) (t dur : Nat) : Bool :=
  let lines := p.mult * p.vTotal
  let off := p.offLine * 65536 + p.offPhase
  -- counted from the start of output line 0 one cycle earlier, so that no position lies before it
  let x := t + lastCycle l - off % lastCycle l
  let k := ((x + 1) * lines - 1) / lastFrame l
  let next := if (k + 1) % p.vTotal < p.vActive then k + 1 else (k / p.vTotal + 1) * p.vTotal
  -- the active run of line k ends at k + H_ACTIVE / H_TOTAL lines
  let past := (k * p.hTotal + p.hActive) * lastFrame l ≤ x * lines * p.hTotal
  (p.vActive ≤ k % p.vTotal || past) && x + dur ≤ next * lastFrame l / lines

/-- The 0x0309 check. -/
def touchOk (img : Bytes) (l : Last) : Bool :=
  burstsOk img l &&
    (eventsAt l).all fun e =>
      e.2.kind ≠ 4 ||
        match l.bursts[e.2.arg]? with
        | some b => (match planOf l b.out with
          | some p => inQuiet l p e.1 b.duration
          | none => false)
        | none => false

/-! ### 0x030A FREQ_CHANGE (C5, R100, R147) -/

/-- The 0x030A check. -/
def freqChangesOk (l : Last) : Bool :=
  let fs := freqChanges l
  let cyc := lastCycle l
  let latches := (eventsAt l).filter fun e => e.2.kind = 1
  fs.all (fun f => latches.all fun e => rlTicks 4 ≤ ahead cyc f.1 e.1 && rlTicks 4 ≤ ahead cyc e.1 f.1) &&
    (fs.all fun f => fs.all fun g => f.1 = g.1 || rlTicks 24 ≤ ahead cyc f.1 g.1) &&
    distinct (fs.map fun f => f.1) &&
    (dramWindows l).all (fun w => (changesIn l w).length ≤ 1) &&
    (match fs.getLast? with
      | some f => f.2 = l.initialRate
      | none => true)

/-! ### 0x030B AUDIO_PROGRAM (R139, R344, R353, R357) -/

/-- The fields of an operation word (Table 13-3). -/
def opCode (w : Nat) : Nat := bits w 63 56
def opDest (w : Nat) : Nat := bits w 55 44
def opA (w : Nat) : Nat := bits w 43 32
def opB (w : Nat) : Nat := bits w 31 20
def opCoef (w : Nat) : Nat := bits w 19 8
def opFlags (w : Nat) : Nat := bits w 7 0

/-- Whether a program may write a register (Table 13-4): not a TDM input, not a playback stream. -/
def writable (s : State) (d : Nat) : Bool :=
  0x40 ≤ d && (d < 0x80 || 0x100 ≤ d || entryNum s (0x5240 + (d - 0x80) / 2) 4 = 1)

/-- One operation (R353). -/
def audioOpOk (s : State) (coefs : Nat) (w : Nat) : Bool :=
  let b0 := opB w = 0
  let c0 := opCoef w = 0
  let f0 := opFlags w = 0
  let dest := writable s (opDest w)
  match opCode w with
  | 0 => opDest w = 0 && opA w = 0 && b0 && c0 && f0
  | 1 => dest && b0 && c0 && f0
  | 2 => dest && c0 && f0
  | 3 => dest && b0 && opCoef w < coefs && opFlags w ≤ 1
  | 4 => dest && b0 && opCoef w ≤ 255 && f0
  | 5 => dest && b0 && c0 && opFlags w ≤ 3
  | 6 => dest && b0 && opCoef w + 1 < coefs && f0
  | 7 => dest && opFlags w ≤ 1 && opCoef w ≤ (if opFlags w = 1 then 15 else 63)
  | 8 => dest && b0 && opCoef w < coefs && f0
  | _ => false

/-- The delay lines of a program: base and length. -/
def delayLines (p : AudioProg) : List (Nat × Nat) :=
  (p.ops.filter fun w => opCode w = 6).map fun w => (p.coefs.getD (opCoef w + 1) 0, p.coefs.getD (opCoef w) 0)

/-- R357: each line of 1 to 65 536 words lies in the memory, and no two overlap. -/
def delaysOk (p : AudioProg) : Bool :=
  let ls := enumFrom 0 (delayLines p)
  ls.all fun a =>
    1 ≤ a.2.2 && a.2.2 ≤ 65536 && a.2.1 + a.2.2 ≤ 262144 &&
      ls.all fun b => a.1 = b.1 || a.2.1 + a.2.2 ≤ b.2.1 || b.2.1 + b.2.2 ≤ a.2.1

/-- A TDM_CONFIG word (R344). -/
def tdmOk (w : Nat) : Bool := bits w 23 16 = 0 && bits w 25 24 ≠ 3 && (!bit w 30 || bits w 15 8 = 0)

/-- The 0x030B check. -/
def audioOk (s : State) (img : Bytes) (l : Last) : Bool :=
  match l.audio with
  | none => true
  | some p =>
    let b := sect img 0x0A
    let n := u16 b 0
    let m := u16 b 2
    let used := 32 + 8 * n + 4 * m
    32 ≤ b.length && 1 ≤ n && n ≤ 4096 && m ≤ 4096 && zeros b 4 4 && zeros b 24 8 && b.length = (used + 7) / 8 * 8 &&
      zeros b used (b.length - used) && p.tdm.all tdmOk && p.ops.all (audioOpOk s m) && delaysOk p

/-! ### 0x030C BINDING (R134, R135, R138, R140, R330) -/

/-- One layer-slot binding (Table 5-12). -/
def bindingOk (l : Last) (r : Bytes) : Bool :=
  let b := bindingRec r
  match planOf l b.out with
  | none => false
  | some p =>
    let wall := bit p.flags 1
    b.layer ≤ 15 && l.assign.slices.any (fun x => x.1 = b.slice) && u8 r 3 ≤ 1 && (!b.static || wall) && u8 r 8 ≤ 4 &&
      (u8 r 8 = 0 || !wall) && zeros r 9 7 && zeros r (16 + 8 * u8 r 8) (32 - 8 * u8 r 8) &&
      b.rects.all fun (x0, y0, x1, y1) => x0 < x1 && x1 ≤ p.hActive && y0 < y1 && y1 ≤ p.vActive

/-- Section 0x05 (R134). -/
def layerBindingsOk (img : Bytes) (l : Last) : Bool :=
  let b := sect img 0x05
  !hasSect img 0x05 ||
    (8 ≤ b.length && zeros b 2 6 && b.length = 8 + 48 * u16 b 0 &&
      rising (l.bindings.map fun x => x.out * 256 + x.layer) && (records b 8 48 (u16 b 0)).all (bindingOk l))

/-- Whether item k (from 1) is a requester's item of a resource; 0 names none. -/
def itemIs (l : Last) (k requester resource : Nat) : Bool :=
  k = 0 ||
    match l.items[k - 1]? with
    | some i => i.requester = requester && i.resource = resource
    | none => false

/-- Section 0x06 (R135). -/
def contextsOk (img : Bytes) (l : Last) : Bool :=
  let b := sect img 0x06
  !hasSect img 0x06 ||
    (8 ≤ b.length && zeros b 1 7 && b.length = 8 + 16 * u8 b 0 && rising (l.ctxs.map fun c => c.ctx) &&
      (rangeFrom 0 (u8 b 0)).all (fun i => zeros b (9 + 16 * i) 3 && zeros b (20 + 16 * i) 4) &&
      l.ctxs.all fun c =>
        c.ctx ≤ 33 && (c.ctx ≠ 32 || c.pbKiB = 16384) && itemIs l c.budgetItem (0x20 + c.ctx) 1 &&
          itemIs l c.dramItem (0x20 + c.ctx) 0)

/-- The bytes that an enabled haptic channel reserves at least (R330). -/
def hapticNeed (code : Nat) : Nat := if code = 1 then 1600 else if code = 2 then 1602 else 1920

/-- Section 0x09 (R138, R330). -/
def hapticSectionOk (img : Bytes) : Bool :=
  let b := sect img 0x09
  !hasSect img 0x09 ||
    (b.length = 64 && (rangeFrom 0 8).all fun i =>
      let r := sub b (8 * i) 8
      u8 r 0 = i && u8 r 1 ≤ 1 && zeros r 2 2 && (if u8 r 1 = 0 then u32 r 4 = 0 else hapticNeed (u8 img 17) ≤ u32 r 4))

/-- Section 0x0B (R140). -/
def checkPlansOk (img : Bytes) (l : Last) : Bool :=
  let b := sect img 0x0B
  !hasSect img 0x0B ||
    (8 ≤ b.length && zeros b 2 6 && b.length = 8 + 32 * u16 b 0 &&
      (rangeFrom 0 (u16 b 0)).all (fun i =>
        zeros b (11 + 32 * i) 1 && zeros b (14 + 32 * i) 2 && zeros b (32 + 32 * i) 8) &&
      l.checks.all fun c =>
        c.ch ≤ 15 && algorithmOk c.ch c.algorithm && c.target ≤ 1 && c.item ≠ 0 && itemIs l c.item 0x50 0 &&
          c.start < 2 ^ 40 && 1 ≤ c.length)

/-- The 0x030C check. -/
def bindingsOk (img : Bytes) (l : Last) : Bool :=
  layerBindingsOk img l && contextsOk img l && hapticSectionOk img && checkPlansOk img l

/-- Stage 3: 0, or the code of the first check that fails (Table 5-18). -/
def stage3 (s : State) (img : Bytes) (l : Last) : Nat :=
  firstFail
    [(0x0301, sectionFormatOk img), (0x0302, outputPlansOk img), (0x0303, itemsOk img), (0x0304, rowTableOk img l),
     (0x0305, latchPositionsOk l), (0x0306, dramWindowsOk l), (0x0307, ceilingsOk l), (0x0308, gpuWindowsOk l),
     (0x0309, touchOk img l), (0x030A, freqChangesOk l), (0x030B, audioOk s img l), (0x030C, bindingsOk img l)]

/-! ### Section 0x0C (R141, R142, R408) -/

/-- The largest instance of a peripheral class (Table 5-17); none for a reserved class. -/
def periphTop (cls : Nat) : Option Nat :=
  match cls with
  | 0x01 => some 7
  | 0x02 => some 1
  | 0x03 => some 7
  | 0x04 => some 7
  | 0x05 => some 3
  | 0x06 => some 63
  | 0x07 => some 15
  | 0x08 => some 0
  | 0x09 => some 1
  | 0x0A => some 1
  | 0x0B => some 0
  | 0x0C => some 0
  | _ => none

/-- One peripheral record. -/
def periphOk (a : Assignment) (r : Bytes) : Bool :=
  let slice := u8 r 4
  let port := u8 r 3
  (match periphTop (u8 r 0) with
    | some top => u8 r 1 ≤ top
    | none => false) &&
    u8 r 2 ≤ 1 && (port ≤ 3 || port = 0xFF) && zeros r 5 3 &&
    (slice = 0xFF || a.slices.any fun x => x.1 = slice && x.2.1 = port)

/-- The slice records (R408). -/
def sliceRecsOk (a : Assignment) : Bool :=
  rising (a.slices.map fun x => x.1) && distinct (a.slices.map fun x => x.2.1 * 2 ^ 20 + x.2.2) &&
    a.slices.all (fun x => x.1 < 32 && x.2.1 < 4 && bit (a.portFlags.getD x.2.1 0) 0 && x.2.2 < 2 ^ 20) &&
    (rangeFrom 0 4).all fun p => (a.slices.filter fun x => x.2.1 = p).length ≤ 8

/-- Section 0x0C without its countersignature's value (R141, R142, R408). -/
def assignmentOk (a : Assignment) : Bool :=
  let b := a.raw
  let ns := u8 b 4
  let np := u16 b 6
  let nm := u16 b 8
  16 ≤ b.length && b.length = 16 + 8 * ns + 8 * np + 8 * nm + 96 && ns ≤ 32 && zeros b 5 1 && zeros b 12 4 &&
    a.portFlags.all (fun f => f < 4) &&
    (records b 16 8 ns).all (fun r => zeros r 2 2) && sliceRecsOk a &&
    rising (a.periphs.map fun p => p.cls * 256 + p.inst) && (records b (16 + 8 * ns) 8 np).all (periphOk a) &&
    (records b (16 + 8 * ns + 8 * np) 8 nm).all fun r => u16 r 0 ≤ u16 r 2 && u8 r 4 < 128 && zeros r 5 3

end Sys2Proof.Machine
end

