-- ==== Sys2Proof/Machine/Schedule.lean ====
section
/-! DEFINITION. The execution of the active last's rows (R91, R97 to R99) and the output positions of R73. -/

namespace Sys2Proof.Machine

/-! ### Row events -/

/-- The cycle position of a frame (R97): that of the present frame, advanced by the frames since. -/
def cycleAt (s : State) (l : Last) (f : Nat) : Nat := (s.lasts.cycle + frameDiff f s.lasts.cycleFrame) % l.cycles

/-- The events of a row (R130). -/
def rowEvents (l : Last) (c line : Nat) : List RowEvent :=
  match l.rows.find? fun r => r.cycle = c && r.line = line with
  | some r => r.events
  | none => []

/-- Whether the executor runs: MGMT is powered, TIME is in service, and COMB is not lost as a pair (R9, R16, R394). -/
def executorOn (s : State) : Bool := !s.mem.pairLost && timebaseOn s

/-- The number of the present row. -/
def rowNow (s : State) : Nat := rrpNum ⟨s.now.frame, s.now.line, 0⟩

/-- How many events of the present row have been passed. -/
def eventsPassed (s : State) : Nat :=
  match s.lasts.row with
  | some (r, n) => if r = rowNow s then n else 0
  | none => 0

/-- The place in the present row of an event of a kind, target and argument that the active last issues now (R98): events of one
row issue in their stored order, and each once. -/
def eventIndex (s : State) (kind target arg : Nat) : Option Nat :=
  (activeLast s).bind fun l =>
    if executorOn s then
      ((enumFrom 0 (rowEvents l (cycleAt s l s.now.frame) s.now.line)).find? fun e =>
        eventsPassed s ≤ e.1 && e.2.kind = kind && e.2.target = target && e.2.arg = arg && e.2.phase = s.now.phase).map
          fun e => e.1
    else none

/-- Whether the active last issues such an event now. -/
def eventDue (s : State) (kind target arg : Nat) : Bool := (eventIndex s kind target arg).isSome

/-- The events of the present row up to one of them are passed. -/
def passEvent (s : State) (i : Nat) : State := { s with lasts := { s.lasts with row := some (rowNow s, i + 1) } }

/-- The domain and the region of DISPn (Tables 1-6 and 17-3). -/
def dispDomain (n : Nat) : Nat := 4 + n
def outRegion (n : Nat) : Region := if h : n < 8 then .out ⟨n, h⟩ else .spare

/-- The region of channel group g. -/
def groupRegion (g : Nat) : Region := if h : g < 4 then .grp ⟨g, h⟩ else .grp 0

/-- Whether the target of a row event may be reached: its domain is on and its region is not isolated (R99). -/
def reachable (s : State) (kind target : Nat) : Bool :=
  match kind with
  | 1 => domainOn s (dispDomain target) && !isolatedRegion s (outRegion target)
  | 2 => domainOn s 12 && !isolatedRegion s .gpu
  | 3 | 5 => domainOn s 16 && (rangeFrom 0 4).any fun g => !isolatedRegion s (groupRegion g)
  | 4 => domainOn s 1 && s.dieLink && !isolatedRegion s .field
  | 6 => domainOn s 2 && !isolatedRegion s .mgmt
  | _ => true

/-- A row event: nothing where the active last issues none; skipped and counted where its target is off (R99); else f. -/
def rowEvent (s : State) (kind target arg : Nat) (f : State → State) : State :=
  match eventIndex s kind target arg with
  | none => s
  | some i =>
    let s := passEvent s i
    if reachable s kind target then f s else bump s 0x221A 0

/-! ### Positions of outputs (R73) -/

/-- The position of output line k (counted from the start of reference frame f, perhaps before it) of a plan. -/
def lineRrp (s : State) (p : OutPlan) (f : Nat) (k : Int) : Rrp :=
  let x := lineStart (lrefOf s) p k
  let b : Rrp := ⟨f, 0, 0⟩
  if 0 ≤ x then rrpAdd s.tb.rate b x.toNat else rrpSub s.tb.rate b (-x).toNat

/-- The start of output frame j of reference frame f. -/
def frameStart (s : State) (p : OutPlan) (f j : Nat) : Rrp := lineRrp s p f (j * p.vTotal : Nat)

/-- The LATCH position of output frame j of reference frame f (R100). -/
def latchRrp (s : State) (p : OutPlan) (f j : Nat) : Rrp := lineRrp s p f ((j * p.vTotal : Nat) - 32)

/-- The start of the output frame that a LATCH at the present position with output frame j opens. -/
def openedFrame (s : State) (p : OutPlan) (j : Nat) : Rrp :=
  let f := s.now.frame
  let cands := [(f + 2 ^ 32 - 1) % 2 ^ 32, f, (f + 1) % 2 ^ 32]
  match cands.find? fun g => rrpNum (latchRrp s p g j) = rrpNum s.now with
  | some g => frameStart s p g j
  | none => frameStart s p ((f + 1) % 2 ^ 32) j

/-- Phase units of one output line, of one output frame, rounded up. -/
def lineTicks (s : State) (p : OutPlan) : Nat := (frameTicks s.tb.rate + p.mult * p.vTotal - 1) / (p.mult * p.vTotal)
def outFrameTicks (s : State) (p : OutPlan) : Nat := (frameTicks s.tb.rate + p.mult - 1) / p.mult

/-- The first LATCH of output n in the active last at or after a position x; none where it has none. -/
def nextLatch (s : State) (n : Nat) (x : Rrp) : Option Rrp :=
  (activeLast s).bind fun l =>
    let ts := ((eventsAt l).filter fun e => e.2.kind = 1 && e.2.target = n).map fun e => e.1
    let here := cycleAt s l x.frame * lastFrame l + rrpPos x
    match ts.find? fun t => here ≤ t with
    | some t => some (rrpAdd s.tb.rate x (t - here))
    | none => ts.head?.map fun t => rrpAdd s.tb.rate x (t + lastCycle l - here)

/-- The LATCH at which a flip with an arrival takes effect (R164): L1 where it arrives at least 2 RL before it, else L2. -/
def effectLatch (s : State) (n : Nat) (arrival : Rrp) : Option Rrp :=
  (nextLatch s n arrival).bind fun l1 =>
    if rlTicks 2 ≤ elapsed s.tb.rate arrival l1 then some l1
    else nextLatch s n (rrpAdd s.tb.rate l1 1)

/-- Whether an event that lies at a latch counts as at least n RL before the latch at the present position. -/
def before (s : State) (x : Rrp) (rl : Nat) : Bool :=
  rlTicks rl ≤ elapsed s.tb.rate x s.now || (rl = 0 && rrpLe x s.now)

end Sys2Proof.Machine
end

