-- ==== Sys2Proof/Machine/Atlas.lean ====
section
/-! DEFINITION. The glyph atlas (R185 to R192, R199): its layout, its checks, and where its cells and surfaces lie. -/

namespace Sys2Proof.Machine

/-! ### Layout (Tables 7-1 to 7-3, 7-5, 7-7) -/

/-- The outputs of an atlas, in rising order. -/
def atlasOuts (b : Bytes) : List Nat := maskBits 8 (u8 b 14)

/-- Where the glyph directory and the output tables begin. -/
def glyphDir (b : Bytes) : Nat := 64 + 1024 * u8 b 12
def tablesAt (b : Bytes) : Nat := glyphDir b + 16 * u16 b 6

/-- The length of the output table at an offset. -/
def tableLen (b : Bytes) (o : Nat) : Nat := 64 + (if bit (u8 b (o + 1)) 0 then 2048 else 0) + 32 * u16 b (o + 2)

/-- The offsets of n output tables from o on. -/
def tableOffs (b : Bytes) : Nat → Nat → List Nat
  | _, 0 => []
  | o, n + 1 => o :: tableOffs b (o + tableLen b o) n

/-- The offset of each output table, and where the tables end. -/
def atlasTables (b : Bytes) : List Nat := tableOffs b (tablesAt b) (atlasOuts b).length
def tablesEnd (b : Bytes) : Nat :=
  match (atlasTables b).getLast? with
  | some o => o + tableLen b o
  | none => tablesAt b

/-- A glyph (Table 7-2). -/
def glyphOf (b : Bytes) (i : Nat) : Glyph :=
  let o := glyphDir b + 16 * i
  let w := u16 b o
  let h := u16 b (o + 2)
  ⟨w, h, u8 b (o + 4), sub b (u32 b (o + 8)) (w * h)⟩

/-- A cell (Table 7-5). -/
def cellOf (r : Bytes) : Cell :=
  { flags := u8 r 0, kind := u8 r 1, shift := u8 r 2, bindSub := u8 r 3, bindId := u16 r 4, timeout := u16 r 6,
    x := u16 r 8, y := u16 r 10, glyphs := [u16 r 12, u16 r 14, u16 r 16, u16 r 18], unknown := u16 r 20,
    blink := u16 r 22 }

/-- A surface record (Table 7-7). -/
def surfaceOf (r : Bytes) : SurfaceCfg :=
  { x := u16 r 0, y := u16 r 2, width := u16 r 4, height := u16 r 6, fmt := u8 r 8, slice := u8 r 9,
    standGlyph := u16 r 10, standColour := u32 r 12, maxAge := u16 r 16 }

/-- The cell records of the table at an offset. -/
def cellRecs (b : Bytes) (o : Nat) : List Bytes :=
  records b (o + 64 + if bit (u8 b (o + 1)) 0 then 2048 else 0) 32 (u16 b (o + 2))

/-- An output table. -/
def atlasOutOf (b : Bytes) (o : Nat) : AtlasOut :=
  { out := u8 b o, paired := bit (u8 b (o + 1)) 1, healthyPin := u8 b (o + 4),
    gamma := if bit (u8 b (o + 1)) 0 then some (sub b (o + 64) 2048) else none,
    surfaces := (records b (o + 8) 24 (u8 b (o + 5))).map surfaceOf, cells := (cellRecs b o).map cellOf }

/-- The atlas that a byte string holds. -/
def parseAtlas (b : Bytes) : Atlas :=
  { blinkHalf := u8 b 13, palettes := records b 64 1024 (u8 b 12), glyphs := (rangeFrom 0 (u16 b 6)).map (glyphOf b),
    outs := (atlasTables b).map (atlasOutOf b) }

/-! ### Checks (Table 7-4) -/

/-- 0x0705 FORMAT: counts, reserved fields (those of the glyph directory apart) and the fit of the parts. -/
def atlasFormatOk (b : Bytes) : Bool :=
  1 ≤ u16 b 6 && u16 b 6 ≤ 2048 && 1 ≤ u8 b 12 && u8 b 12 ≤ 16 && 1 ≤ u8 b 13 && u8 b 13 ≤ 60 && zeros b 15 1 &&
    zeros b 20 44 && tablesEnd b ≤ b.length &&
    ((atlasTables b).zip (atlasOuts b)).all fun e =>
      let o := e.1
      u8 b o = e.2 && u8 b (o + 1) < 4 && u16 b (o + 2) ≤ 256 && u8 b (o + 5) ≤ 2 && zeros b (o + 6) 2 && zeros b (o + 56) 8 &&
        (if bit (u8 b (o + 1)) 1 then u8 b (o + 4) ≤ 7 else u8 b (o + 4) = 0xFF) &&
        zeros b (o + 8 + 24 * u8 b (o + 5)) (48 - 24 * u8 b (o + 5)) &&
        (records b (o + 8) 24 (u8 b (o + 5))).all (fun r => zeros r 18 6) &&
        (cellRecs b o).all (fun r => u8 r 0 < 128 && zeros r 24 8)

/-- 0x0706 PALETTE_ALPHA (R186). -/
def atlasPalettesOk (b : Bytes) : Bool :=
  (rangeFrom 0 (256 * u8 b 12)).all fun i => u8 b (64 + 4 * i + 3) = 0 || u8 b (64 + 4 * i + 3) = 255

/-- 0x0707 GLYPH. -/
def atlasGlyphsOk (b : Bytes) : Bool :=
  (rangeFrom 0 (u16 b 6)).all fun i =>
    let o := glyphDir b + 16 * i
    let w := u16 b o
    let h := u16 b (o + 2)
    1 ≤ w && w ≤ 1024 && 1 ≤ h && h ≤ 512 && u8 b (o + 4) < u8 b 12 && zeros b (o + 5) 3 && zeros b (o + 12) 4 &&
      u32 b (o + 8) + w * h ≤ b.length

/-- How many of GLYPH_0 to GLYPH_3 a cell uses (R190). -/
def glyphsUsed (kind : Nat) : Nat := if kind = 0 then 1 else if kind = 1 then 2 else 4

/-- Whether a cell can be unknown (R190, R195). -/
def canBeUnknown (c : Cell) : Bool := c.kind = 1 || (c.kind = 2 && c.timeout ≠ 0)

/-- Whether a cell uses GLYPH_BLINK. -/
def blinks (c : Cell) : Bool := bits c.flags 6 2 ≠ 0

/-- The glyphs that a cell uses. -/
def cellGlyphs (c : Cell) : List Nat :=
  c.glyphs.take (glyphsUsed c.kind) ++ (if canBeUnknown c then [c.unknown] else []) ++ (if blinks c then [c.blink] else [])

/-- The size of a cell: that of its glyphs. -/
def cellSize (gs : List Glyph) (c : Cell) : Nat × Nat :=
  match gs[c.glyphs.headD 0]? with
  | some g => (g.width, g.height)
  | none => (0, 0)

/-- The entries that a cell may be bound to (R192): of a Boolean or integer type up to 32 bits, readable. -/
def bindable (ix sub : Nat) : Bool :=
  match rowOf ix sub with
  | some r =>
    r.acc ≠ .wo && (r.ty = .bool || r.ty = .i8 || r.ty = .i16 || r.ty = .i32 || r.ty = .u8 || r.ty = .u16 || r.ty = .u32)
  | none => false

/-- Two rectangles (x, y, width, height) have a pixel in common. -/
def overlap (a b : Nat × Nat × Nat × Nat) : Bool :=
  a.1 < b.1 + b.2.2.1 && b.1 < a.1 + a.2.2.1 && a.2.1 < b.2.1 + b.2.2.2 && b.2.1 < a.2.1 + a.2.2.2

/-- No two rectangles of a list overlap. -/
def apart : List (Nat × Nat × Nat × Nat) → Bool
  | [] => true
  | r :: rs => rs.all (fun q => !overlap r q) && apart rs

/-- One cell record (R190 to R192). -/
def cellFormatOk (gs : List Glyph) (r : Bytes) : Bool :=
  let c := cellOf r
  let used := cellGlyphs c
  c.kind ≤ 3 && (!bit c.flags 1 || c.kind = 1) && (if c.kind ≥ 2 then c.shift ≤ 31 else c.shift = 0) &&
    (c.kind = 2 || c.bindSub = 0) &&
    (match c.kind with
      | 0 => c.bindId = 0
      | 1 => c.bindId ≤ 15
      | 2 => bindable c.bindId c.bindSub
      | _ => c.bindId ≤ 255) &&
    (c.kind = 2 || c.timeout = 0) &&
    (c.glyphs.drop (glyphsUsed c.kind)).all (fun g => g = 0) && (canBeUnknown c || c.unknown = 0) && (blinks c || c.blink = 0) &&
    used.all (fun g => match gs[g]? with
      | some q => (q.width, q.height) = cellSize gs c
      | none => false)

/-- The rectangle of a cell. -/
def cellRect (gs : List Glyph) (c : Cell) : Nat × Nat × Nat × Nat := (c.x, c.y, (cellSize gs c).1, (cellSize gs c).2)

/-- 0x0708 CELL. -/
def atlasCellsOk (b : Bytes) : Bool :=
  let gs := (rangeFrom 0 (u16 b 6)).map (glyphOf b)
  (atlasTables b).all fun o =>
    (cellRecs b o).all (cellFormatOk gs) &&
      apart ((((cellRecs b o).map cellOf).filter fun c => bit c.flags 0).map (cellRect gs))

/-- 0x0709 SURFACE. -/
def atlasSurfacesOk (b : Bytes) : Bool :=
  let gs := (rangeFrom 0 (u16 b 6)).map (glyphOf b)
  (atlasTables b).all fun o =>
    let rs := records b (o + 8) 24 (u8 b (o + 5))
    rs.all (fun r =>
      let c := surfaceOf r
      1 ≤ c.width && c.width ≤ 3840 && 1 ≤ c.height && c.height ≤ 2160 && (c.fmt = 1 || c.fmt = 3) && c.slice ≤ 31 &&
        c.standColour / 2 ^ 24 = 255 &&
        match gs[c.standGlyph]? with
        | some g => g.width ≤ c.width && g.height ≤ c.height
        | none => false) &&
      apart (rs.map fun r => let c := surfaceOf r; (c.x, c.y, c.width, c.height))

/-- 0x070A GAMMA. -/
def atlasGammaOk (b : Bytes) : Bool :=
  (atlasTables b).all fun o => !bit (u8 b (o + 1)) 0 || (rangeFrom 0 1024).all fun i => u16 b (o + 64 + 2 * i) ≤ 4095

/-- The checks of an atlas: 0, or the code of the first that fails (R189). -/
def atlasCheck (b : Bytes) : Nat :=
  firstFail
    [(0x0701, b.take 4 = ascii "GLA1"), (0x0702, sub b 4 2 = [1, 0]),
     (0x0703, 64 ≤ b.length && u32 b 8 = b.length && b.length ≤ 2097152), (0x0704, u32 b 16 = crcOf crc32c (b.drop 64)),
     (0x0705, atlasFormatOk b), (0x0706, atlasPalettesOk b), (0x0707, atlasGlyphsOk b), (0x0708, atlasCellsOk b),
     (0x0709, atlasSurfacesOk b), (0x070A, atlasGammaOk b)]

/-! ### The atlas in service -/

/-- The atlas from which layer P is drawn: none while none is placed or a wipe has emptied layer P (R397). -/
def atlasNow (s : State) : Option Atlas := s.sentinel.atlas

/-- The output table of output n. -/
def atlasOut (s : State) (n : Nat) : Option AtlasOut := (atlasNow s).bind fun a => a.outs.find? fun o => o.out = n

/-- Whether a rectangle lies wholly inside the active area of a plan (R197). -/
def insideActive (p : OutPlan) (r : Nat × Nat × Nat × Nat) : Bool := r.1 + r.2.2.1 ≤ p.hActive && r.2.1 + r.2.2.2 ≤ p.vActive

/-- Whether a cell is shown on output n: enabled, and inside the active area (R197). -/
def cellShown (s : State) (p : OutPlan) (c : Cell) : Bool :=
  match atlasNow s with
  | some a => bit c.flags 0 && insideActive p (cellRect a.glyphs c)
  | none => false

/-- Whether a surface is shown. -/
def surfaceShown (p : OutPlan) (c : SurfaceCfg) : Bool := insideActive p (c.x, c.y, c.width, c.height)

/-- Cells and surfaces shown on output n (0x3n30). -/
def regionsShown (s : State) (n : Nat) : Nat :=
  match activePlan s n, atlasOut s n with
  | some p, some t => (t.cells.filter (cellShown s p)).length + (t.surfaces.filter (surfaceShown p)).length
  | _, _ => 0

/-- Whether output n is paired. -/
def pairedOut (s : State) (n : Nat) : Bool :=
  match atlasOut s n with
  | some t => t.paired
  | none => false

/-- HEALTHY_N of output n driven low or released (R208). -/
def setHealthy (s : State) (n : Nat) (low : Bool) : State :=
  let o := outAt s n
  if o.healthyLow = low then s
  else emit (updOut s n fun o => { o with healthyLow := low }) (.fioOut o.healthyPin !low)

/-- The FIO bank goes to its safe values, or leaves them (R11, R461): each open-drain output takes FIO Output Safe Value, and one
named as a HEALTHY_PIN is released, until its output may drive it low again (R208). -/
def fioDrive (s : State) (safe : Bool) : State :=
  if s.power.fioSafe = safe then s
  else
    let s := updPower s fun p => { p with fioSafe := safe }
    let named := s.outs.toList.map fun o => o.healthyPin
    let s := if safe then
        each ((rangeFrom 0 8).filter fun i => !named.contains i) s fun s i => emit s (.fioOut i (bit (entryNum s 0x210B 0) i))
      else s
    each (rangeFrom 0 8) s fun s n =>
      setHealthy s n (!safe && (outAt s n).pair = .asserted && domainOn s (4 + n))

/-- Whether output n's gamma is locked (R188). -/
def gammaLocked (s : State) (n : Nat) : Bool :=
  match atlasOut s n with
  | some t => t.gamma.isSome
  | none => false

/-! ### Layer P (R183, R186, R199 to R204) -/

/-- The palette pixel of a glyph at a column and line. -/
def glyphPx (a : Atlas) (g x y : Nat) : Px :=
  match a.glyphs[g]? with
  | some q => argbPx (u32 (a.palettes.getD q.palette []) (4 * u8 q.data (y * q.width + x)))
  | none => blackPx

/-- The glyph that a cell shows: that of its state, or GLYPH_BLINK in the off half of a blink (R195, R196). -/
def cellGlyph (c : Cell) (r : CellRun) : Nat :=
  if r.blinkOff then c.blink else if r.state = 4 then c.unknown else c.glyphs.getD r.state 0

/-- A pixel of layer P counts where its alpha is 4 095 (R183). -/
def sealedPx (p : Px) : Option Px := if p.a = 4095 then some p else none

/-- A cell's pixel at an output position. -/
def cellPx (a : Atlas) (c : Cell) (r : CellRun) (x y : Nat) : Option Px :=
  let (w, h) := cellSize a.glyphs c
  if c.x ≤ x && x < c.x + w && c.y ≤ y && y < c.y + h then sealedPx (glyphPx a (cellGlyph c r) (x - c.x) (y - c.y)) else none

/-- Whether data of a layer (16 for layer P) at a pixel has missed band b's deadline. -/
def dataMissing (o : Output) (b layer x y : Nat) : Bool :=
  o.missing.any fun m => m.1 = b && m.2.1 = layer && m.2.2.1 = y && m.2.2.2.1 ≤ x && x < m.2.2.2.2

/-- The pixel of a surface's stand-in. -/
def standInPx (a : Atlas) (c : SurfaceCfg) (x y : Nat) : Px :=
  let inGlyph := match a.glyphs[c.standGlyph]? with
    | some g => decide (x < g.width ∧ y < g.height)
    | none => false
  let p := glyphPx a c.standGlyph x y
  if inGlyph && p.a = 4095 then p else argbPx c.standColour

/-- A pixel of a shown buffer: ARGB8888 with A taken as 0xFF, or RGB565. -/
def surfaceBufPx (c : SurfaceCfg) (buf : Bytes) (x y : Nat) : Px :=
  let i := y * c.width + x
  if c.fmt = 3 then sourcePx 3 (u16 buf (2 * i)) 0 else argbPx (u32 buf (4 * i) % 2 ^ 24 + 0xFF000000)

/-- A surface's pixel at an output position. -/
def surfacePx (a : Atlas) (c : SurfaceCfg) (v : Surface) (late : Bool) (x y : Nat) : Option Px :=
  if c.x ≤ x && x < c.x + c.width && c.y ≤ y && y < c.y + c.height then
    let x := x - c.x
    let y := y - c.y
    if v.standIn ≠ 0 then some (standInPx a c x y)
    else if late then some (argbPx c.standColour)
    else match v.shown with
      | some which => some (surfaceBufPx c (vecAt v.bufs (b2n which) []) x y)
      | none => some (standInPx a c x y)
  else none

/-- The later of two layer-P pixels where it is sealed. -/
def overPx (p q : Option Px) : Option Px := if q.isSome then q else p

/-- Layer P at a pixel of band b: surfaces 0 and 1, then cells in rising order; none where it is not sealed (R183). -/
def protectedPx (s : State) (n : Nat) (p : OutPlan) (b x y : Nat) : Option Px :=
  if !(outAt s n).layerP then none else
  match atlasNow s, atlasOut s n with
  | some a, some t =>
    let o := outAt s n
    let base := (enumFrom 0 t.surfaces).foldl (fun acc e =>
      if surfaceShown p e.2 then
        overPx acc (surfacePx a e.2 (vecAt o.surfaces e.1 resetSurface) (dataMissing o b 16 x y) x y)
      else acc) none
    (t.cells.zip o.cells).foldl (fun acc e => if cellShown s p e.1 then overPx acc (cellPx a e.1 e.2 x y) else acc) base
  | _, _ => none

end Sys2Proof.Machine
end

