-- ==== Sys2Proof/Machine/Flip.lean ====
section
/-! DEFINITION. Flip records and their completion, layer contents, release fences and the flip ring (R148 to R150, R153, R160
to R171, R415). -/

namespace Sys2Proof.Machine

/-! ### Records -/

/-- A layer descriptor (Table 6-2). -/
def descOf (r : Bytes) : LayerDesc :=
  { layer := u8 r 0, fmt := u8 r 1, flags := u8 r 2, alpha := u8 r 3, csc := u8 r 4, plane0 := u64 r 8, plane1 := u64 r 16,
    pitch0 := u32 r 24, pitch1 := u32 r 28, srcX := u16 r 32, srcY := u16 r 34, width := u16 r 36, height := u16 r 38,
    dstX := u16 r 40, dstY := u16 r 42, fence := u64 r 48 }

/-- Whether a descriptor shows anything. -/
def enabled (d : LayerDesc) : Bool := bit d.flags 0

/-- The units of 32 bytes of the record with a header. -/
def recordUnits (h : Bytes) : Nat := 1 + 2 * u8 h 2

/-- A flip record of slice k (Tables 6-1 and 6-2). -/
def flipRecOf (k : Nat) (b : Bytes) (arrival : Rrp) : FlipRec :=
  { slice := k, seq := u32 b 4, offscreen := u8 b 0 = 1, out := u8 b 1, descs := (records b 32 64 (u8 b 2)).map descOf,
    targetAddr := u64 b 8, targetPitch := u32 b 16, targetWidth := u16 b 20, targetHeight := u16 b 22,
    targetFmt := u8 b 24, arrival := arrival, deferred := false, static := false }

/-- The FORMAT rules of one descriptor of 64 bytes (Table 6-3, REASON 1). -/
def descFormatOk (r : Bytes) : Bool :=
  let d := descOf r
  d.layer ≤ 15 && d.flags < 4 && zeros r 5 3 && zeros r 44 4 && zeros r 56 8 && d.fence % 8 = 0 &&
    (if enabled d then
      1 ≤ d.fmt && d.fmt ≤ 6 && (d.csc = 0 || d.csc = 15 || (d.csc ≤ 3 && isYuv d.fmt)) && d.plane0 % 256 = 0 &&
        d.pitch0 % 64 = 0 && 1 ≤ d.width && 1 ≤ d.height &&
        (if isYuv d.fmt then d.plane1 % 256 = 0 && d.pitch1 % 64 = 0 else d.plane1 = 0 && d.pitch1 = 0)
    else zeros r 1 47)

/-- REASON 1 FORMAT. -/
def recordFormatOk (b : Bytes) : Bool :=
  let n := u8 b 2
  let rs := records b 32 64 n
  u8 b 0 ≤ 1 && (if u8 b 0 = 1 then u8 b 1 = 0xFF else u8 b 1 ≤ 7) && 1 ≤ n && n ≤ 16 && zeros b 3 1 && zeros b 25 7 &&
    (if u8 b 0 = 1 then
      u64 b 8 % 256 = 0 && u32 b 16 % 64 = 0 && 1 ≤ u16 b 20 && u16 b 20 ≤ 4096 && 1 ≤ u16 b 22 && u16 b 22 ≤ 4096 &&
        (u8 b 24 = 1 || u8 b 24 = 2)
    else zeros b 8 17) &&
    rs.all descFormatOk && distinct (rs.map fun r => u8 r 0)

/-- The binding of a layer of output n in a last. -/
def bindingOf (l : Last) (n layer : Nat) : Option Binding := l.bindings.find? fun b => b.out = n && b.layer = layer

/-- Whether a layer of output n is bound to slice k in the active last. -/
def boundTo (s : State) (n layer k : Nat) : Bool :=
  match (activeLast s).bind fun l => bindingOf l n layer with
  | some b => b.slice = k
  | none => false

/-- REASON 3 GEOMETRY for one descriptor on an area. -/
def geometryOk (w h : Nat) (d : LayerDesc) : Bool :=
  !enabled d ||
    (d.dstX + d.width ≤ w && d.dstY + d.height ≤ h && (d.srcX + d.width) * bytesPer d.fmt ≤ d.pitch0 &&
      (!isYuv d.fmt ||
        ((d.srcX + d.width) / 2 * chromaBytes d.fmt ≤ d.pitch1 && d.srcX % 2 = 0 && d.srcY % 2 = 0 && d.width % 2 = 0 &&
          d.height % 2 = 0)))

/-- The first and last byte of each plane of a descriptor. -/
def planeEnds (d : LayerDesc) : List Nat :=
  if !enabled d then []
  else
    let lastLine := d.srcY + d.height - 1
    [d.plane0, d.plane0 + lastLine * d.pitch0 + (d.srcX + d.width) * bytesPer d.fmt - 1] ++
      (if isYuv d.fmt then
        [d.plane1, d.plane1 + lastLine / 2 * d.pitch1 + (d.srcX + d.width) / 2 * chromaBytes d.fmt - 1] else [])

/-- REASON 4 ACCESS. -/
def recordAccessOk (s : State) (r : FlipRec) : Bool :=
  (r.descs.flatMap planeEnds).all (fun a => sliceMay s r.slice false a 1 false) &&
    (!r.offscreen ||
      (sliceMay s r.slice true r.targetAddr 1 false &&
        sliceMay s r.slice true
          (r.targetAddr + (r.targetHeight - 1) * r.targetPitch + r.targetWidth * 4 - 1) 1 false))

/-- Whether engine S is available: not isolated, composing no output, no takeover armed (R177, R228). An offscreen record while
SPARE is isolated is refused with SPARE_BUSY too (log entry 209). -/
def spareFree (s : State) : Bool :=
  s.spare.output.isNone && !isolatedRegion s .spare && s.outs.toList.all fun o => o.takeover ≠ .armed && o.spareFrom.isNone

/-- Whether the active last allots the writeback requester anything. -/
def writebackBudget (s : State) : Bool :=
  match activeLast s with
  | some l => l.sets.any fun set => (set.zip l.items).any fun e => e.2.requester = 0x4A && e.2.resource = 0 && e.1 ≠ 0
  | none => false

/-- The display records of output n that have not completed. -/
def pendingOf (o : Output) : List FlipRec :=
  o.pending ++ (o.pass.elim [] fun q => q.records) ++ o.ready.elim [] fun q => q.records

/-- The REASON of the first check that fails, 0 if none does (R149, Table 6-3). A TARGET_PITCH below the bytes of a target line
fails GEOMETRY (log entry 208). -/
def flipReason (s : State) (b : Bytes) (r : FlipRec) : Nat :=
  let display := !r.offscreen
  let plan := activePlan s r.out
  let (w, h) := match plan with
    | some p => (p.hActive, p.vActive)
    | none => (0, 0)
  firstFail
    [(1, recordFormatOk b), (2, !display || r.descs.all fun d => boundTo s r.out d.layer r.slice),
     (3, if display then r.descs.all (geometryOk w h)
         else r.descs.all (geometryOk r.targetWidth r.targetHeight) && r.targetWidth * 4 ≤ r.targetPitch),
     (4, recordAccessOk s r), (5, !display || (plan.isSome && domainOn s (dispDomain r.out) && executorOn s)),
     (6, !display || (pendingOf (outAt s r.out)).length < 32), (7, display || writebackBudget s), (8, display || spareFree s)]

/-! ### Completions and fences (R166 to R169, R415) -/

/-- Whether slice k's completion queue has room. -/
def flipcRoom (s : State) (k : Nat) : Bool :=
  let size := 2 ^ (sreg s k 0x120 % 16)
  bit (sreg s k 0x120) 31 && ((sliceAt s k).flipcWrite + 1) % size ≠ sreg s k 0x128 % 65536

/-- A completion record written to the queue, which has room, and the flip vector raised. -/
def writeCompletion (s : State) (k : Nat) (rec_ : Bytes) : State :=
  let size := 2 ^ (sreg s k 0x120 % 16)
  let w := (sliceAt s k).flipcWrite
  let s := recordWrite s k (sreg s k 0x118 + w * 32) rec_ true
  raiseCause (updSlice s k fun q => { q with flipcWrite := (w + 1) % size }) k 1

/-- A completion posted, or kept in order until there is room. -/
def postCompletion (s : State) (k : Nat) (rec_ : Bytes) : State :=
  if (sliceAt s k).waiting.isEmpty && flipcRoom s k then writeCompletion s k rec_
  else updSlice s k fun q => { q with waiting := q.waiting ++ [rec_] }

/-- Waiting completions written while there is room; n bounds their number. -/
def drainCompletions (k : Nat) : Nat → State → State
  | 0, s => s
  | n + 1, s =>
    match (sliceAt s k).waiting with
    | [] => s
    | r :: rest =>
      if flipcRoom s k then
        drainCompletions k n (writeCompletion (updSlice s k fun q => { q with waiting := rest }) k r)
      else s

/-- A fence written (R168): SEQ and V, and the flip vector. -/
def writeFence (s : State) (k addr seq v : Nat) : State :=
  raiseCause (recordWrite s k addr (leBytes 8 (seq * 2 ^ 32 + v % 2 ^ 32)) true) k 1

/-- The fences of a record's descriptors that p selects, with V equal to the present frame (R169, R179). -/
def fencesNow (s : State) (r : FlipRec) (p : LayerDesc → Bool) : State :=
  each r.descs s fun s d =>
    if p d && d.fence ≠ 0 && d.fence % 8 = 0 then writeFence s r.slice d.fence r.seq s.now.frame else s

/-- A record completed (Table 6-7). Fences due at its completion are written (R169, R179): of every buffer where it was
never latched or was an offscreen record, else of the descriptors that empty their layer. -/
def completeFlip (s : State) (r : FlipRec) (status reason : Nat) (effect latch : Rrp) : State :=
  let rec_ := leBytes 4 r.seq ++ leBytes 1 status ++ leBytes 1 reason ++ leBytes 1 r.out ++ leBytes 1 0 ++
    leBytes 8 (rrpNum r.arrival) ++ leBytes 8 (rrpNum effect) ++ leBytes 8 (rrpNum latch)
  let s := fencesNow s r fun d => !(status = 0 || status = 1) || !enabled d
  postCompletion s r.slice rec_

/-- A record that never takes effect completed. -/
def dropFlip (s : State) (r : FlipRec) (status reason : Nat) : State := completeFlip s r status reason zeroRrp zeroRrp

/-! ### The static run (R160 to R162) -/

/-- The static run of a wall output in the active last: bound STATIC layers from the lowest bound layer up to the first not
so marked. -/
def staticRun (s : State) (n : Nat) : List Nat :=
  match activeLast s, activePlan s n with
  | some l, some p =>
    if bit p.flags 1 then
      ((l.bindings.filter fun b => b.out = n).takeWhile fun b => b.static).map fun b => b.layer
    else []
  | _, _ => []

/-- The base surfaces of output n (0x3n20). -/
def baseAddr (s : State) (n : Nat) (b : Bool) : Nat := entryNum s (0x3020 + 0x100 * n) (if b then 2 else 1)

/-- Whether the static run is composed through its base: both addresses are set (R161). -/
def flattened (s : State) (n : Nat) : Bool :=
  !(staticRun s n).isEmpty && baseAddr s n false ≠ 0 && baseAddr s n true ≠ 0

/-- Whether a record names a layer of a flattened static run. -/
def namesStatic (s : State) (r : FlipRec) : Bool :=
  flattened s r.out && r.descs.any fun d => (staticRun s r.out).contains d.layer

/-! ### Layer contents (R168, R170, R171) -/

/-- The frame in which the last active line of the present output frame of output n leaves the port. -/
def lastShownFrame (s : State) (n : Nat) : Nat :=
  let o := outAt s n
  match activePlan s n with
  | some p => (rrpAdd s.tb.rate o.frame (p.vActive * frameTicks s.tb.rate / (p.mult * p.vTotal) - 1)).frame
  | none => s.now.frame

/-- The release of what a layer holds (R168): a fence that waits for the recovery frame. -/
def releaseContent (s : State) (n : Nat) (c : Content) : State :=
  match c.by_ with
  | .flip =>
    if c.desc.fence = 0 then s
    else
      let v := (lastShownFrame s n + 1) % 2 ^ 32
      updOut s n fun o => { o with fences := o.fences ++ [⟨c.slice, c.desc.fence, c.seq, v⟩] }
  | _ => s

/-- What a layer of an output holds. -/
def layerOf (o : Output) (k : Nat) : Option Content := vecAt o.layers k none

/-- A layer given a content, or emptied, with its old content released. -/
def setLayer (s : State) (n k : Nat) (c : Option Content) : State :=
  let s := match layerOf (outAt s n) k with
    | some old => releaseContent s n old
    | none => s
  updOut s n fun o => { o with layers := vecMod o.layers k fun _ => c }

/-- What was built from the static run is gone: the base contributes nothing until a new pass completes, and a running or
finished pass begins again with a new snapshot (R161, R167, log entry 212). -/
def dropBase (s : State) (n : Nat) : State :=
  updOut s n fun o => { o with
    base := none, pass := none, ready := none, passAsked := true,
    pending := (o.ready.elim [] fun q => q.records) ++ (o.pass.elim [] fun q => q.records) ++ o.pending }

/-- Every layer of output n that p selects emptied. A base that shows one of them is gone with it. -/
def emptyLayers (s : State) (n : Nat) (p : Nat → Content → Bool) : State :=
  let gone := (rangeFrom 0 16).filter fun k => (layerOf (outAt s n) k).any (p k)
  let s := if gone.any fun k => flattened s n && (staticRun s n).contains k then dropBase s n else s
  each gone s fun s k => setLayer s n k none

/-- The pending display records of output n that p selects completed ABANDONED with a reason (R167). A pass that took one of them
into its snapshot begins again. -/
def abandonFlips (s : State) (n reason : Nat) (p : FlipRec → Bool) : State :=
  let o := outAt s n
  let gone := (pendingOf o).filter p
  let taken := fun (q : Option Pass) => q.any fun q => q.records.any p
  let back := fun (q : Option Pass) => if taken q then q.elim [] fun q => q.records else []
  let s := updOut s n fun o =>
    { o with pending := (back o.ready ++ back o.pass ++ o.pending).filter fun r => !p r,
             pass := if taken o.pass then none else o.pass, ready := if taken o.ready then none else o.ready,
             passAsked := o.passAsked || taken o.pass || taken o.ready }
  each gone s fun s r => dropFlip s r 4 reason

/-- The reasons of ABANDONED (Table 6-8). -/
def abSliceReset : Nat := 16
def abOutputStopped : Nat := 17
def abMode : Nat := 18
def abUnbound : Nat := 19

/-- A display or offscreen record of a slice has not completed. -/
def flipPending (s : State) (k : Nat) : Bool :=
  s.outs.toList.any (fun o => (pendingOf o).any fun r => r.slice = k) || s.spare.jobs.any fun r => r.slice = k

/-- The flips of a slice ended by its reset (R167): records abandoned, its layers emptied from the next latch. -/
def resetSliceFlips (s : State) (k : Nat) : State :=
  each (rangeFrom 0 8) s fun s n =>
    let s := abandonFlips s n abSliceReset fun r => r.slice = k
    let holds := (outAt s n).layers.toList.any fun c => match c with
      | some c => c.by_ = .flip && c.slice = k
      | none => false
    if holds then updOut s n fun o => { o with emptying := o.emptying ++ [k] } else s

/-- The content that an enabled descriptor of a record gives its layer. -/
def contentOf (r : FlipRec) (d : LayerDesc) (effect : Rrp) : Content := ⟨.flip, d, r.slice, r.seq, effect, none⟩

/-- A record applied at a latch that opens the frame that starts at effect (R150); a new flip of a layer that showed its
fallback colour after a blocked fetch clears that fault (Table 18-4). -/
def applyFlip (s : State) (n : Nat) (r : FlipRec) (effect : Rrp) : State :=
  let s := each r.descs s fun s d =>
    let wasBlocked := match layerOf (outAt s n) d.layer with
      | some c => c.blockedFrom.isSome
      | none => false
    let s := setLayer s n d.layer (if enabled d then some (contentOf r d effect) else none)
    if wasBlocked then clearFault s 0x27 r.slice else s
  completeFlip s r (if r.deferred then 1 else 0) 0 effect s.now

/-! ### Superseding (R165) -/

/-- Two records of one slice and output name a common layer. -/
def commonLayer (a b : FlipRec) : Bool :=
  a.slice = b.slice && a.out = b.out && a.descs.any fun d => b.descs.any fun e => d.layer = e.layer

/-- The records of a list, in order, without those that a later one supersedes; and those. -/
def splitSuperseded : List FlipRec → List FlipRec × List FlipRec
  | [] => ([], [])
  | r :: rs =>
    let (keep, gone) := splitSuperseded rs
    if rs.any (commonLayer r) then (keep, r :: gone) else (r :: keep, gone)

/-- Older pending records that a new one supersedes: the same effect latch, a common layer, neither waiting for a base. -/
def supersededBy (s : State) (r q : FlipRec) : Bool :=
  commonLayer q r && !q.static && !r.static &&
    match effectLatch s r.out q.arrival, effectLatch s r.out r.arrival with
    | some a, some b => rrpNum a = rrpNum b
    | _, _ => false

/-! ### Flattening passes (R162) -/

/-- A flattening pass begins (R162): the snapshot takes the newest flip of each layer of the static run, else its present
content, which a finished base that waits for its latch already has; records that a newer one of the snapshot supersedes
complete. -/
def startPass (s : State) (n : Nat) : State :=
  let o := outAt s n
  let (keep, gone) := splitSuperseded (o.pending.filter fun r => r.static)
  let s := each gone s fun s r => dropFlip s r 2 0
  let present := match o.ready with
    | some q => q.contents
    | none => (staticRun s n).filterMap fun k => (layerOf o k).map fun c => (k, c)
  let contents := keep.foldl (fun cs r =>
    r.descs.foldl (fun cs d =>
      if (staticRun s n).contains d.layer then
        let rest := cs.filter fun e => e.1 ≠ d.layer
        if enabled d then sortBy (fun e => e.1) ((d.layer, contentOf r d zeroRrp) :: rest) else rest
      else cs) cs) present
  updOut s n fun o =>
    { o with pending := o.pending.filter fun r => !r.static, pass := some ⟨false, keep, contents, none, false⟩,
             passAsked := false }

/-- Whether the writeback item has an allotment in the open window. -/
def writebackOpen (s : State) : Bool :=
  match activeLast s with
  | some l => (((l.sets.getD s.lasts.windowSet []).zip l.items).any fun e =>
      e.2.requester = 0x4A && e.2.resource = 0 && e.1 ≠ 0)
  | none => false

/-- At the start of a DRAM window: passes asked for begin; one that the DROP action abandoned begins again once the
writeback item has an allotment (R162). -/
def startPasses (s : State) : State :=
  each (rangeFrom 0 8) s fun s n =>
    let o := outAt s n
    match o.pass with
    | none => if o.passAsked && flattened s n then startPass s n else s
    | some q =>
      if q.waiting && writebackOpen s then
        startPass (updOut s n fun o => { o with pass := none, pending := q.records ++ o.pending }) n
      else s

/-- A pass abandoned by the writeback item's DROP action (R162). -/
def dropPasses (s : State) : State :=
  each (rangeFrom 0 8) s fun s n => updOut s n fun o => { o with pass := o.pass.map fun q => { q with waiting := true } }

/-- Records in their order of arrival (R165). -/
def byArrival (s : State) (rs : List FlipRec) : List FlipRec := sortBy (fun r => 2 ^ 64 - elapsed s.tb.rate r.arrival s.now) rs

/-- A finished base and the pending records that take effect with it, superseded among one another (R165). Where a record of the
snapshot goes, the base is not shown, and the others wait for a new pass. -/
def supersedeReady (s : State) (n : Nat) (same : FlipRec → Bool) : State :=
  match (outAt s n).ready with
  | none => s
  | some q =>
    let gone := (splitSuperseded (byArrival s (q.records ++ (outAt s n).pending.filter same))).2
    let lost := q.records.any fun r => gone.contains r
    let s := updOut s n fun o => { o with
      pending := ((if lost then q.records else []) ++ o.pending).filter fun r => !gone.contains r,
      ready := if lost then none else o.ready, passAsked := o.passAsked || lost }
    each gone s fun s r => dropFlip s r 2 0

/-- The effect latch of a finished base is known: records of "Flip timing" of the same latch meet its own. -/
def settleReady (s : State) (n : Nat) : State :=
  match ((outAt s n).ready.bind fun q => q.done).bind fun d => effectLatch s n d with
  | none => s
  | some l => supersedeReady s n fun r => !r.static && (effectLatch s n r.arrival).map rrpNum = some (rrpNum l)

/-! ### The flip ring (R149, R163, R415) -/

/-- A display record accepted: older ones with the same effect latch and a common layer complete SUPERSEDED (R165); one
that names a static layer waits for a flattening pass (R162). -/
def acceptDisplay (s : State) (r : FlipRec) : State :=
  let r := { r with static := namesStatic s r }
  let gone := (outAt s r.out).pending.filter (supersededBy s r)
  let s := updOut s r.out fun o =>
    { o with pending := (o.pending.filter fun q => !supersededBy s r q) ++ [r], passAsked := o.passAsked || r.static }
  settleReady (each gone s fun s q => dropFlip s q 2 0) r.out

/-- A record taken from the ring: rejected with its reason, or accepted. -/
def takeRecord (s : State) (k : Nat) (b : Bytes) (arrival : Rrp) : State :=
  let r := flipRecOf k b arrival
  let reason := flipReason s b r
  if reason ≠ 0 then dropFlip s r 3 reason
  else if r.offscreen then { s with spare := { s.spare with jobs := s.spare.jobs ++ [r] } }
  else acceptDisplay s r

/-- Bytes of slice k's flip ring from a unit on, wrapping past its end. -/
def ringUnits (s : State) (k unit n : Nat) : Option Bytes × State :=
  let size := 2 ^ (sreg s k 0x108 % 16)
  let base := sreg s k 0x100
  let go := (rangeFrom 0 n).foldl (fun (acc : Option Bytes × State) i =>
    match acc with
    | (some bs, s) => (match sliceRead s k (base + (unit + i) % size * 32) 32 false with
      | (.ok x, s) => (some (bs ++ x), s)
      | (_, s) => (none, s))
    | (none, s) => (none, s)) (some [], s)
  go

/-- The doorbell that makes a unit count of the ring available: the first whose TAIL lies at least n units past HEAD. -/
def bellFor (s : State) (k n : Nat) : Option (Nat × Rrp) :=
  let q := sliceAt s k
  let size := 2 ^ (sreg s k 0x108 % 16)
  q.flipBells.find? fun b => n ≤ (b.1 + size - q.flipHead) % size

/-- HEAD moved past units of the ring: doorbells whose TAIL it has reached or passed are done with. -/
def advanceFlips (s : State) (k units : Nat) : State :=
  let size := 2 ^ (sreg s k 0x108 % 16)
  updSlice s k fun q => { q with
    flipHead := (q.flipHead + units) % size, flipBells := q.flipBells.filter fun b => units < (b.1 + size - q.flipHead) % size }

/-- Records taken while all their units lie before TAIL and no completion waits; n bounds their number. A unit that cannot
be read is skipped and shown in BLOCKED (DESIGN CHOICE, log entry 20). -/
def takeFlips (k : Nat) : Nat → State → State
  | 0, s => s
  | n + 1, s =>
    let q := sliceAt s k
    if !q.waiting.isEmpty || q.flipHead = q.flipTail then s
    else
      match ringUnits s k q.flipHead 1 with
      | (none, s) => takeFlips k n (sliceBlocked (advanceFlips s k 1) k)
      | (some h, s) =>
        let units := recordUnits h
        match bellFor s k units with
        | none => s
        | some bell =>
          let (b, s) := ringUnits s k q.flipHead units
          let s := advanceFlips s k units
          takeFlips k n (match b with
            | some b => takeRecord s k b bell.2
            | none => sliceBlocked s k)

/-- A doorbell of the flip ring (R163, R415). -/
def flipDoorbell (s : State) (k tail : Nat) : State :=
  if !windowOpen s k then s
  else if bellOk s k 0x108 tail then
    takeFlips k 32768 (updSlice s k fun q => { q with flipTail := tail, flipBells := q.flipBells ++ [(tail, s.now)] })
  else discardStart s k

def execFlipDoorbell (t : Rrp) (sl : Fin 32) (tail : Nat) (s : State) : Out :=
  .next (finish s (flipDoorbell (atTime s t) sl.val (tail % 65536)))

/-- FLIPC_READ written (R415): waiting completions are written while there is room, then the ring is taken again. -/
def flipcRead (s : State) (k value : Nat) : State :=
  if !windowOpen s k then s
  else takeFlips k 32768 (drainCompletions k 4096 (setSreg s k 0x128 (value % 65536)))

def execFlipcReadWrite (t : Rrp) (sl : Fin 32) (value : Nat) (s : State) : Out :=
  .next (finish s (flipcRead (atTime s t) sl.val value))

/-- FLIP_RING_CTRL written (R415): the ring is enabled only while FLIPC_CTRL.ENABLE is 1. -/
def flipRingEnable (s : State) (k value : Nat) : State :=
  if windowOpen s k then ringCtrl s k 0x108 0x100 32 6 15 value false (bit (sreg s k 0x120) 31) else s

def execFlipRingEnable (t : Rrp) (sl : Fin 32) (value : Nat) (s : State) : Out :=
  .next (finish s (flipRingEnable (atTime s t) sl.val value))

/-! ### Release fences (R168) -/

/-- The fences whose recovery frame has ended are written. -/
def writeFences (s : State) : State :=
  each (rangeFrom 0 8) s fun s n =>
    let due := (outAt s n).fences.filter fun f => frameLater s.now.frame f.v
    let s := updOut s n fun o => { o with fences := o.fences.filter fun f => !frameLater s.now.frame f.v }
    each due s fun s f => writeFence s f.slice f.addr f.seq f.v

def execReleaseFenceWrite (t : Rrp) (s : State) : Out := .next (finish s (writeFences (atTime s t)))

end Sys2Proof.Machine
end

