-- ==== Sys2Proof/Machine/Compose.lean ====
section
/-! DEFINITION. Composition (R151 to R162, R170 to R181, R228, R229): what an engine fetches and composes band by band, band
checks and takeover, late data, flattening passes, offscreen compositions and recording. -/

namespace Sys2Proof.Machine

/-! ### Fetching -/

/-- The principal that fetches a layer's content: the slice of a flip, else the management core. -/
def fetchWho (c : Content) : Principal :=
  match c.by_ with
  | .flip => sliceWho c.slice
  | _ => .mgmt

/-- Where a descriptor's pixel for output position (x, y) stands in plane 0, and its chroma pair in plane 1 (R151). -/
def planeAt0 (d : LayerDesc) (x y : Nat) : Nat :=
  d.plane0 + (d.srcY + (y - d.dstY)) * d.pitch0 + (d.srcX + (x - d.dstX)) * bytesPer d.fmt
def planeAt1 (d : LayerDesc) (x y : Nat) : Nat :=
  d.plane1 + (d.srcY + (y - d.dstY)) / 2 * d.pitch1 + (d.srcX + (x - d.dstX)) / 2 * chromaBytes d.fmt

/-- Whether an output position lies in a descriptor's DST rectangle. -/
def inDst (d : LayerDesc) (x y : Nat) : Bool :=
  d.dstX ≤ x && x < d.dstX + d.width && d.dstY ≤ y && y < d.dstY + d.height

/-- A pixel's components as fetched; none where DRAM does not answer. -/
def fetchPx (s : State) (d : LayerDesc) (x y : Nat) : Option Px :=
  if !dramServing s then none
  else
    (physBytes s (planeAt0 d x y) (bytesPer d.fmt)).bind fun b0 =>
      (if isYuv d.fmt then physBytes s (planeAt1 d x y) (chromaBytes d.fmt) else some []).map fun b1 =>
        sourcePx d.fmt (leNat b0) (leNat b1)

/-- Whether the memory division blocks the fetch of a pixel. -/
def pxBlocked (s : State) (who : Principal) (d : LayerDesc) (x y : Nat) : Bool :=
  !accessAllowed s who false (planeAt0 d x y) (bytesPer d.fmt) ||
    (isYuv d.fmt && !accessAllowed s who false (planeAt1 d x y) (chromaBytes d.fmt))

/-- A point lies in a rectangle of a list (X0, Y0, X1, Y1). -/
def inRects (rs : List (Nat × Nat × Nat × Nat)) (x y : Nat) : Bool :=
  rs.any fun r => r.1 ≤ x && x < r.2.2.1 && r.2.1 ≤ y && y < r.2.2.2

/-- The declared opaque rectangles of the layers of output n that p selects, on a console-profile output (R158). -/
def opaqueRects (s : State) (n : Nat) (p : Nat → Bool) : List (Nat × Nat × Nat × Nat) :=
  match activeLast s, activePlan s n with
  | some l, some pl =>
    if bit pl.flags 1 then []
    else (l.bindings.filter fun b => b.out = n && p b.layer).flatMap fun b => b.rects
  | _, _ => []

/-- The lines of band b of a plan (R173). -/
def bandLines (p : OutPlan) (b : Nat) : List Nat := rangeFrom (8 * b) (Nat.min 8 (p.vActive - 8 * b))

/-- The positions of band b at which layer k of output n fetches its content: those of its DST rectangle that no declared
opaque rectangle above covers. A 64-byte unit is fetched exactly where it holds one of them (R158). -/
def fetchedAt (s : State) (n k : Nat) (p : OutPlan) (d : LayerDesc) (b : Nat) : List (Nat × Nat) :=
  let rs := opaqueRects s n (fun j => k < j)
  (bandLines p b).flatMap fun y =>
    ((rangeFrom d.dstX d.width).filter fun x => inDst d x y && !inRects rs x y).map fun x => (x, y)

/-- The layers of output n composed live: all but those of a flattened static run (R160, R161). -/
def liveLayer (s : State) (n k : Nat) : Bool := !(flattened s n && (staticRun s n).contains k)

/-- A band's fetch of layer k blocked (R170): the fallback colour from that band on, counted and recorded once. -/
def blockLayer (s : State) (n k : Nat) (c : Content) (b : Nat) : State :=
  let who := fetchWho c
  let s := updOut s n fun o => { o with layers := vecMod o.layers k fun q => q.map fun c => { c with blockedFrom := some b } }
  let s := bump (blockedFault s who) (0x3009 + 0x100 * n) 0
  let s := report s 0x27 (principalInst who) effGuest
  match c.by_ with
  | .flip => sliceBlocked s c.slice
  | _ => s

/-- A late band counted and recorded once, however many layers are late (R174). -/
def lateBand (s : State) (n b : Nat) : State :=
  if (outAt s n).missing.any fun m => m.1 = b && m.2.1 < 16 then s
  else report (bump s (0x3008 + 0x100 * n) 0) 0x22 n effGuest

/-- The fetches of layer k for band b: blocked, unanswered, or answered. -/
def fetchLayer (s : State) (n : Nat) (p : OutPlan) (b k : Nat) : State :=
  match layerOf (outAt s n) k with
  | none => s
  | some c =>
    if !liveLayer s n k || c.blockedFrom.isSome then s
    else
      let at_ := fetchedAt s n k p c.desc b
      if dramServing s && at_.any fun q => pxBlocked s (fetchWho c) c.desc q.1 q.2 then blockLayer s n k c b
      else
        let lost := at_.filter fun q => (fetchPx s c.desc q.1 q.2).isNone
        if lost.isEmpty then s
        else
          let s := lateBand s n b
          updOut s n fun o =>
            { o with missing := o.missing ++ lost.map fun q => (b, k, q.2, q.1, q.1 + 1) }

/-! ### Pixels -/

/-- The fallback colour of a layer (R171): its feed's, or its binding's; of an immediate layer without a binding, free. -/
def fallbackOf (s : State) (n k : Nat) (c : Content) : Nat :=
  match c.by_ with
  | .feed f => entryNum s (0x5740 + f) 9
  | _ => match (activeLast s).bind fun l => bindingOf l n k with
    | some b => b.fallback
    | none => Config.freeNat s.free % 2 ^ 32

/-- The identity matrix with no offsets, which the defaults of R153 give. -/
def identityMatrix : List Int := [4096, 0, 0, 0, 4096, 0, 0, 0, 4096, 0, 0, 0]

/-- The custom matrix of layer k of output n in force (R153). -/
def matrixOf (o : Output) (k : Nat) : List Int := (vecAt o.matForce k none).getD identityMatrix

/-- What layer k contributes at a position of band b: premultiplied or straight, A_L, and the converted pixel. -/
def layerPx (s : State) (n b k : Nat) (c : Content) (x y : Nat) : Option (Bool × Nat × Px) :=
  let d := c.desc
  if !inDst d x y then none
  else
    let o := outAt s n
    let fall := (false, d.alpha, argbPx (fallbackOf s n k c))
    let blocked := match c.blockedFrom with
      | some f => decide (f ≤ b)
      | none => false
    if blocked || dataMissing o b k x y then some fall
    else match fetchPx s d x y with
      | some q => some (bit d.flags 1, d.alpha, convertPx d.fmt d.csc (matrixOf o k) q)
      | none => some fall

/-- A contribution blended over Cd. -/
def blendOver (q : Option (Bool × Nat × Px)) (cd : Px) : Px :=
  match q with
  | some (pm, al, px) => blendPx pm al px cd
  | none => cd

/-- The pixel of output n's base surface at a position (R161); what stood below while it has no base, or where DRAM does not answer
(log entry 210). -/
def basePx (s : State) (n : Nat) (p : OutPlan) (x y : Nat) (cd : Px) : Px :=
  match (outAt s n).base with
  | none => cd
  | some w =>
    let pitch := (p.hActive * 6 + 63) / 64 * 64
    match physBytes s (baseAddr s n w + y * pitch + x * 6) 6 with
    | some b => ⟨u16 b 0 / 16, u16 b 2 / 16, u16 b 4 / 16, 4095⟩
    | none => cd

/-- A test pattern of layers 0 to 15 (Table 8-8): the colours of the bars and the rounding of the ramp are not stated. -/
def patternPx (s : State) (n : Nat) (p : OutPlan) (pat x : Nat) : Px :=
  if pat = 1 then
    let c := Config.colourBar (x * 8 / p.hActive)
    ⟨4095 * bits c 0 0, 4095 * bits c 1 1, 4095 * bits c 2 2, 4095⟩
  else if pat = 2 then
    let v := 4095 * x / (p.hActive - 1)
    let v := if v * (p.hActive - 1) = 4095 * x then v else v + Config.rampRound x p.hActive % 2
    ⟨v, v, v, 4095⟩
  else argbPx (entryNum s (0x304A + 0x100 * n) 0)

/-- The pattern that replaces layers 0 to 15 of output n: 0 none. -/
def layerPattern (s : State) (n : Nat) : Nat :=
  let v := entryNum s (0x3049 + 0x100 * n) 0
  if v ≤ 3 then v else 0

/-- Layers 0 to 15 of output n at a position of band b (R154, R159). -/
def guestPx (s : State) (n : Nat) (p : OutPlan) (b x y : Nat) : Px :=
  let pat := layerPattern s n
  if pat ≠ 0 then patternPx s n p pat x
  else
    let o := outAt s n
    (rangeFrom 0 16).foldl (fun cd k =>
      let cd := if inRects (opaqueRects s n (fun j => j = k)) x y then blackPx else cd
      if !liveLayer s n k then (if (staticRun s n).head? = some k then basePx s n p x y cd else cd)
      else match layerOf o k with
        | some c => blendOver (layerPx s n b k c x y) cd
        | none => cd) blackPx

/-- The composed pixel: layer P blended above the guest layers as a straight layer with A_L = 255 (R154). -/
def composedPx (s : State) (n : Nat) (p : OutPlan) (b x y : Nat) : Px :=
  match protectedPx s n p b x y with
  | some q => blendPx false 255 q (guestPx s n p b x y)
  | none => guestPx s n p b x y

/-- A line of band b as it is sent, and its sealed pixels as the reference datapath expects them (R206). -/
def composeLine (s : State) (n : Nat) (p : OutPlan) (b y : Nat) : List Rgb :=
  (rangeFrom 0 p.hActive).map fun x => sendPx (outAt s n).gammaForce p.bpc (composedPx s n p b x y)
def sealedLine (s : State) (n : Nat) (p : OutPlan) (b y : Nat) : List (Option Rgb) :=
  (rangeFrom 0 p.hActive).map fun x => (protectedPx s n p b x y).map (sendPx (outAt s n).gammaForce p.bpc)

/-! ### Offscreen jobs and the spare engine -/

/-- Bytes left undefined: free where their owner may write them. -/
def undefineBytes (s : State) (who : Principal) (a n : Nat) : State :=
  each (rangeFrom a n) s fun s x => if accessAllowed s who true x 1 then writeByte s x (Config.freeByte s.free x) else s

/-- A target's content left undefined (R179). -/
def undefineTarget (s : State) (r : FlipRec) : State :=
  let s := each (rangeFrom 0 r.targetHeight) s fun s y =>
    undefineBytes s (sliceWho r.slice) (r.targetAddr + y * r.targetPitch) (r.targetWidth * 4)
  { s with free := s.free + 1 }

/-- An offscreen record that fails (R179). -/
def failOffscreen (s : State) (r : FlipRec) (reason : Nat) : State :=
  dropFlip (undefineTarget s r) r 6 reason

/-- The offscreen records that S runs or has waiting, ended with a reason (log entry 21). -/
def endOffscreen (s : State) (reason : Nat) : State :=
  let jobs := s.spare.jobs
  each jobs { s with spare := { s.spare with jobs := [] } } fun s r => failOffscreen s r reason

/-- Whether an output is composed by S: after a takeover, or for the rest of a frame (R176, R229). -/
def bySpare (s : State) (n : Nat) : Bool :=
  s.spare.output = some n || (outAt s n).spareFrom.isSome

/-- A takeover armed at the same reference line as now, of a higher output: the lower output takes S (R228). -/
def yieldsTo (s : State) (n : Nat) : Option Nat :=
  (rangeFrom (n + 1) 8).find? fun m =>
    let o := outAt s m
    o.takeover = .armed && o.armedAt.frame = s.now.frame && o.armedAt.line = s.now.line

/-- The takeover of an output armed and not done cancelled (R228, R230). What S has recomposed for it in this line stands as its own
engine's second result, since it finds S unavailable (R177). -/
def cancelTakeover (s : State) (n : Nat) : State :=
  let o := outAt s n
  if o.takeover ≠ .armed then s
  else
    let mine := fun (b : Nat) => o.bandFrom.any fun e => e.1 = b && e.2 = .spare
    let lines := s.spare.lead.filter fun e => mine (e.1 / 8)
    let s := if o.spareFrom.isSome then { s with spare := { s.spare with lead := [] } } else s
    updOut s n fun o => { o with
      takeover := .engine, spareFrom := none, lead := lines ++ o.lead,
      bandFrom := o.bandFrom.map fun e => if e.2 = .spare then (e.1, .engine) else e }

/-- A takeover of output n armed by a fault recorded now, if S is available (R228, R229). -/
def armTakeover (s : State) (n : Nat) : State :=
  if bySpare s n || (outAt s n).takeover = .armed then s
  else
    let s := match yieldsTo s n with
      | some m => cancelTakeover s m
      | none => s
    if spareFree s then updOut (endOffscreen s 32) n fun o => { o with takeover := .armed, armedAt := s.now }
    else s

/-! ### Bands -/

/-- Immediate writes made at least 1 RL before the composition of this band began take effect (R232). -/
def applyImmediates (s : State) (n : Nat) : State :=
  let o := outAt s n
  let due := o.immediate.filter fun e => rlTicks 1 ≤ elapsed s.tb.rate e.1 o.bandStart
  let s := updOut s n fun o =>
    { o with immediate := o.immediate.filter fun e => !(rlTicks 1 ≤ elapsed s.tb.rate e.1 o.bandStart) }
  each due s fun s e =>
    setLayer s n e.2.1 (if enabled e.2.2 then some ⟨.immediate, e.2.2, 0, 0, (outAt s n).frame, none⟩ else none)

/-- A line put into a lead buffer in place of what it held of that line. -/
def putLine {α : Type} (xs : List (Nat × α)) (y : Nat) (v : α) : List (Nat × α) := (y, v) :: xs.filter fun e => e.1 ≠ y

/-- The lines of a band put into the lead buffer; those of a zero band with every component zero. -/
def placeBand (s : State) (n : Nat) (p : OutPlan) (b : Nat) (from_ : BandFrom) : State :=
  let lines := (bandLines p b).map fun y =>
    (y, if from_ = .zero then List.replicate p.hActive zeroRgb else composeLine s n p b y)
  let seals := (bandLines p b).map fun y => (y, sealedLine s n p b y)
  let s := updOut s n fun o =>
    { o with bandFrom := putLine o.bandFrom b from_,
             sealed := seals.foldl (fun xs e => putLine xs e.1 e.2) o.sealed,
             lead := if from_ = .spare then o.lead else lines.foldl (fun xs e => putLine xs e.1 e.2) o.lead  }
  if from_ = .spare then { s with spare := { s.spare with lead := lines.foldl (fun xs e => putLine xs e.1 e.2) s.spare.lead } }
  else s

/-- A band that fails its check (R175 to R177): S recomposes it and the rest of the frame and takes over from the next; without S,
and while a takeover is armed already (R229), the composing engine recomposes it once, or its lines are sent as zero. -/
def failBand (s : State) (n : Nat) (p : OutPlan) (b : Nat) (again : Bool) : State :=
  let s := bump s (0x3007 + 0x100 * n) 0
  if !bySpare s n && (outAt s n).takeover ≠ .armed && (spareFree s || (yieldsTo s n).isSome) then
    let s := armTakeover (report s 0x20 n effCovered) n
    placeBand (updOut (endOffscreen s 32) n fun o => { o with spareFrom := some b }) n p b .spare
  else if again then
    placeBand (report s 0x20 n effCovered) n p b (if bySpare s n then .spare else .engine)
  else placeBand (report s 0x20 n effOutput) n p b .zero

/-- The bytes of a frame slot (R180). -/
def recordSlotBytes (p : OutPlan) : Nat := (p.hActive * p.vActive * 4 + 4095) / 4096 * 4096

/-- The entry of output n's record ring: base, frames, divider, next slot. -/
def recordEntry (s : State) (n sub : Nat) : Nat := entryNum s (0x3028 + 0x100 * n) sub

/-- Where band b of the frame under composition comes from. -/
def bandSource (o : Output) (b : Nat) : Option BandFrom := (o.bandFrom.find? fun e => e.1 = b).map fun e => e.2

/-- The line that a band sends, wherever it was composed. -/
def sentLine (s : State) (n : Nat) (y : Nat) : Option (List Rgb) :=
  let o := outAt s n
  if bandSource o (y / 8) = some .spare then (s.spare.lead.find? fun e => e.1 = y).map fun e => e.2
  else (o.lead.find? fun e => e.1 = y).map fun e => e.2

/-- What the writeback item's DROP action abandons (Table 4-6): passes, the offscreen job that runs, frames under recording. -/
def dropWriteback (s : State) : State :=
  let s := dropPasses s
  let s := match s.spare.jobs with
    | r :: rest => failOffscreen { s with spare := { s.spare with jobs := rest } } r 33
    | [] => s
  each (rangeFrom 0 8) s fun s n => updOut s n fun o => { o with recMissing := o.recMissing || o.recActive }

/-- Bytes counted on the writeback item, whose DROP action engages at the violation (R103, R104). -/
def countWriteback (s : State) (bytes : Nat) : State :=
  let was := engagedWith s 0x4A 3
  let s := countBytes s 0x4A bytes
  if !was && engagedWith s 0x4A 3 then dropWriteback s else s

/-- A line of a recorded frame written to its slot as scan-out sends it; MISSING where the memory division blocks it (R180, R181). -/
def recordLine (s : State) (n : Nat) (p : OutPlan) (y : Nat) (px : List Rgb) : State :=
  if !(outAt s n).recActive then s
  else
    let from_ := bandSource (outAt s n) (y / 8)
    let flag := if from_ = some .spare then 1 else if from_ = some .zero then 2 else 0
    let s := updOut s n fun o => { o with recFlags := Nat.lor o.recFlags flag }
    let a := recordEntry s n 1 + recordEntry s n 4 * recordSlotBytes p + y * p.hActive * 4
    let s := if (outAt s n).recMissing then s else countWriteback s (movedBytes s a (p.hActive * 4) true)
    if (outAt s n).recMissing then s
    else
      let (ok, s) := memWrite s .mgmt a (px.flatMap fun q => leBytes 4 (recordWord p.bpc q))
      if ok then s else updOut s n fun o => { o with recMissing := true }

/-- The plan that an output's frames follow: the active last's, or that of an output that stops (R225). -/
def planNow (s : State) (n : Nat) : Option OutPlan := (activePlan s n).orElse fun _ => (outAt s n).stopping

/-- Whether an output composes frames: it runs, and its domain is on. -/
def composing (s : State) (n : Nat) : Bool :=
  let o := outAt s n
  (o.scan = .starting || o.scan = .running) && domainOn s (dispDomain n) && !s.mem.pairLost

/-- The bytes that the composition of band b fetches, in 64-byte units (R103, R158): of the live layers, and of the base. -/
def fetchBytes (s : State) (n : Nat) (p : OutPlan) (b : Nat) : Nat :=
  let units := (rangeFrom 0 16).flatMap fun k =>
    match layerOf (outAt s n) k with
    | some c =>
      if !liveLayer s n k || c.blockedFrom.isSome then []
      else (fetchedAt s n k p c.desc b).flatMap fun q =>
        planeAt0 c.desc q.1 q.2 / 64 :: if isYuv c.desc.fmt then [planeAt1 c.desc q.1 q.2 / 64] else []
    | none => []
  let base := if flattened s n && (outAt s n).base.isSome then (bandLines p b).length * ((p.hActive * 6 + 63) / 64) else 0
  64 * (units.eraseDups.length + base)

/-- The bytes that the sentinel renderer fetches of the verified surfaces shown in band b (R204). -/
def surfaceFetchBytes (s : State) (n : Nat) (p : OutPlan) (b : Nat) : Nat :=
  let o := outAt s n
  let of_ := fun (e : Nat × SurfaceCfg) =>
    let v := vecAt o.surfaces e.1 resetSurface
    let lines := ((bandLines p b).filter fun y => e.2.y ≤ y && y < e.2.y + e.2.height).length
    if v.standIn = 0 && v.shown.isSome && surfaceShown p e.2 then
      (lines * e.2.width * (if e.2.fmt = 1 then 4 else 2) + 63) / 64 * 64
    else 0
  match atlasOut s n with
  | some t => if o.layerP then ((enumFrom 0 t.surfaces).map of_).sum else 0
  | none => 0

/-- What a band fetches counts on the item of the composing engine, engine n or S, and on that of the sentinel renderer, 0x18
(Table 5-7, R176, R204). -/
def countFetch (s : State) (n : Nat) (p : OutPlan) (b : Nat) : State :=
  countBytes (countBytes s (if bySpare s n then 8 else n) (fetchBytes s n p b)) 0x18 (surfaceFetchBytes s n p b)

/-- An engine completes a band of output n (R173 to R177). -/
def bandComplete (s : State) (n b : Nat) (pass again : Bool) : State :=
  match planNow s n with
  | none => s
  | some p =>
    if !composing s n || p.vActive ≤ 8 * b then s
    else
      let s := applyImmediates s n
      let s := each (rangeFrom 0 16) s fun s k => fetchLayer s n p b k
      let s :=
        if pass then placeBand s n p b (if bySpare s n then .spare else .engine) else failBand s n p b again
      let s := countFetch s n p b
      updOut { s with free := s.free + 1 } n fun o => { o with bandStart := s.now }

def execBandComplete (t : Rrp) (n : Fin 8) (band : Nat) (pass again : Bool) (s : State) : Out :=
  .next (finish s (bandComplete (atTime s t) n.val band pass again))

/-! ### Late data (R174, R204) -/

/-- Whether output n shows a verified surface from its buffer. -/
def surfaceFetched (s : State) (n : Nat) : Bool :=
  (outAt s n).surfaces.toList.any fun v => v.shown.isSome && v.standIn = 0

/-- Data of a layer (16 for layer P) that has not arrived by band b's deadline. -/
def bandDeadline (s : State) (n b layer : Nat) (spans : List (Nat × Nat × Nat)) : State :=
  if spans.isEmpty || !composing s n then s
  else
    let add := fun s => updOut s n fun o =>
      { o with missing := o.missing ++ spans.map fun q => (b, layer, q.1, q.2.1, q.2.2) }
    if layer = 16 then
      if !surfaceFetched s n then s
      else
        let s := if (outAt s n).missing.any fun m => m.1 = b && m.2.1 = 16 then s
          else report (bump s (0x3038 + 0x100 * n) 0) 0x25 n effProtected
        add s
    else if (layerOf (outAt s n) layer).isNone then s
    else add (lateBand s n b)

def execBandDeadline (t : Rrp) (n : Fin 8) (band : Nat) (layer : Fin 17) (spans : List (Nat × Nat × Nat)) (s : State) : Out :=
  .next (finish s (bandDeadline (atTime s t) n.val band layer.val spans))

/-! ### Flattening passes (R161, R162) -/

/-- The Cd of a snapshot's static layers at a position; a layer that cannot be read contributes its fallback colour. -/
def snapshotPx (s : State) (n : Nat) (contents : List (Nat × Content)) (x y : Nat) : Px :=
  contents.foldl (fun cd e =>
    let c := e.2
    if !inDst c.desc x y then cd
    else
      let fall := blendPx false c.desc.alpha (argbPx (fallbackOf s n e.1 c)) cd
      if c.blockedFrom.isSome || pxBlocked s .mgmt c.desc x y then fall
      else match fetchPx s c.desc x y with
        | some q => blendPx (bit c.desc.flags 1) c.desc.alpha (convertPx c.desc.fmt c.desc.csc (matrixOf (outAt s n) e.1) q) cd
        | none => fall) blackPx

/-- A line of a base surface. -/
def baseLine (s : State) (n : Nat) (p : OutPlan) (contents : List (Nat × Content)) (y : Nat) : Bytes :=
  padTo ((p.hActive * 6 + 63) / 64 * 64) ((rangeFrom 0 p.hActive).flatMap fun x =>
    let q := snapshotPx s n contents x y
    leBytes 2 (q.r * 16) ++ leBytes 2 (q.g * 16) ++ leBytes 2 (q.b * 16))

/-- The bytes of the pixels that a descriptor shows. -/
def sourceBytes (d : LayerDesc) : Nat :=
  d.width * d.height * bytesPer d.fmt + (if isYuv d.fmt then d.width / 2 * (d.height / 2) * chromaBytes d.fmt else 0)

/-- A flattening pass finishes writing the base surface that is not being scanned, and a pass asked for meanwhile begins (R162). A
pass does not finish while a finished base waits for its latch, since no surface is free (log entry 213). -/
def flattenComplete (s : State) (n : Nat) : State :=
  match activePlan s n, (outAt s n).pass with
  | some p, some q =>
    if (outAt s n).ready.isSome || q.waiting then s
    else
      let toB := (outAt s n).base.elim false fun b => !b
      let pitch := (p.hActive * 6 + 63) / 64 * 64
      let reads := (q.contents.map fun e => sourceBytes e.2.desc).sum
      let s := noteBytes s 0x4A (reads + pitch * p.vActive)
      let s := each (rangeFrom 0 p.vActive) s fun s y =>
        (memWrite s .mgmt (baseAddr s n toB + y * pitch) (baseLine s n p q.contents y)).2
      let s := bump s (0x3021 + 0x100 * n) 0
      let s := updOut s n fun o => { o with pass := none, ready := some { q with toB := toB, done := some s.now } }
      let s := settleReady s n
      if (outAt s n).passAsked && flattened s n then startPass s n else s
  | _, _ => s

def execFlattenPassComplete (t : Rrp) (n : Fin 8) (s : State) : Out :=
  .next (finish s (flattenComplete (atTime s t) n.val))

/-! ### Offscreen compositions (R179) -/

/-- The matrix of CSC 15 in an offscreen composition, which has no output: free (log entry 22). -/
def freeMatrix (s : State) : List Int := (rangeFrom 0 12).map fun i => sint 16 (Config.freeNat (s.free + i))

/-- The layers of a record in increasing order, those with ENABLE 1. -/
def layersOf (r : FlipRec) : List LayerDesc := sortBy (fun d => d.layer) (r.descs.filter enabled)

/-- The composed pixel of a target with its αd'. -/
def targetPx (s : State) (r : FlipRec) (x y : Nat) : Px :=
  (layersOf r).foldl (fun cd d =>
    if !inDst d x y then cd
    else match fetchPx s d x y with
      | some q => blendPx (bit d.flags 1) d.alpha (convertPx d.fmt d.csc (freeMatrix s) q) cd
      | none => cd) blackPx

/-- Whether every read and write of an offscreen record is allowed and answered. -/
def offscreenOk (s : State) (r : FlipRec) : Bool :=
  let who := sliceWho r.slice
  (rangeFrom 0 r.targetHeight).all fun y =>
    accessAllowed s who true (r.targetAddr + y * r.targetPitch) (r.targetWidth * 4) &&
      (layersOf r).all fun d => (rangeFrom 0 r.targetWidth).all fun x =>
        !inDst d x y || (!pxBlocked s who d x y && (fetchPx s d x y).isSome)

/-- S finishes the offscreen record that runs. -/
def offscreenComplete (s : State) : State :=
  match s.spare.jobs with
  | [] => s
  | r :: rest =>
    let s := { s with spare := { s.spare with jobs := rest } }
    if !offscreenOk s r then
      failOffscreen (sliceBlocked (blockedFault s (sliceWho r.slice)) r.slice) r 34
    else
      let lines := (rangeFrom 0 r.targetHeight).map fun y =>
        (y, (rangeFrom 0 r.targetWidth).flatMap fun x => leBytes 4 (targetWord r.targetFmt (targetPx s r x y)))
      let reads := ((layersOf r).map sourceBytes).sum
      let s := noteBytes s 0x4A (reads + r.targetWidth * r.targetHeight * 4)
      let s := each lines s fun s e => (memWrite s (sliceWho r.slice) (r.targetAddr + e.1 * r.targetPitch) e.2).2
      dropFlip { s with free := s.free + 12 } r 5 0

def execOffscreenComplete (t : Rrp) (s : State) : Out := .next (finish s (offscreenComplete (atTime s t)))

/-! ### Recording (R180, R181) -/

/-- The table entry of a recorded frame (Table 6-11): the number of the recorded frame, from 1. -/
def recordTableEntry (o : Output) (crc : Nat) : Bytes :=
  leBytes 8 (rrpNum o.sendFrame) ++ leBytes 1 (if o.recMissing then 2 else 1) ++ leBytes 1 o.recFlags ++ zeroBytes 2 ++
    leBytes 4 (if o.recMissing then 0 else crc) ++ leBytes 4 (o.recCount + 1) ++ zeroBytes 12

/-- The last band of a recorded frame is written: its table entry follows, and the next frame takes the next slot. The slot of a
MISSING frame holds undefined content. -/
def recordComplete (s : State) (n : Nat) : State :=
  match planNow s n with
  | none => s
  | some p =>
    let o := outAt s n
    if !o.recActive then s
    else
      let frames := recordEntry s n 2
      let slot := recordEntry s n 4
      let size := recordSlotBytes p
      let s := if o.recMissing then
        { undefineBytes s .mgmt (recordEntry s n 1 + slot * size) size with free := s.free + 1 } else s
      let px := (physBytes s (recordEntry s n 1 + slot * size) (p.hActive * p.vActive * 4)).getD []
      let s := (memWrite s .mgmt (recordEntry s n 1 + frames * size + slot * 32)
        (recordTableEntry o (crcOf crc32c px))).2
      let s := setNum s (0x3028 + 0x100 * n) 4 ((slot + 1) % frames)
      updOut s n fun o =>
        { o with recActive := false, recFlags := 0, recMissing := false, recCount := (o.recCount + 1) % 2 ^ 32 }

def execRecordFrameComplete (t : Rrp) (n : Fin 8) (s : State) : Out :=
  .next (finish s (recordComplete (atTime s t) n.val))

end Sys2Proof.Machine
end

