-- ==== Sys2Proof/Machine/Protect.lean ====
section
/-! DEFINITION. Protected content (R190 to R211, R397) apart from its pixels: unknown and blinking cells, surface age, the
protected-region check, pair pins, and the atlas placed again; and the commit of custom matrices (R153). -/

namespace Sys2Proof.Machine

/-! ### Custom matrices (R153) -/

/-- The staged matrix of layer k of output n: M row by row, then p. -/
def stagedMatrix (s : State) (n k : Nat) : List Int :=
  (rangeFrom 1 12).map fun i => sint 16 (entryNum s (0x3010 + 0x100 * n + k) i)

/-- A write of Output n Layer k Matrix :0D: 1 commits the staged values. -/
def matrixCommit (s : State) (n k value : Nat) : Nat × State :=
  if value = 1 then
    (stOk, updOut s n fun o => { o with matNext := o.matNext ++ [(k, s.now, stagedMatrix s n k)] })
  else (stOk, s)

def execMatrixCommit (t : Rrp) (o : Origin) (n : Fin 8) (k : Fin 16) (value : Nat) (s : State) : Out :=
  .next (finish s (rowWriteNum (atTime s t) o (0x3010 + 0x100 * n.val + k.val) 0x0D value fun s =>
    matrixCommit s n.val k.val value))

/-! ### Cells (R195, R196) -/

/-- The record of cell c of output n. -/
def cellAt (s : State) (n c : Nat) : Option Cell := (atlasOut s n).bind fun t => t.cells[c]?

/-- A cell's run changed. -/
def updCell (s : State) (n c : Nat) (f : CellRun → CellRun) : State :=
  updOut s n fun o => { o with cells := listUpd o.cells c f }

/-- The frames without a write of a dictionary-bound cell's entry pass its TIMEOUT; frames of a management core restart are
not counted (R195). The cell shows GLYPH_UNKNOWN from the next binding cut-off. -/
def cellTimeout (s : State) (n c : Nat) : State :=
  match cellAt s n c with
  | some q =>
    if q.kind = 2 && q.timeout ≠ 0 && !s.net.restarting then
      updCell s n c fun r => { r with unwritten := Nat.max r.unwritten (q.timeout + 1), timedOut := true, counting := true }
    else s
  | none => s

def execCellTimeout (t : Rrp) (n : Fin 8) (c : Fin 256) (s : State) : Out :=
  .next (finish s (cellTimeout (atTime s t) n.val c.val))

/-- Whether the off half of a blink shows in an output frame of reference frame f (R196). -/
def blinkOffIn (s : State) (q : Cell) (r : CellRun) (f : Nat) : Bool :=
  let half := match atlasNow s with
    | some a => a.blinkHalf
    | none => 1
  bit q.flags (2 + r.state) && frameDiff f r.since.frame / half % 2 = 1

/-- A blinking cell alternates between its glyph and GLYPH_BLINK. -/
def blinkToggle (s : State) (n c : Nat) : State :=
  match cellAt s n c with
  | some q => updCell s n c fun r => { r with blinkOff := blinkOffIn s q r s.now.frame }
  | none => s

def execCellBlinkToggle (t : Rrp) (n : Fin 8) (c : Fin 256) (s : State) : Out :=
  .next (finish s (blinkToggle (atTime s t) n.val c.val))

/-! ### Surfaces (R202, R203) -/

/-- The record of surface k of output n. -/
def surfaceCfg (s : State) (n k : Nat) : Option SurfaceCfg := (atlasOut s n).bind fun t => t.surfaces[k]?

/-- A surface changed. -/
def updSurface (s : State) (n k : Nat) (f : Surface → Surface) : State :=
  updOut s n fun o => { o with surfaces := vecMod o.surfaces k f }

/-- A surface of output n. -/
def surfaceAt (s : State) (n k : Nat) : Surface := vecAt (outAt s n).surfaces k resetSurface

/-- More than MAX_AGE frames have passed since a surface's latest accepted post: its stand-in shows from the next LATCH. -/
def ageExpire (s : State) (n k : Nat) : State :=
  match surfaceCfg s n k with
  | some c =>
    if c.maxAge ≠ 0 && s.sec.island ≠ 2 then updSurface s n k fun v => { v with age := Nat.max v.age (c.maxAge + 1) } else s
  | none => s

def execSurfaceAgeExpire (t : Rrp) (n : Fin 8) (k : Fin 2) (s : State) : Out :=
  .next (finish s (ageExpire (atTime s t) n.val k.val))

/-- Whether slice k is bound, in the locked assignment, to a safety port (R199). -/
def safetySlice (s : State) (k : Nat) : Bool := (sliceAt s k).st ≠ .unbound && safetyPort s (sliceAt s k).port

/-- The stand-in case of a surface that holds (R203, Table 7-11): 5 island stopped, 4 DRAM unavailable, 1 no frame yet or a
slice without a safety port, 3 age; 0 where none holds. -/
def standInCase (s : State) (c : SurfaceCfg) (v : Surface) : Nat :=
  if s.sec.island = 3 then 5
  else if !dramServing s && s.mem.changing.isNone then 4
  else if v.shown.isNone || !safetySlice s c.slice then 1
  else if c.maxAge ≠ 0 && v.age > c.maxAge then 3 else 0

/-- A surface at a LATCH: a frame eligible for at least 2 RL is shown, then the stand-in cases are judged (R202, R203). -/
def latchSurface (s : State) (n k : Nat) : State :=
  match surfaceCfg s n k with
  | none => s
  | some c =>
    let v := surfaceAt s n k
    let s := match v.eligible with
      | some e =>
        if before s e 2 then
          let other := match v.shown with
            | some b => !b
            | none => false
          let s := updSurface s n k fun v => { v with shown := some other, shownTag := v.eligibleTag, eligible := none }
          setNum s (0x3035 + 0x100 * n) (k + 1) v.eligibleTag
        else s
      | none => s
    updSurface s n k fun v => { v with standIn := standInCase s c v }

/-! ### The protected-region check (R205 to R207) -/

/-- Whether a frame on the port counts as healthy for pairing: no release condition, and the link up. -/
def pairHealthy (s : State) (n : Nat) : Bool :=
  let o := outAt s n
  !o.pairCond && o.link = .up && s.mode ≠ .service && s.mode ≠ .quiet && s.mode ≠ .watch

/-- The CRCs of the frame on the port compared (R207); a matching frame counts for pairing (R211). -/
def crcCompare (s : State) (n : Nat) : State :=
  let o := outAt s n
  if !o.crcAny || o.link = .testPattern then s
  else
    let sent := crcFinish crc32c o.crcReg
    let want := crcFinish crc32c o.crcExp
    let ix := 0x3031 + 0x100 * n
    let s := setNum (setNum (setNum s ix 1 want) ix 2 sent) ix 3 (rrpNum o.sendFrame)
    let s := updOut s n fun o => { o with crcAny := false }
    let s := updInsp s fun d => { d with crcChecks := vecMod d.crcChecks n (· + 1) }
    if sent = want then
      let s := updOut s n fun o => { o with
        matchRun := o.matchRun + 1, pairRun := if pairHealthy s n then o.pairRun + 1 else 0 }
      if (outAt s n).matchRun ≥ 60 then clearFault s 0x23 n else s
    else
      let s := updInsp s fun d => { d with crcMismatches := vecMod d.crcMismatches n (· + 1) }
      let s := report (bump s (0x3032 + 0x100 * n) 0) 0x23 n effProtected
      pairTrigger (armTakeover (updOut s n fun o => { o with pairRun := 0, matchRun := 0 }) n) n

def execProtectedCrcCompare (t : Rrp) (n : Fin 8) (s : State) : Out :=
  .next (finish s (crcCompare (atTime s t) n.val))

/-! ### Pair pins (R208 to R211) -/

/-- At vertical sync after a release condition HEALTHY_N is released. -/
def healthyRelease (s : State) (n : Nat) : State :=
  let o := outAt s n
  if o.pair = .asserted && o.pairCond then
    updInsp (setHealthy (updOut s n fun o => { o with pair := .released, pairCond := false, pairRun := 0 }) n false)
      fun d => { d with pairReleases := d.pairReleases + 1 }
  else s

def execHealthyRelease (t : Rrp) (n : Fin 8) (s : State) : Out := .next (finish s (healthyRelease (atTime s t) n.val))

/-- At vertical sync after enough matching frames HEALTHY_N is asserted: 2 at first, 60 after a rearm. -/
def healthyAssert (s : State) (n : Nat) : State :=
  let o := outAt s n
  let due := (o.pair = .starting && o.pairRun ≥ 2) || (o.pair = .rearming && o.pairRun ≥ 60)
  if due && pairHealthy s n then setHealthy (updOut s n fun o => { o with pair := .asserted }) n !s.power.fioSafe else s

def execHealthyAssert (t : Rrp) (n : Fin 8) (s : State) : Out := .next (finish s (healthyAssert (atTime s t) n.val))

/-- A write of Output n Pair Rearm: 1 in state 3 starts the rearm; refused in any other state. -/
def pairRearm (s : State) (n value : Nat) : Nat × State :=
  if (outAt s n).pair ≠ .released then (stMode, s)
  else if value = 1 then (stOk, updOut s n fun o => { o with pair := .rearming, pairRun := 0, pairCond := false })
  else (stOk, s)

def execPairRearm (t : Rrp) (o : Origin) (n : Fin 8) (value : Nat) (s : State) : Out :=
  .next (finish s (rowWriteNum (atTime s t) o (0x3034 + 0x100 * n.val) 0 value fun s => pairRearm s n.val value))

/-! ### The atlas (R185 to R189, R396, R397) -/

/-- At the activation of a last, each enabled cell and surface outside the active area of its output's plan is reported as a
configuration fault of its output (R197, log entry 139). -/
def outsideFaults (s : State) : State :=
  each (rangeFrom 0 8) s fun s n =>
    match activePlan s n, atlasOut s n with
    | some p, some t =>
      let bad := (t.cells.filter fun c => bit c.flags 0 && !cellShown s p c).length +
        (t.surfaces.filter fun c => !surfaceShown p c).length
      each (rangeFrom 0 bad) s fun s _ => report s 0x12 n effNone
    | _, _ => s

/-- An atlas placed in the secure comb and checked by the island; a refused one leaves layer P empty (R189). -/
def placeAtlas (s : State) (b : Bytes) : State :=
  let code := atlasCheck b
  if code = 0 then
    let a := parseAtlas b
    let s := { s with sentinel := { s.sentinel with state := 1, error := 0, atlas := some a } }
    each a.outs s fun s t => updOut s t.out fun o => { o with
      pair := if t.paired && o.pair = .notPaired then .starting else o.pair, healthyPin := t.healthyPin }
  else
    report { s with sentinel := { s.sentinel with state := 2, error := code, atlas := none } } 0x12 0 effProtected

/-- A wipe of the secure comb (R396, R397): every output's layer P is empty, and each paired output releases its pin. -/
def emptyLayerP (s : State) : State :=
  let s := { s with sentinel := { s.sentinel with state := 0, atlas := none } }
  each (rangeFrom 0 8) s fun s n =>
    pairTrigger (updOut s n fun o => { o with layerP := false, cells := [] }) n

end Sys2Proof.Machine
end

