-- ==== Sys2Proof/Machine/Scanout.lean ====
section
/-! DEFINITION. Scan-out and display ports (R178, R205, R214 to R234): lines on the port, starts and stops of outputs, the
link sequence, AUX, PHY faults, and what Service allows. -/

namespace Sys2Proof.Machine

/-- Whether a plan's link is DisplayPort (Table 5-11). -/
def isDp (p : OutPlan) : Bool := p.link / 16 = 0

/-! ### Starts and stops (R225, R227, R230) -/

/-- Output n gives up S: an armed takeover is cancelled, one under way frees S (R230). -/
def freeSpare (s : State) (n : Nat) : State :=
  let s := if s.spare.output = some n then { s with spare := { s.spare with output := none } } else s
  updOut s n fun o => { o with takeover := .engine, spareFrom := none }

/-- Trained Rate and Trained Lanes of output n (0x3n42). -/
def setTrained (s : State) (n rate lanes : Nat) : State :=
  setNum (setNum s (0x3042 + 0x100 * n) 1 rate) (0x3042 + 0x100 * n) 2 lanes

/-- An output that stops (R167, R225): its records are abandoned, its layers emptied, S is freed, the sink is told D3, and
nothing of its frames is kept. -/
def endOutput (s : State) (n : Nat) (reason : Nat) (st : ScanState) : State :=
  let dp := match planNow s n with
    | some p => isDp p
    | none => false
  let s := abandonFlips s n reason fun _ => true
  let s := emptyLayers s n fun _ _ => true
  let s := pairTrigger (freeSpare s n) n
  let s := if dp then (if (outAt s n).link ≠ .noSink then emit s (.aux n 0x00600 [2]) else s) else emit s (.lvdsOff n)
  let s := setTrained s n 0 0
  updOut s n fun o => { o with
    scan := st, firstFrame := none, lead := [], sealed := [], missing := [], bandFrom := [], immediate := [],
    emptying := [], base := none, pass := none, ready := none, passAsked := false, stopping := none, idling := false,
    carrying := false, sendLive := false, recNext := false, recActive := false,
    link := if o.link = .phyFault then .phyFault else .noSink, crcAny := false }

/-- An output starts (R225): DisplayPort's link sequence begins at once where a sink is plugged; LVDS sends. -/
def startOutput (s : State) (n : Nat) (p : OutPlan) : State :=
  if (outAt s n).scan = .starting || (outAt s n).scan = .running then updOut s n fun o => { o with stopping := none, idling := false }
  else
    let s := raiseDomain s (dispDomain n)
    updOut s n fun o => { o with
      scan := .starting, firstFrame := none, startAt := s.now, stopping := none, idling := false, carrying := false, linkStep := 0,
      lvdsMap := entryNum s (0x304F + 0x100 * n) 0,
      link := if o.link = .phyFault then .phyFault else if !isDp p then .up else if o.hpd then .reading else .noSink }

/-- The backlight duty of an output in force: its PWM output takes it (R234). -/
def setDuty (s : State) (n d : Nat) : State :=
  let ix := 0x3050 + 0x100 * n
  let s := updOut s n fun o => { o with duty := d }
  if entryNum s ix 1 < 8 then emit s (.pwm (entryNum s ix 1) (entryNum s ix 2) d (entryNum s ix 5 = 1)) else s

/-- DISPn goes off or its region is isolated: the output stops at once, its pads held (R227, R230); its HEALTHY_N is released
(R208, R461). -/
def holdOutput (s : State) (n : Nat) : State :=
  let o := outAt s n
  let s := setHealthy (setDuty s n 0) n false
  if o.scan = .starting || o.scan = .running then updOut (endOutput s n abOutputStopped .held) n fun o => { o with hpd := false }
  else updOut (freeSpare s n) n fun o => { o with
    scan := .held, hpd := false, link := if o.link = .phyFault then .phyFault else .noSink }

/-- An output has stopped: outside Service its DISPn goes off, since no last runs it (R227, Table 8-5). -/
def stoppedOutput (s : State) (n : Nat) : State :=
  if s.mode = .service then endOutput s n abOutputStopped .notRun
  else
    let s := dropDomain (holdOutput s n) (dispDomain n)
    updPower s fun p => { p with asking := p.asking.filter fun a => a.1 ≠ dispDomain n }

/-- An output that the active last no longer runs, or whose DISPn is to go off: its last composed frame is still sent (R225, R227). -/
def stopOutput (s : State) (n : Nat) (p : OutPlan) : State :=
  let o := outAt s n
  if o.scan = .running then
    abandonFlips (updOut s n fun o => { o with stopping := some p }) n abOutputStopped fun _ => true
  else if o.scan = .starting then stoppedOutput s n
  else s

/-- Domain d is the DISPn of an output that has yet to stop. -/
def outputStopping (s : State) (d : Nat) : Bool := 4 ≤ d && d < 12 && (outAt s (d - 4)).stopping.isSome

/-! ### Lines (R73, R178, R205, R214, R216, R223 to R225) -/

/-- The backlight duty of output n for the present mode (R226, R234). -/
def dutyNow (s : State) (n : Nat) : Nat :=
  let ix := 0x3050 + 0x100 * n
  if !domainOn s (dispDomain n) || !s.dieLink || s.power.fioSafe then 0
  else match s.mode with
    | .off => 0
    | .watch => 0
    | .quiet => if entryNum s (0x304E + 0x100 * n) 0 = 1 then entryNum s ix 4 else 0
    | _ => entryNum s ix 3

/-- Whether the frame that starts now is a composed one: a LATCH since the output's start has opened it (R225). -/
def framesOpen (s : State) (n : Nat) : Bool :=
  match (outAt s n).firstFrame with
  | some f => rrpLe f s.now
  | none => false

/-- Whether the composed frames of an output may be sent from the frame that starts now: the link is up, or two blank frames
have passed (R224, R225). -/
def mayRun (s : State) (n : Nat) (p : OutPlan) : Bool :=
  let o := outAt s n
  framesOpen s n && (if isDp p then o.link = .up else 2 * outFrameTicks s p ≤ elapsed s.tb.rate o.startAt s.now + 2)

/-- The lane settings of the sink's LINK_QUAL_LANEx_SET for a stream pattern of Table 8-8 (PRESUMED, log entry 214). -/
def linkQual (pat : Nat) : Byte :=
  if pat = 4 then 3 else if pat = 5 then 1 else if pat = 6 then 4 else if pat = 7 then 5 else 0

/-- LINK_QUAL_LANEx_SET written for every lane in use. -/
def writeLinkQual (s : State) (n pat : Nat) : State :=
  emit s (.aux n 0x0010B (List.replicate (entryNum s (0x3042 + 0x100 * n) 2) (linkQual pat)))

/-- The last composed frame of an output that stops is over (R224, R225): the idle pattern for one output frame, or a blank one. -/
def beginIdle (s : State) (n : Nat) (p : OutPlan) : State :=
  let s := if isDp p && (outAt s n).link = .up then emit s (.idle n) else s
  updOut s n fun o => { o with sendFrame := s.now, idling := true, carrying := false, sendLive := false, recActive := false }

/-- The start of an output frame on the port. A stream pattern takes the place of the frame (R233). -/
def beginFrame (s : State) (n : Nat) (p : OutPlan) : State :=
  let o := outAt s n
  if o.idling then stoppedOutput s n
  else if o.stopping.isSome && rrpNum o.frame ≠ rrpNum s.now then beginIdle s n p
  else
    let pat := entryNum s (0x3049 + 0x100 * n) 0
    let starts := o.link = .up && isDp p && pat ≥ 4
    let link := if starts then .testPattern else o.link
    let s := if starts then writeLinkQual s n pat else s
    let s := if link = .testPattern then emit s (.linkPattern n pat) else s
    let carrying := o.carrying || mayRun s n p
    let s := updOut s n fun o => { o with
      sendFrame := s.now, link := link, scan := if framesOpen s n then .running else o.scan, carrying := carrying,
      sendLive := link = .up, phyAttempts := if link = .up && carrying then 0 else o.phyAttempts, crcReg := crc32c.init,
      crcExp := crc32c.init, crcAny := false, pairCond := o.pairCond && o.pair = .asserted,
      recActive := o.recNext && rrpNum o.frame = rrpNum s.now, recFlags := 0, recMissing := false }
    setDuty s n (dutyNow s n)

/-- Whether pixel x has a bit in 8-byte word w of a line packed at 3 × BPC bits per pixel (R178). -/
def pixelInWord (bpc x w : Nat) : Bool := x * 3 * bpc < (w + 1) * 64 && w * 64 < (x + 1) * 3 * bpc

/-- A line as the lead buffer gives it: pixels with a bit in an uncorrectable word are zero. -/
def correctedLine (p : OutPlan) (bad : List Nat) (px : List Rgb) : List Rgb :=
  (enumFrom 0 px).map fun e => if bad.any (pixelInWord p.bpc e.1) then zeroRgb else e.2

/-- A pixel that a fault of the link encoder has changed: the word of R205 cut to the output's depth. -/
def corruptPx (bpc w : Nat) : Rgb := ⟨bits w 29 20 % 2 ^ bpc, bits w 19 10 % 2 ^ bpc, bits w 9 0 % 2 ^ bpc⟩

/-- A line as it enters the link. -/
def encodedLine (p : OutPlan) (corrupt : List (Nat × Nat)) (px : List Rgb) : List Rgb :=
  (enumFrom 0 px).map fun e =>
    match corrupt.find? fun c => c.1 = e.1 with
    | some c => corruptPx p.bpc c.2
    | none => e.2

/-- The CRC over the sealed pixels of a line, fed on (R205). -/
def feedSealed (r : Nat) (px : List Rgb) (sealed_ : List (Option Rgb)) : Nat :=
  (px.zip sealed_).foldl (fun r e => if e.2.isSome then crcFeed crc32c r (leBytes 4 (crcWord e.1)) else r) r

/-- The CRC of the pixels that the reference datapath expects (R206). -/
def feedExpected (r : Nat) (sealed_ : List (Option Rgb)) : Nat :=
  sealed_.foldl (fun r e => match e with
    | some q => crcFeed crc32c r (leBytes 4 (crcWord q))
    | none => r) r

/-- Uncorrectable lead-buffer words (R178): a band failure of the composing engine, and a takeover where S is available. -/
def leadError (s : State) (n : Nat) (bad : List Nat) : State :=
  if bad.isEmpty then s
  else
    let s := report (bump s (0x3007 + 0x100 * n) 0) 0x21 n effOutput
    pairTrigger (armTakeover s n) n

/-- Whether a line lies in the vertical sync of a plan. -/
def inVsync (p : OutPlan) (y : Nat) : Bool := p.vActive + p.vFront ≤ y && y < p.vActive + p.vFront + p.vSync

/-- A component split between pairs 0 to 2 and pair 3 (R223): at 6 bpc pair 3 is low; mapping 0 places the two least significant
bits there, mapping 1 the two most significant ones. -/
def splitPairs (bpc map x : Nat) : Nat × Nat :=
  if bpc = 6 then (x, 0) else if map = 0 then (x / 4, x % 4) else (x % 64, x / 64)

/-- A pixel on a link: its components on pairs 0 to 2, then those on pair 3. -/
def lvdsPx (bpc map : Nat) (q : Rgb) : List Nat :=
  let parts := [q.r, q.g, q.b].map (splitPairs bpc map)
  parts.map (fun e => e.1) ++ parts.map fun e => e.2

/-- A line on dual-link LVDS: even columns on link A, odd ones on link B; no pixels where DE is low (R223, R224). -/
def sendLvds (s : State) (n y : Nat) (p : OutPlan) (px : List Rgb) : State :=
  let on := fun (odd : Bool) => (((enumFrom 0 px).filter fun e => bit e.1 0 = odd).map fun e => lvdsPx p.bpc (outAt s n).lvdsMap e.2)
  emit s (.lvds n y (on false) (on true) (!px.isEmpty) (bit p.flags 2) (inVsync p y == bit p.flags 3))

/-- An active line of a composed frame is sent, and recorded as it is sent (R180). -/
def sendLine (s : State) (n y : Nat) (p : OutPlan) (bad : List Nat) (corrupt : List (Nat × Nat)) : State :=
  let o := outAt s n
  let blank := List.replicate p.hActive zeroRgb
  let sealed_ := ((o.sealed.find? fun e => e.1 = y).map fun e => e.2).getD []
  let sent := correctedLine p bad ((sentLine s n y).getD blank)
  let px := encodedLine p corrupt sent
  let s := recordLine s n p y sent
  let s := if bandSource o (y / 8) = some .zero then pairTrigger s n else s
  let s := leadError s n bad
  let s := updOut s n fun o => { o with
    crcReg := feedSealed o.crcReg px sealed_, crcExp := feedExpected o.crcExp sealed_,
    crcAny := o.crcAny || sealed_.any fun q => q.isSome,
    lead := o.lead.filter fun e => e.1 ≠ y, sealed := o.sealed.filter fun e => e.1 ≠ y }
  let s := { s with spare := if bySpare s n then { s.spare with lead := s.spare.lead.filter fun e => e.1 ≠ y } else s.spare }
  let s := if (outAt s n).sendLive then emit s (.video n o.frameJ y (px.flatMap fun q => [q.r, q.g, q.b])) else s
  if isDp p then s else sendLvds s n y p px

/-- An active line of a frame that carries every component zero (R224, R225). -/
def zeroLine (s : State) (n y : Nat) (p : OutPlan) : State :=
  let blank := List.replicate p.hActive zeroRgb
  let s := recordLine s n p y blank
  if !isDp p then sendLvds s n y p []
  else if (outAt s n).sendLive then emit s (.video n (outAt s n).frameJ y (blank.flatMap fun q => [q.r, q.g, q.b])) else s

/-- The pixel clock of Mvid is measured: a free number (R216). MISC0 bit 0 is 0 and bits 7 to 5 give the depth (PRESUMED, log
entry 214). -/
def sendMsa (s : State) (n : Nat) (p : OutPlan) : State :=
  let misc0 := if p.bpc = 6 then 0 else if p.bpc = 8 then 0x20 else 0x40
  let (mvid, s) := takeFree s (2 ^ 24)
  emit s (.msa n misc0 mvid 32768 (bit p.flags 2) (bit p.flags 3))

/-- A line of the vertical blanking; its first carries the attributes of the stream on DisplayPort. -/
def blankLine (s : State) (n y : Nat) (p : OutPlan) : State :=
  if !isDp p then sendLvds s n y p [] else if y = p.vActive && (outAt s n).sendLive then sendMsa s n p else s

/-- Scan-out sends output line k of a reference frame (R73). -/
def scanoutLine (s : State) (n k : Nat) (bad : List Nat) (corrupt : List (Nat × Nat)) : State :=
  match planNow s n with
  | none => s
  | some p =>
    let runs := fun (o : Output) => o.scan = .starting || o.scan = .running
    if !runs (outAt s n) then s
    else
      let y := k % p.vTotal
      let s := if y = 0 then beginFrame s n p else s
      if !runs (outAt s n) then s
      else if p.vActive ≤ y then blankLine s n y p
      else if (outAt s n).carrying then sendLine s n y p bad corrupt
      else zeroLine s n y p

def execScanoutLine (t : Rrp) (n : Fin 8) (k : Nat) (badWords : List Nat) (corrupt : List (Nat × Nat)) (s : State) : Out :=
  .next (finish s (scanoutLine (atTime s t) n.val k badWords corrupt))

/-! ### Hot-plug and the link sequence (R217 to R221) -/

/-- Output n's DisplayPort plan while it runs. -/
def dpPlan (s : State) (n : Nat) : Option OutPlan :=
  let o := outAt s n
  if o.scan = .starting || o.scan = .running then (planNow s n).filter isDp else none

/-- A link loss, training failure or PHY fault of an output: recorded, counted, and a release condition of a paired output. -/
def linkFault (s : State) (n : Nat) : State :=
  let eff := if (outAt s n).pair = .notPaired then effOutput else effCovered
  pairTrigger (setTrained (report (bump s (0x3043 + 0x100 * n) 0) 0x26 n eff) n 0 0) n

def setLink (s : State) (n : Nat) (l : LinkState) : State := updOut s n fun o => { o with link := l, linkStep := 0 }

/-- HPD high and stable: the link sequence of a running output begins. -/
def hpdPlug (s : State) (n : Nat) : State :=
  if !domainOn s (dispDomain n) then s
  else
    let s := updOut s n fun o => { o with hpd := true }
    if (dpPlan s n).isSome && (outAt s n).link ≠ .phyFault then setLink s n .reading else s

def execHpdPlug (t : Rrp) (n : Fin 8) (s : State) : Out := .next (finish s (hpdPlug (atTime s t) n.val))

/-- HPD low for at least 2 ms: the link stops; a link loss where the output was running. -/
def hpdUnplug (s : State) (n : Nat) : State :=
  if !domainOn s (dispDomain n) || !(outAt s n).hpd then s
  else
    let s := updOut s n fun o => { o with hpd := false }
    if (dpPlan s n).isSome then
      let s := updOut s n fun o => { o with link := if o.phyStopped then .phyFault else .noSink, sendLive := false }
      linkFault s n
    else s

def execHpdUnplug (t : Rrp) (n : Fin 8) (s : State) : Out := .next (finish s (hpdUnplug (atTime s t) n.val))

/-- Whether DPCD 0x00200 to 0x00205 report a loss on the lanes in use: clock recovery, equalisation or symbol lock of a lane,
or interlane alignment. -/
def laneLoss (lanes : Nat) (status : Bytes) : Bool :=
  !bit (u8 status 4) 0 ||
    (rangeFrom 0 lanes).any fun k => bits (u8 status (2 + k / 2)) (4 * (k % 2) + 2) (4 * (k % 2)) ≠ 7

/-- A short HPD pulse (R217): a sequence under way restarts; an established link that has lost its lanes trains again, under a
stream pattern too. -/
def irqHpd (s : State) (n : Nat) (status : Bytes) : State :=
  if (dpPlan s n).isNone then s
  else match (outAt s n).link with
    | .reading | .training => setLink s n .reading
    | .up | .testPattern =>
      if laneLoss (entryNum s (0x3042 + 0x100 * n) 2) status then
        updOut (linkFault (setLink s n .training) n) n fun o => { o with sendLive := false }
      else s
    | _ => s

def execIrqHpd (t : Rrp) (n : Fin 8) (status : Bytes) (s : State) : Out :=
  .next (finish s (irqHpd (atTime s t) n.val status))

/-- f_pix of a plan as a fraction in Hz (R214). -/
def pixelClock (s : State) (p : OutPlan) : Nat × Nat :=
  let (num, den) := frameRate s.tb.rate
  (p.hTotal * p.vTotal * p.mult * num, den)

/-- Whether a configuration of lanes and rate carries a plan (R215). -/
def linkCarries (s : State) (p : OutPlan) (rate lanes : Nat) : Bool :=
  let (num, den) := pixelClock s p
  num * 3 * p.bpc * 1000 ≤ 776 * lanes * laneRate rate * 10000 * den

/-- The rate code of MAX_LINK_RATE in the DPCD. -/
def sinkRate (caps : Bytes) : Nat :=
  let c := u8 caps 1
  if c ≥ 0x1E then 4 else if c ≥ 0x14 then 3 else if c ≥ 0x0A then 2 else if c ≥ 0x06 then 1 else 0

/-- The configurations to try, in order (R219): the plan's rate and lanes within the sink's, then lower rates, then fewer
lanes. HBR3 needs TPS4 (Table 8-3). -/
def candidates (s : State) (p : OutPlan) (caps : Bytes) : List (Nat × Nat) :=
  let top := Nat.min p.linkRate (sinkRate caps)
  let lanes := [4, 2, 1].filter fun l => l ≤ p.link % 16 && l ≤ u8 caps 2 % 32
  (lanes.flatMap fun l => ((rangeFrom 1 top).reverse.map fun r => (r, l))).filter fun c =>
    linkCarries s p c.1 c.2 && (c.1 ≠ 4 || bit (u8 caps 3) 7)

/-- Whether a detailed timing descriptor at an offset matches a plan (R221). -/
def timingMatches (s : State) (p : OutPlan) (e : Bytes) (o : Nat) : Bool :=
  let clock := u16 e o * 10000
  let hA := u8 e (o + 2) + u8 e (o + 4) / 16 * 256
  let hB := u8 e (o + 3) + u8 e (o + 4) % 16 * 256
  let vA := u8 e (o + 5) + u8 e (o + 7) / 16 * 256
  let vB := u8 e (o + 6) + u8 e (o + 7) % 16 * 256
  let (num, den) := pixelClock s p
  clock ≠ 0 && hA = p.hActive && vA = p.vActive && hA + hB = p.hTotal && vA + vB = p.vTotal &&
    1000 * (clock * den) ≤ 1005 * num && 995 * num ≤ 1000 * (clock * den)

/-- Where the descriptors of an EDID stand: four in the base block, those of each CTA-861 extension. -/
def timingOffsets (e : Bytes) : List Nat :=
  [54, 72, 90, 108] ++ (rangeFrom 1 (e.length / 128 - 1)).flatMap fun b =>
    let o := 128 * b
    if u8 e o = 2 && 4 ≤ u8 e (o + 2) then
      (rangeFrom 0 7).map (fun i => o + u8 e (o + 2) + 18 * i) |>.filter fun x => x + 18 ≤ o + 127
    else []

/-- Output n EDID Timing Match. -/
def edidMatch (s : State) (p : OutPlan) (e : Bytes) : Bool := (timingOffsets e).any (timingMatches s p e)

/-- The capabilities read at step 1 of the link sequence. -/
def readCaps (s : State) (n : Nat) (caps : Bytes) : State := setEntry s (0x3046 + 0x100 * n) 0 (.raw (padTo 16 caps))

/-- The EDID read at step 2; step 3 wakes the sink. -/
def readEdid (s : State) (n : Nat) (p : OutPlan) (edid : Bytes) : State :=
  let e := edid.take 2048
  let s := setNum (setEntry s (0x3044 + 0x100 * n) 0 (.raw e)) (0x3045 + 0x100 * n) 0 (b2n (edidMatch s p e))
  emit s (.aux n 0x00600 [1])

/-- What a sequence that begins at step 1 has still to read. -/
def readSink (s : State) (n : Nat) (p : OutPlan) (caps edid : Bytes) : State :=
  readEdid (if (outAt s n).linkStep = 0 then readCaps s n caps else s) n p edid

/-- LINK_BW_SET of a rate code (PRESUMED, log entry 214). -/
def bandwidthCode (rate : Nat) : Byte := if rate = 1 then 0x06 else if rate = 2 then 0x0A else if rate = 3 then 0x14 else 0x1E

/-- Step 4 for a configuration under trial (Table 8-3). -/
def tryConfig (s : State) (n : Nat) (c : Nat × Nat) : State :=
  let s := emit (emit s (.aux n 0x00107 [0])) (.aux n 0x00108 [1])
  emit (emit s (.aux n 0x00100 [bandwidthCode c.1])) (.aux n 0x00101 (leBytes 1 (c.2 + 0x80)))

/-- The link sequence ends (R218, R219): fails are the configurations whose training failed. -/
def trainingComplete (s : State) (n : Nat) (caps edid : Bytes) (fails : List (Nat × Nat)) : State :=
  match dpPlan s n with
  | none => s
  | some p =>
    let l := (outAt s n).link
    if !(l = .reading || l = .training) then s
    else
      let s := if l = .reading then readSink s n p caps edid else s
      let cs := candidates s p (entryBytes s (0x3046 + 0x100 * n) 0)
      let s := each (cs.takeWhile fun c => fails.contains c) s fun s c => tryConfig s n c
      match cs.find? fun c => !fails.contains c with
      | some c =>
        let s := emit (emit (tryConfig s n c) (.aux n 0x00102 [0])) (.idle n)
        setTrained (setLink s n .up) n c.1 c.2
      | none => linkFault (setLink s n .failed) n

def execLinkTrainingComplete (t : Rrp) (n : Fin 8) (caps edid : Bytes) (fails : List (Nat × Nat)) (s : State) : Out :=
  .next (finish s (trainingComplete (atTime s t) n.val caps edid fails))

/-- One second after a training failure the sequence repeats from step 1 while the sink stays plugged. -/
def trainingRetry (s : State) (n : Nat) : State :=
  if (dpPlan s n).isSome && (outAt s n).link = .failed && (outAt s n).hpd then setLink s n .reading else s

def execLinkTrainingRetry (t : Rrp) (n : Fin 8) (s : State) : Out :=
  .next (finish s (trainingRetry (atTime s t) n.val))

/-! ### AUX (R222) -/

/-- Whether a native request is well formed: a command, an address of 20 bits, a length of 1 to 16, a write's data. -/
def auxFormatOk (r : Bytes) : Bool :=
  (u8 r 0 = 9 || u8 r 0 = 8) && 5 ≤ r.length && getLe 3 r 1 < 2 ^ 20 && 1 ≤ u8 r 4 && u8 r 4 ≤ 16 &&
    r.length = 5 + if u8 r 0 = 8 then u8 r 4 else 0

/-- Whether a request writes a protected DPCD address. -/
def auxProtected (r : Bytes) : Bool :=
  let a := getLe 3 r 1
  let e := a + u8 r 4
  u8 r 0 = 8 && ((a < 0x300 && 0x100 < e) || (a ≤ 0x600 && 0x600 < e))

/-- A write of Output n AUX Request: queued, or refused with status 4 in the result. -/
def auxRequest (s : State) (n : Nat) (r : Bytes) : Nat × State :=
  if !auxFormatOk r then (stRange, s)
  else if (dpPlan s n).isNone then (stMode, s)
  else
    let l := (outAt s n).link
    if auxProtected r && (s.mode ≠ .service || l = .reading || l = .training) then
      (stOk, setEntry s (0x3047 + 0x100 * n) 2 (.raw [4]))
    else
      let s := updOut s n fun o => { o with auxQueue := o.auxQueue ++ [(getLe 3 r 1, r)] }
      (stOk, emit s (.aux n (getLe 3 r 1) (r.drop 5)))

def execAuxRequest (t : Rrp) (o : Origin) (n : Fin 8) (req : Bytes) (s : State) : Out :=
  .next (finish s (rowWrite (atTime s t) o (0x3047 + 0x100 * n.val) 1 req fun s => auxRequest s n.val req))

/-- A transaction of the device's own link sequence completes (R218): the capabilities, then the EDID; training follows. -/
def sequenceReply (s : State) (n status : Nat) (data : Bytes) : State :=
  match dpPlan s n with
  | some p =>
    if (outAt s n).link ≠ .reading || status ≠ 0 then s
    else if (outAt s n).linkStep = 0 then updOut (readCaps s n data) n fun o => { o with linkStep := 1 }
    else setLink (readEdid s n p data) n .training
  | none => s

/-- A transaction completes: its result stands in Output n AUX Result; under a stream pattern the sink's symbol errors are
summed (R233). -/
def auxReply (s : State) (n status : Nat) (data : Bytes) (symbolErrors : Nat) : State :=
  let s := if (outAt s n).link = .testPattern then bumpBy s (0x304B + 0x100 * n) 0 symbolErrors else s
  match (outAt s n).auxQueue with
  | [] => sequenceReply s n status data
  | (_, r) :: rest =>
    let body := if u8 r 0 = 9 && status = 0 then data.take (u8 r 4) else []
    setEntry (updOut s n fun o => { o with auxQueue := rest }) (0x3047 + 0x100 * n) 2 (.raw (leBytes 1 status ++ body))

def execAuxReply (t : Rrp) (n : Fin 8) (status : Nat) (data : Bytes) (symbolErrors : Nat) (s : State) : Out :=
  .next (finish s (auxReply (atTime s t) n.val status data symbolErrors))

/-! ### PHY faults (R231) -/

/-- Whether an output runs. -/
def outRuns (s : State) (n : Nat) : Bool := (outAt s n).scan = .starting || (outAt s n).scan = .running

/-- A PHY fault of DPOn: the link stops, and attempts are scheduled; during the third one it ends them. A port that stays stopped has
no further fault. -/
def phyFault (s : State) (n : Nat) : State :=
  if !outRuns s n || (outAt s n).phyStopped then s
  else linkFault (updOut s n fun o => { o with
    link := .phyFault, sendLive := false, phyStopped := o.phyAttempts ≥ 3 }) n

def execPhyFault (t : Rrp) (n : Fin 8) (s : State) : Out := .next (finish s (phyFault (atTime s t) n.val))

/-- An attempt, of at most three: the link starts again unless the fault is still present; after the third the port stays stopped
until the next Bring-up. -/
def phyRetry (s : State) (n : Nat) (present : Bool) : State :=
  let o := outAt s n
  if o.link ≠ .phyFault || o.phyAttempts ≥ 3 || !outRuns s n then s
  else
    let s := updOut s n fun o => { o with phyAttempts := o.phyAttempts + 1, phyStopped := present && o.phyAttempts + 1 ≥ 3 }
    if present then s
    else match planNow s n with
      | none => s
      | some p =>
        if isDp p then setLink s n (if o.hpd then .reading else .noSink)
        else updOut s n fun o => { o with link := .up, carrying := false, startAt := s.now }

def execPhyRetry (t : Rrp) (n : Fin 8) (present : Bool) (s : State) : Out :=
  .next (finish s (phyRetry (atTime s t) n.val present))

/-! ### Service (R232, R233) -/

/-- A write of Output n Immediate Enable: 0 empties every layer that immediate writes set. -/
def immediateEnable (s : State) (o : Origin) (n value : Nat) : Nat × State :=
  if !outRuns s n then (stMode, s)
  else
    let s := storeNum s o (0x3048 + 0x100 * n) 1 value
    if value = 1 then (stOk, s)
    else
      let s := updOut s n fun o => { o with immediate := [] }
      (stOk, emptyLayers s n fun _ c => c.by_ = .immediate)

def execImmediateEnable (t : Rrp) (o : Origin) (n : Fin 8) (value : Nat) (s : State) : Out :=
  .next (finish s (rowWriteNum (atTime s t) o (0x3048 + 0x100 * n.val) 1 value fun s => immediateEnable s o n.val value))

/-- Whether an immediate descriptor passes the checks of R232. -/
def immediateOk (s : State) (p : OutPlan) (b : Bytes) : Bool :=
  let d := descOf b
  descFormatOk b && d.plane0 < 2 ^ 40 && d.plane1 < 2 ^ 40 && d.fence = 0 && geometryOk p.hActive p.vActive d &&
    (planeEnds d).all fun a => accessAllowed s .mgmt false a 1

/-- A write of Output n Immediate Descriptor: the layer's content from a band that begins at least 1 RL later. -/
def immediateDescriptor (s : State) (n : Nat) (b : Bytes) : Nat × State :=
  match planNow s n with
  | none => (stMode, s)
  | some p =>
    if entryNum s (0x3048 + 0x100 * n) 1 ≠ 1 || !outRuns s n then (stMode, s)
    else if b.length ≠ 64 then (stLength, s)
    else if !immediateOk s p b then (stRange, s)
    else (stOk, updOut s n fun o => { o with immediate := o.immediate ++ [(s.now, (descOf b).layer, descOf b)] })

def execImmediateDescriptor (t : Rrp) (o : Origin) (n : Fin 8) (desc : Bytes) (s : State) : Out :=
  .next (finish s (rowWrite (atTime s t) o (0x3048 + 0x100 * n.val) 2 desc fun s => immediateDescriptor s n.val desc))

/-- A write of Output n Test Pattern: a stream pattern is refused on LVDS; ending one is followed by training (R233). -/
def testPattern (s : State) (o : Origin) (n value : Nat) : Nat × State :=
  let lvds := match planNow s n with
    | some p => !isDp p
    | none => false
  if value ≥ 4 && lvds then (stMode, s)
  else
    let s := storeNum s o (0x3049 + 0x100 * n) 0 value
    (stOk, if value < 4 && (outAt s n).link = .testPattern then setLink (writeLinkQual s n 0) n .training else s)

def execTestPattern (t : Rrp) (o : Origin) (n : Fin 8) (value : Nat) (s : State) : Out :=
  .next (finish s (rowWriteNum (atTime s t) o (0x3049 + 0x100 * n.val) 0 value fun s => testPattern s o n.val value))

end Sys2Proof.Machine
end

