-- ==== Sys2Proof/Machine/Media.lean ====
section
/-! DEFINITION. Capture inputs, the stream decoder, feeds and the compositor jobs that scale feed pictures (chapter 10;
R257 to R259). -/

namespace Sys2Proof.Machine

/-! ### What a slice's jobs end with (R242, R282) -/

/-- A job fence: STATUS, 24 bits of the job's own, JOB_SEQ, and the vector of its cause (R242, R282). -/
def jobFence (s : State) (k cause addr status mid seq : Nat) : State :=
  let s := if addr = 0 || addr % 8 ≠ 0 then s
    else recordWrite s k addr (leBytes 8 (status * 2 ^ 56 + mid % 2 ^ 24 * 2 ^ 32 + seq)) true
  raiseCause s k cause

/-- The arrival of the entry at HEAD: the doorbell that made it available (R241). -/
def bellArrival (bells : List (Nat × Rrp)) (head size : Nat) (now : Rrp) : Rrp :=
  match bells.find? fun b => 1 ≤ (b.1 + size - head) % size with
  | some b => b.2
  | none => now

/-- Doorbells whose entries have all been taken are forgotten. -/
def dropBells (bells : List (Nat × Rrp)) (head size : Nat) : List (Nat × Rrp) :=
  bells.filter fun b => (b.1 + size - head) % size ≠ 0

/-! ### The decoder ring (R276, R280 to R283) -/

/-- Whether region MEDIA works: its domain is on and it is not isolated. -/
def mediaOn (s : State) : Bool := domainOn s 13 && !isolatedRegion s .media

/-- A decoder job entry (Table 10-1). -/
def decJobOf (e : Bytes) : DecJob :=
  { bsAddr := u64 e 0, bsLen := u32 e 8, seq := u32 e 12, fence := u64 e 16, luma := u64 e 24, chroma := u64 e 32,
    pitch := u32 e 40, stream := u8 e 44, flags := u8 e 45, dpbAddr := u64 e 48, dpbKiB := u32 e 56 }

/-- CAPTURE and INPUT of a job. -/
def isCapture (j : DecJob) : Bool := bit j.flags 4
def captureInput (j : DecJob) : Nat := b2n (bit j.flags 3)

/-- Whether an entry keeps Table 10-1 and R280. -/
def decEntryOk (e : Bytes) (j : DecJob) : Bool :=
  zeros e 46 2 && zeros e 60 4 && j.flags < 32 && j.stream ≤ 3 && j.fence % 8 = 0 && j.luma % 256 = 0 && j.pitch % 64 = 0 &&
    if isCapture j then j.bsAddr = 0 && j.bsLen = 0 && j.chroma = 0 && j.dpbAddr = 0 && j.dpbKiB = 0
    else j.bsAddr % 64 = 0 && 1 ≤ j.bsLen && j.bsLen ≤ 16777216 && j.chroma % 256 = 0 && j.dpbAddr % 4096 = 0

/-- A decoder or capture job completed (R282). -/
def endDecJob (s : State) (k : Nat) (j : DecJob) (status mid : Nat) : State :=
  jobFence (updDecRing s k fun q => { q with cur := none }) k 4 j.fence status mid j.seq

/-- A decode job completed without a decoded picture: its picture order count is not stated, a free value. -/
def failDecJob (s : State) (k : Nat) (j : DecJob) (status : Nat) : State :=
  let (f, s) := takeFree s (2 ^ 24)
  endDecJob s k j status f

/-- The head of slice k's decoder ring taken, as long as the entries end at once (BAD_ENTRY, UNSUPPORTED); n bounds their
number. An entry that cannot be read is skipped and shown in BLOCKED. -/
def takeDecJobs (k : Nat) : Nat → State → State
  | 0, s => s
  | n + 1, s =>
    let q := decRingAt s k
    if q.cur.isSome || q.head = q.tail then s
    else
      let size := 2 ^ (sreg s k 0x308 % 16)
      let arr := bellArrival q.arrivals q.head size s.now
      let (r, s) := sliceRead s k (sreg s k 0x300 + q.head * 64) 64 true
      let head := (q.head + 1) % size
      let s := updDecRing s k fun q => { q with head := head, arrivals := dropBells q.arrivals head size }
      match r with
      | .ok e =>
        let j := decJobOf e
        if !decEntryOk e j then takeDecJobs k n (failDecJob s k j 9)
        else if isCapture j && ownerSlice s 0x02 (captureInput j) ≠ some k then takeDecJobs k n (failDecJob s k j 6)
        else updDecRing s k fun q => { q with cur := some (j, arr) }
      | _ => takeDecJobs k n (sliceBlocked s k)

/-- The decoder ring enabled (R415): 64-byte entries, 16 to 4 096 of them as in the GPU ring. -/
def decRingEnable (s : State) (k value : Nat) : State :=
  if windowOpen s k then ringCtrl s k 0x308 0x300 64 4 12 value true true else s

def execDecRingEnable (t : Rrp) (sl : Fin 32) (value : Nat) (s : State) : Out :=
  .next (finish s (decRingEnable (atTime s t) sl.val value))

/-- A doorbell of the decoder ring (R280, R415). Entries are taken while MEDIA works. -/
def decDoorbell (s : State) (k tail : Nat) : State :=
  if !windowOpen s k then s
  else if bellOk s k 0x308 tail then
    let s := updDecRing s k fun q => { q with
      tail := tail, arrivals := if tail = q.head then q.arrivals else q.arrivals ++ [(tail, s.now)] }
    if mediaOn s then takeDecJobs k 4096 s else s
  else discardStart s k

def execDecDoorbell (t : Rrp) (sl : Fin 32) (tail : Nat) (s : State) : Out :=
  .next (finish s (decDoorbell (atTime s t) sl.val (tail % 65536)))

/-! ### Decoding (R277 to R281) -/

def updMedia (s : State) (f : Media → Media) : State := { s with media := f s.media }

/-- The stream context of a slice's stream, of a feed. -/
def streamOf (s : State) (k stream : Nat) : Option StreamCtx :=
  s.media.streams.find? fun c => c.slice = some k && c.stream = stream

/-- The contexts that p keeps. -/
def keepStreams (s : State) (p : StreamCtx → Bool) : State := updMedia s fun m => { m with streams := m.streams.filter p }

/-- A stream waits for its next IDR or IRAP picture (R279). -/
def streamWaits (s : State) (k stream : Nat) (w : Bool) : State :=
  let set_ := fun (c : StreamCtx) => if c.slice = some k && c.stream = stream then { c with waiting := w } else c
  updMedia s fun m => { m with streams := m.streams.map set_ }

/-- The bytes of one decoded picture: NV12, or P010 for 10-bit streams (R277, R281). -/
def pictureBytes (p : Picture) : Nat :=
  p.width * p.height * (if p.deep then 2 else 1) + 2 * ((p.width + 1) / 2) * ((p.height + 1) / 2) * (if p.deep then 2 else 1)

/-- A picture is within R277, for a codec (0 H.264, 1 H.265). -/
def pictureLimits (codec : Nat) (p : Picture) : Bool :=
  let profile := if codec = 0 then !p.deep && (p.profile = .constrainedBaseline || p.profile = .main)
    else (p.profile = .main && !p.deep) || p.profile = .main10
  profile && p.level ≤ 51 && p.yuv420 && p.width ≤ 4096 && p.height ≤ 2304 && p.width * p.height ≤ 8912896

/-- The codec of a job's stream (Table 10-1). -/
def jobCodec (j : DecJob) : Nat := b2n (bit j.flags 2)

/-- Lines of free bytes written for a principal that w writes for: what a picture holds, the codec standards decide. -/
def writeFreeLines (s : State) (w : State → Nat → Bytes → Bool × State) (base pitch len lines : Nat) : Bool × State :=
  (rangeFrom 0 lines).foldl (fun (a : Bool × State) y =>
    let (bs, s) := takeBytes a.2 len
    let (ok, s) := w s (base + y * pitch) bs
    (a.1 && ok, s)) (true, s)

/-- A write of slice k's job in its DRAM. -/
def sliceStore (k : Nat) (s : State) (a : Nat) (bs : Bytes) : Bool × State := sliceWrite s k a bs false

/-- The planes of a decoded picture written for slice k; whether every write was made. -/
def writePicture (s : State) (k : Nat) (j : DecJob) (p : Picture) : Bool × State :=
  let unit := if p.deep then 2 else 1
  let (a, s) := writeFreeLines s (sliceStore k) j.luma j.pitch (p.width * unit) p.height
  let (b, s) := writeFreeLines s (sliceStore k) j.chroma j.pitch (2 * ((p.width + 1) / 2) * unit) ((p.height + 1) / 2)
  (a && b, s)

/-- A job of a stream begins: NEW_STREAM takes a free stream context and resets it; whether the stream has one (R281). -/
def beginStream (s : State) (k : Nat) (j : DecJob) : Bool × State :=
  if !bit j.flags 0 then ((streamOf s k j.stream).isSome, s)
  else
    let s := keepStreams s fun c => !(c.slice = some k && c.stream = j.stream)
    if s.media.streams.length ≥ 16 then (false, s)
    else (true, updMedia s fun m => { m with streams := m.streams ++ [⟨some k, j.stream, none, true, j.dpbAddr, j.dpbKiB⟩] })

/-- After a job, END_OF_STREAM frees the context (R281). -/
def endStream (s : State) (k : Nat) (j : DecJob) : State :=
  if bit j.flags 1 then keepStreams s fun c => !(c.slice = some k && c.stream = j.stream) else s

/-- A decode job's picture: its status, and the state after (R279 to R281, Table 10-2). A job of a stream that has no
context ends NO_CONTEXT (DESIGN CHOICE, log entry 23). What it moves counts on the decoder's item, 0x48; how much it reads of its
reference store is not stated. -/
def decodePicture (s : State) (k : Nat) (j : DecJob) (p : Picture) : Nat × State :=
  let (ok, s) := beginStream s k j
  match (if ok then streamOf s k j.stream else none) with
  | none => (5, s)
  | some c =>
    let (n, s) := takeFree s (2 ^ 32)
    let s := noteBytes s 0x48 (64 * ((j.bsLen + 63) / 64 + n))
    let (r, s) := sliceRead s k j.bsAddr j.bsLen true
    match r with
    | .ok _ =>
      if !pictureLimits (jobCodec j) p then (6, s)
      else if c.dpbKiB * 1024 < (p.maxRefs + 1) * pictureBytes p then (0x0A, s)
      else if !p.syntaxOk then (2, streamWaits s k j.stream true)
      else if c.waiting && !p.irap then (3, s)
      else if !p.refsOk then (3, streamWaits s k j.stream true)
      else
        let s := noteBytes (streamWaits s k j.stream false) 0x48 (2 * pictureBytes p)
        let (a, s) := writeFreeLines s (sliceStore k) c.dpbAddr 0 (c.dpbKiB * 1024) 1
        let (b, s) := writePicture s k j p
        (if a && b then 0 else 4, s)
    | _ => (4, sliceBlocked s k)

/-- The decode job that the decoder takes first of those at the heads of the rings, by arrival (R278). -/
def firstDecJob (s : State) : Option (Nat × DecJob × Rrp) :=
  let jobs := (rangeFrom 0 32).filterMap fun k => match (decRingAt s k).cur with
    | some (j, a) => if isCapture j then none else some (k, j, a)
    | none => none
  jobs.foldl (fun b e => match b with
    | some x => if rrpBefore e.2.2 x.2.2 then some e else some x
    | none => some e) none

/-- Whether the decoder can be at slice k's job (R278, log entry 152): none of another slice has arrived earlier, and no feed picture
that was complete when the job could begin still waits. -/
def decodesNow (s : State) (k : Nat) (arrival : Rrp) : Bool :=
  let begins := if rrpBefore arrival s.media.lastDone then s.media.lastDone else arrival
  (match firstDecJob s with
    | some (_, _, a) => !rrpBefore a arrival
    | none => true) &&
    (decRingAt s k).cur.isSome &&
    (rangeFrom 0 32).all fun f => !(feedAt s f).live || (feedAt s f).pictureReady.all fun r => rrpBefore begins r

/-- The decoder ends a picture. -/
def decoderDone (s : State) : State := updMedia s fun m => { m with lastDone := s.now }

/-- A guest decode job ends (R279 to R282); the next entry of its ring comes to the head. While the DEFER action holds the decoder
back no job ends (Table 4-6). -/
def decodeComplete (s : State) (k : Nat) (p : Picture) : State :=
  match (decRingAt s k).cur with
  | some (j, a) =>
    if isCapture j || !mediaOn s || engagedWith s 0x48 2 || !decodesNow s k a then s
    else
      let (st, s) := decodePicture s k j p
      let s := decoderDone (endStream s k j)
      let s := if st = 0 then endDecJob s k j 0 (ofSint 24 p.poc) else failDecJob s k j st
      takeDecJobs k 4096 s
  | none => s

def execDecoderJobComplete (t : Rrp) (sl : Fin 32) (p : Picture) (s : State) : Out :=
  .next (finish s (decodeComplete (atTime s t) sl.val p))

/-- Running jobs ended with MODE before MEDIA goes off (R283). -/
def endMediaJobs (s : State) : State :=
  let s := each (rangeFrom 0 32) s fun s k =>
    match (decRingAt s k).cur with
    | some (j, _) => failDecJob (if isCapture j then s else endStream (beginStream s k j).2 k j) k j 8
    | none => s
  each (rangeFrom 0 2) s fun s i => updCapture s i fun c => { c with job := none, toFeeds := false }

/-- The entries left in slice k's decoder ring ended with SLICE_RESET, in ring order; n bounds their number. -/
def flushDecRing (k : Nat) : Nat → State → State
  | 0, s => s
  | n + 1, s =>
    let q := decRingAt s k
    if q.head = q.tail then s
    else
      let size := 2 ^ (sreg s k 0x308 % 16)
      let (r, s) := sliceRead s k (sreg s k 0x300 + q.head * 64) 64 true
      let s := updDecRing s k fun q => { q with head := (q.head + 1) % size }
      let s := match r with
        | .ok e => failDecJob s k (decJobOf e) 7
        | _ => sliceBlocked s k
      flushDecRing k n s

/-- A forced reset ends the slice's decoder jobs with SLICE_RESET in ring order and frees its contexts (R283). -/
def resetDecoder (s : State) (k : Nat) (forced : Bool) : State :=
  let s := if !forced then s else
    let s := match (decRingAt s k).cur with
      | some (j, _) => failDecJob s k j 7
      | none => s
    flushDecRing k 4096 s
  let s := each (rangeFrom 0 2) s fun s i => updCapture s i fun c =>
    if (c.job.map fun j => j.1) = some k then { c with job := none } else c
  keepStreams (updDecRing s k fun _ => ⟨0, 0, [], none⟩) fun c => c.slice ≠ some k

/-! ### Capture inputs (R273 to R276) -/

/-- Whether an input can capture what its source sends (R273): RBR, HBR, HBR2 or HBR3 on 1, 2 or 4 lanes, RGB 4:4:4 at 6, 8 or 10 bpc,
an active area of 640 to 3 840 by 480 to 2 160, and a pixel clock of at most 600 MHz. -/
def capturable (c : Capture) : Bool :=
  match c.signal with
  | .stream rate lanes rgb bpc khz =>
    [162, 270, 540, 810].contains rate && [1, 2, 4].contains lanes && rgb && [6, 8, 10].contains bpc && khz ≤ 600000 &&
      640 ≤ c.width && c.width ≤ 3840 && 480 ≤ c.height && c.height ≤ 2160
  | _ => false

/-- Capture Input State (0x5701): disabled, no signal, training, capturing, unsupported. -/
def captureState (s : State) (i : Nat) : Nat :=
  let c := captureAt s i
  if entryNum s 0x5700 (i + 1) = 0 || !mediaOn s then 0
  else match c.signal with
    | .nothing => 1
    | .training => 2
    | _ => if capturable c then 3 else 4

/-- HPD of each input follows its enable while MEDIA is on, and is low for 500 ms after an EDID write (R274); the pads of a lowered
MEDIA hold their levels (R461). -/
def driveHpd (s : State) : State :=
  if !mediaOn s then s
  else each (rangeFrom 0 2) s fun s i =>
    let c := captureAt s i
    let level := entryNum s 0x5700 (i + 1) = 1 && !c.hpdHold
    if c.hpd = level then s else emit (updCapture s i fun c => { c with hpd := level }) (.captureHpd i level)

/-- A change of what the source sends, with its timing. -/
def signalChange (s : State) (i : Nat) (signal : Sent) (width height mhz : Nat) : State :=
  if !mediaOn s then s
  else updCapture s i fun c => { c with
    signal := signal, width := width % 65536, height := height % 65536, mhz := mhz % 2 ^ 32, job := none, toFeeds := false }

def execCaptureSignalChange (t : Rrp) (i : Fin 2) (signal : Sent) (width height mhz : Nat) (s : State) : Out :=
  .next (finish s (signalChange (atTime s t) i.val signal width height mhz))

/-- The feeds live on a source. -/
def feedsOn (s : State) (src : Nat) : List Nat :=
  (rangeFrom 0 32).filter fun f => (feedAt s f).live && entryNum s (0x5740 + f) 2 = src

/-- Whether an entry that still waits in slice k's decoder ring is a capture job of input i. -/
def captureQueued (s : State) (k i : Nat) : Bool :=
  let q := decRingAt s k
  let size := 2 ^ (sreg s k 0x308 % 16)
  (rangeFrom 0 ((q.tail + size - q.head) % size)).any fun d =>
    match (sliceRead s k (sreg s k 0x300 + (q.head + d) % size * 64) 64 true).1 with
    | .ok e => isCapture (decJobOf e) && captureInput (decJobOf e) = i
    | _ => false

/-- A source frame begins (R276): for the capture job at the head of the owning slice's queue; missed where none is queued;
for the feeds where no slice owns the input. -/
def captureStart (s : State) (i : Nat) : State :=
  if captureState s i ≠ 3 then s
  else match ownerSlice s 0x02 i with
    | some k =>
      let missed := fun (s : State) => if captureQueued s k i then s else bump s 0x5704 (i + 1)
      match (decRingAt s k).cur with
      | some (j, _) =>
        if isCapture j && captureInput j = i then updCapture s i fun c => { c with job := some (k, j) } else missed s
      | none => missed s
    | none => updCapture s i fun c => { c with toFeeds := !secureOwned s 0x02 i && !(feedsOn s (i + 1)).isEmpty }

def execCaptureFrameStart (t : Rrp) (i : Fin 2) (s : State) : Out := .next (finish s (captureStart (atTime s t) i.val))

/-- A captured pixel in memory (R275): 10 bpc as ABGR2101010, 8 and 6 bpc as ARGB8888. -/
def captureWord (bpc : Nat) (p : Rgb) : Nat :=
  let c8 := fun (x : Nat) => if bpc = 6 then x % 64 * 4 + x % 64 / 16 else x % 256
  if bpc = 10 then 3 * 2 ^ 30 + p.b % 1024 * 2 ^ 20 + p.g % 1024 * 2 ^ 10 + p.r % 1024
  else 255 * 2 ^ 24 + c8 p.r * 2 ^ 16 + c8 p.g * 2 ^ 8 + c8 p.b

/-- The bytes of a captured line. -/
def captureLine (bpc : Nat) (px : List Rgb) : Bytes := px.flatMap fun p => leBytes 4 (captureWord bpc p)

/-- Lines written at a pitch; whether every write was made. -/
def writeLines (s : State) (w : State → Nat → Bytes → Bool × State) (base pitch : Nat) (lines : List Bytes) : Bool × State :=
  (enumFrom 0 lines).foldl (fun (a : Bool × State) e =>
    let (ok, s) := w a.2 (base + e.1 * pitch) e.2
    (a.1 && ok, s)) (true, s)

/-! ### The media pool (R284, R286 to R288)

Where a feed's four buffers stand in the pool is not stated: they take the lowest place that no live feed has, each of 4 bytes a pixel
at a pitch of a multiple of 64 and half as many lines again for chroma, on whole pages (DESIGN CHOICE, log entry 24). A picture that
waits for its scaling stands outside the pool until then. -/

/-- WIDTH, HEIGHT, DST_X and DST_Y of a feed's placement. -/
def feedW (s : State) (f : Nat) : Nat := bits (entryNum s (0x5740 + f) 7) 31 16
def feedH (s : State) (f : Nat) : Nat := bits (entryNum s (0x5740 + f) 7) 15 0
def feedX (s : State) (f : Nat) : Nat := bits (entryNum s (0x5740 + f) 7) 63 48
def feedY (s : State) (f : Nat) : Nat := bits (entryNum s (0x5740 + f) 7) 47 32
/-- The feed's layer. -/
def feedOut (s : State) (f : Nat) : Nat := bits (entryNum s (0x5740 + f) 1) 15 8
def feedLayer (s : State) (f : Nat) : Nat := bits (entryNum s (0x5740 + f) 1) 7 0
/-- SCALE, CSC and A_L of its presentation. -/
def feedScale (s : State) (f : Nat) : Bool := bit (entryNum s (0x5740 + f) 8) 8
def feedCsc (s : State) (f : Nat) : Nat := bits (entryNum s (0x5740 + f) 8) 19 16
def feedAlpha (s : State) (f : Nat) : Nat := bits (entryNum s (0x5740 + f) 8) 31 24

/-- The pitch and size of one buffer of a feed. -/
def bufPitch (s : State) (f : Nat) : Nat := (feedW s f * 4 + 63) / 64 * 64
def bufSize (s : State) (f : Nat) : Nat := (bufPitch s f * (feedH s f + (feedH s f + 1) / 2) + 4095) / 4096 * 4096

/-- The area of the pool that a live feed's buffers take: offset and end. -/
def feedArea (s : State) (f : Nat) : Option (Nat × Nat) :=
  if (feedAt s f).live then (feedAt s f).place.map fun o => (o, o + 4 * bufSize s f) else none

/-- The lowest place in the pool for a feed's buffers; none where it cannot hold them. -/
def freePlace (s : State) (f : Nat) : Option Nat :=
  let taken := (rangeFrom 0 32).filterMap fun g => if g = f then none else feedArea s g
  let need := 4 * bufSize s f
  ((sortBy id (0 :: taken.map fun a => a.2)).find? fun o => taken.all fun a => o + need ≤ a.1 || a.2 ≤ o).filter fun o =>
    o + need ≤ entryNum s 0x5720 2 * 1024

/-- A live feed without a place takes one as soon as the pool can hold its buffers. -/
def placeFeed (s : State) (f : Nat) : State :=
  if (feedAt s f).place.isSome then s else updFeed s f fun q => { q with place := freePlace s f }

/-- The pool holds a feed's buffers (R288). -/
def poolHolds (s : State) (f : Nat) : Bool := (feedAt s f).place.isSome

/-- The address of a buffer of a feed. -/
def bufAddr (s : State) (f b : Nat) : Nat := entryNum s 0x5720 1 + ((feedAt s f).place.getD 0) + b * bufSize s f

/-- A write of the media pool, which the management core owns (R284). -/
def poolStore (s : State) (a : Nat) (bs : Bytes) : Bool × State := memWrite s .mgmt a bs

/-- Lines written at a pitch into the pool. -/
def poolLines (s : State) (base pitch : Nat) (lines : List Bytes) : State :=
  each (enumFrom 0 lines) s fun s e => (poolStore s (base + e.1 * pitch) e.2).2

/-- A picture of a feed that is never shown counted in Dropped Pictures (R279, R286). -/
def countDropped (s : State) (f : Nat) : State := bump s (0x5740 + f) 0x0E

/-- A feed has a buffer for a new picture: one that is neither latched nor holds the newest complete picture nor one still to be
scaled; where all four are taken, the oldest that waits for its scaling goes (R286). -/
def takeBuffer (s : State) (f : Nat) : Nat × State :=
  let q := feedAt s f
  let used := ((q.shown.toList ++ q.newest.toList) ++ q.scaling).map fun p => p.buf
  match (rangeFrom 0 4).find? fun b => !used.contains b, q.scaling with
  | some b, _ => (b, s)
  | none, p :: rest => (p.buf, countDropped (updFeed s f fun q => { q with scaling := rest }) f)
  | none, [] => (0, s)

/-- A picture of a feed is complete: the newest, unless a newer one is; one superseded is counted (R286). -/
def completePicture (s : State) (f : Nat) (p : FeedPic) : State :=
  match (feedAt s f).newest with
  | some q =>
    let keep := if p.no < q.no then q else p
    countDropped (updFeed s f fun q => { q with newest := some keep }) f
  | none => updFeed s f fun q => { q with newest := some p }

/-- A picture captured or decoded for a live feed (R275, R286, R287): where SCALE is 1 it waits for its scaling job, else its lines,
if its size is the placement's, are written and it is complete. -/
def newFeedPicture (s : State) (f width height : Nat) (deep : Bool) (luma chroma : List Bytes) : State :=
  let s := placeFeed s f
  if !poolHolds s f then s
  else
    let (b, s) := takeBuffer s f
    let p : FeedPic := ⟨(feedAt s f).made, b, width, height, deep, luma, chroma, false, s.now⟩
    let s := updFeed s f fun q => { q with made := q.made + 1 }
    if feedScale s f then updFeed s f fun q => { q with scaling := q.scaling ++ [p] }
    else
      let s := if !(width = feedW s f && height = feedH s f) then s else
        let pitch := bufPitch s f
        poolLines (poolLines s (bufAddr s f b) pitch luma) (bufAddr s f b + pitch * height) pitch chroma
      completePicture s f { p with luma := [], chroma := [] }

/-- Captured lines given to a live feed of the input. -/
def captureToFeed (s : State) (f bpc width height : Nat) (lines : List Bytes) : State :=
  newFeedPicture s f width height (bpc = 10) lines []

/-- The last active line of a captured frame has been written (R275, R276, R282); its writes count on the display-capture item. -/
def captureComplete (s : State) (i bpc : Nat) (pixels : List (List Rgb)) : State :=
  if !mediaOn s then s
  else
    let c := captureAt s i
    let lines := pixels.map (captureLine bpc)
    let bytes := (lines.map fun l => (l.length + 63) / 64 * 64).sum
    let s := updCapture s i fun c => { c with job := none, toFeeds := false }
    match c.job with
    | some (k, j) =>
      let (ok, s) := writeLines (noteBytes s 0x49 bytes) (sliceStore k) j.luma j.pitch lines
      takeDecJobs k 4096 (endDecJob s k j (if ok then 0 else 4) s.now.frame)
    | none =>
      if c.toFeeds then each (feedsOn s (i + 1)) s fun s f =>
        captureToFeed (noteBytes s 0x49 bytes) f bpc c.width c.height lines
      else s

def execCaptureFrameComplete (t : Rrp) (i : Fin 2) (bpc : Nat) (pixels : List (List Rgb)) (s : State) : Out :=
  .next (finish s (captureComplete (atTime s t) i.val bpc pixels))

/-- Capture EDID written (R274): 256 bytes, and HPD held low. -/
def edidWrite (s : State) (o : Origin) (i : Nat) (data : Bytes) : Nat × State :=
  if data.length ≠ 256 then (stLength, s)
  else (stOk, driveHpd (updCapture (storeValue s o 0x5703 (i + 1) data) i fun c => { c with hpdHold := true }))

def execCaptureEdidWrite (t : Rrp) (o : Origin) (i : Fin 2) (data : Bytes) (s : State) : Out :=
  .next (finish s (rowWrite (atTime s t) o 0x5703 (i.val + 1) data fun s => edidWrite s o i.val data))

/-- 500 ms after an EDID write, HPD goes high again (R274). -/
def hpdRestore (s : State) (i : Nat) : State := driveHpd (updCapture s i fun c => { c with hpdHold := false })

/-- Capture Enable written. -/
def captureEnable (s : State) (o : Origin) (i : Nat) (data : Bytes) : Nat × State :=
  (stOk, driveHpd (storeValue s o 0x5700 (i + 1) data))

def execCaptureHpdRestore (t : Rrp) (i : Fin 2) (s : State) : Out := .next (finish s (hpdRestore (atTime s t) i.val))

/-! ### Feeds (R284 to R288) -/

/-- A feed waits for an IDR or IRAP picture, which Resyncs counts (Table 10-4). -/
def feedResync (s : State) (f : Nat) : State :=
  if (feedAt s f).waitIrap then s else bump (updFeed s f fun q => { q with waitIrap := true }) (0x5740 + f) 0x0F

/-- A picture of a live feed discarded (R279). -/
def discardPicture (s : State) (f : Nat) : State :=
  if (feedAt s f).live then feedResync (bump s (0x5740 + f) 0x0E) f else s

/-- The fields of an RTP packet: payload type, marker, sequence number, timestamp, SSRC, and the offset of its payload. -/
def rtpPt (b : Bytes) : Nat := u8 b 1 % 128
def rtpMarker (b : Bytes) : Bool := bit (u8 b 1) 7
def rtpSeq (b : Bytes) : Nat := beNat (sub b 2 2)
def rtpTs (b : Bytes) : Nat := beNat (sub b 4 4)
def rtpSsrc (b : Bytes) : Nat := beNat (sub b 8 4)
def rtpPayload (b : Bytes) : Nat :=
  let o := 12 + 4 * (u8 b 0 % 16)
  if bit (u8 b 0) 4 then o + 4 + 4 * beNat (sub b (o + 2) 2) else o

/-- Whether a packet is RTP of a form that R285 accepts for a codec (0 H.264, 1 H.265). -/
def rtpOk (codec : Nat) (b : Bytes) : Bool :=
  let h := u8 b (rtpPayload b)
  let ty := if codec = 0 then h % 32 else bits h 6 1
  12 ≤ b.length && u8 b 0 / 64 = 2 && rtpPayload b < b.length &&
    if codec = 0 then (1 ≤ ty && ty ≤ 23) || ty = 24 || ty = 28 else ty ≤ 49

/-- Whether a timestamp is later than another, by serial arithmetic. -/
def tsLater (a b : Nat) : Bool := 0 < (a + 2 ^ 32 - b) % 2 ^ 32 && (a + 2 ^ 32 - b) % 2 ^ 32 < 2 ^ 31

/-- A packet taken in sequence (R285): a marker ends its picture, complete where no gap lies since the previous picture; a
later timestamp ends one whose marker is missing. -/
def deliverPacket (s : State) (f : Nat) (b : Bytes) : State :=
  let q := feedAt s f
  let s := match q.curTs with
    | some ts => if tsLater (rtpTs b) ts then discardPicture s f else s
    | none => s
  if rtpMarker b then
    let s := if q.gap then discardPicture s f
      else updFeed s f fun q => { q with pictureReady := if q.live then q.pictureReady ++ [s.now] else [] }
    updFeed s f fun q => { q with gap := false, curTs := none }
  else updFeed s f fun q => { q with curTs := some (rtpTs b) }

/-- Serial distance of sequence number a past b. -/
def seqAhead (a b : Nat) : Nat := (a % 65536 + 65536 - b % 65536) % 65536

/-- Held packets delivered while the next one in sequence is among them; n bounds their number. -/
def deliverHeld (f : Nat) : Nat → State → State
  | 0, s => s
  | n + 1, s =>
    let q := feedAt s f
    match q.nextSeq with
    | none => s
    | some x =>
      match q.held.find? fun h => h.1 = x with
      | none => s
      | some h =>
        let s := updFeed s f fun q => { q with
          held := q.held.filter fun g => g.1 ≠ x, nextSeq := some ((x + 1) % 65536) }
        deliverHeld f n (deliverPacket s f h.2)

/-- The packets before a sequence number that is 64 or more past the next one are given up (R285): a gap. n bounds the steps. -/
def giveUp (f y : Nat) : Nat → State → State
  | 0, s => s
  | n + 1, s =>
    match (feedAt s f).nextSeq with
    | none => s
    | some x =>
      if seqAhead y x < 64 then s
      else
        let s := updFeed s f fun q => { q with nextSeq := some ((x + 1) % 65536), gap := true }
        giveUp f y n (deliverHeld f 64 s)

/-- A packet of a feed's stream placed in its order (R285). A packet behind the next number is late or repeated: dropped. A marker
that arrives after a gap ends its picture at once, incomplete, with the packets held of it (Table 10-3). -/
def orderPacket (s : State) (f : Nat) (b : Bytes) : State :=
  let y := rtpSeq b
  match (feedAt s f).nextSeq with
  | none => deliverPacket (updFeed s f fun q => { q with nextSeq := some ((y + 1) % 65536) }) f b
  | some x =>
    if seqAhead y x ≥ 32768 then s
    else
      let s := giveUp f y 32768 s
      if rtpMarker b && (feedAt s f).nextSeq ≠ some y && !((feedAt s f).held.any fun h => rtpMarker h.2) then
        deliverHeld f 65 (discardPicture (updFeed s f fun q => { q with
          nextSeq := some ((y + 1) % 65536), held := q.held.filter fun h => seqAhead h.1 y < 32768, gap := false, curTs := none }) f)
      else deliverHeld f 65 (updFeed s f fun q => { q with held := (y, b) :: q.held.filter fun h => h.1 ≠ y })

/-- A packet of a joined feed (R285): the first SSRC is locked to; a change restarts the stream. -/
def feedPacket (s : State) (f : Nat) (b : Bytes) : State :=
  let q := feedAt s f
  if !rtpOk (entryNum s (0x5740 + f) 5 / 128) b then s
  else
    let changed := match q.ssrc with
      | some x => x ≠ rtpSsrc b
      | none => false
    let s := if !changed then s else
      bump (updFeed s f fun q => { q with
        nextSeq := none, held := [], gap := false, curTs := none, pictureReady := [], waitIrap := true }) (0x5740 + f) 0x0F
    orderPacket (updFeed s f fun q => { q with ssrc := some (rtpSsrc b) }) f b

/-- An RTP packet on an Ethernet port given to the feeds that joined its group (R285). -/
def rtpPacket (s : State) (eth group udpPort : Nat) (b : Bytes) : State :=
  if !(mediaOn s && domainOn s 17 && !isolatedRegion s .net) then s
  else each (rangeFrom 0 32) s fun s f =>
    if (feedAt s f).joined && entryNum s (0x5740 + f) 2 = 3 + eth && entryNum s (0x5740 + f) 3 = group &&
        entryNum s (0x5740 + f) 4 = udpPort && entryNum s (0x5740 + f) 5 % 128 = rtpPt b then feedPacket s f b else s

def execRtpPacket (t : Rrp) (eth : Fin 2) (group udpPort : Nat) (rtp : Bytes) (s : State) : Out :=
  .next (finish s (rtpPacket (atTime s t) eth.val group udpPort rtp))

/-- The lines of a plane of a decoded picture: what they hold, the codec standards decide. -/
def freeLines (s : State) (len lines : Nat) : List Bytes × State :=
  (rangeFrom 0 lines).foldl (fun (a : List Bytes × State) _ =>
    let (bs, s) := takeBytes a.2 len
    (a.1 ++ [bs], s)) ([], s)

/-- The decoding of a feed picture that became complete ends (R278, R279, R286, R287). -/
def feedPictureComplete (s : State) (f : Nat) (p : Picture) : State :=
  let q := feedAt s f
  if !(q.live && !q.pictureReady.isEmpty && mediaOn s) || engagedWith s 0x48 2 then s
  else
    let s := decoderDone (updFeed s f fun q => { q with pictureReady := q.pictureReady.drop 1 })
    if !pictureLimits (entryNum s (0x5740 + f) 5 / 128) p || !p.syntaxOk || !p.refsOk then discardPicture s f
    else if q.waitIrap && !p.irap then countDropped s f
    else
      let s := updFeed s f fun q => { q with waitIrap := false }
      let unit := if p.deep then 2 else 1
      let (n, s) := takeFree s (2 ^ 32)
      let s := noteBytes s 0x48 (64 * n + pictureBytes p)
      let (luma, s) := freeLines s (p.width * unit) p.height
      let (chroma, s) := freeLines s (2 * ((p.width + 1) / 2) * unit) ((p.height + 1) / 2)
      newFeedPicture s f p.width p.height p.deep luma chroma

def execFeedPictureComplete (t : Rrp) (f : Fin 32) (p : Picture) (s : State) : Out :=
  .next (finish s (feedPictureComplete (atTime s t) f.val p))

/-- Whether a feed takes RTP. -/
def feedRtp (s : State) (f : Nat) : Bool := 3 ≤ entryNum s (0x5740 + f) 2

/-- The conditions of R284 and R285 for enabling a feed. -/
def feedMayEnable (s : State) (f value : Nat) : Bool :=
  let n := feedOut s f
  let used := (rangeFrom 0 32).any fun g =>
    g ≠ f && (feedAt s g).joined && entryNum s (0x5740 + g) 1 = entryNum s (0x5740 + f) 1
  let rate := (((rangeFrom 0 32).filter fun g => g = f || (feedAt s g).live).map fun g => entryNum s (0x5740 + g) 6).sum
  let base := entryNum s 0x5720 1
  let size := entryNum s 0x5720 2 * 1024
  let src := entryNum s (0x5740 + f) 2
  let owned := (src = 1 || src = 2) && ((ownerSlice s 0x02 (src - 1)).isSome || secureOwned s 0x02 (src - 1))
  match activeLast s, activePlan s n with
  | some l, some p =>
    (match bindingOf l n (feedLayer s f) with
      | some b => b.slice = 0xFF
      | none => true) &&
    feedLayer s f < 16 && !used && feedX s f + feedW s f ≤ p.hActive && feedY s f + feedH s f ≤ p.vActive && size ≠ 0 &&
    base % 4096 = 0 && accessAllowed s .mgmt true base size && src ≠ 0 && !owned &&
    (value ≠ 2 || !feedRtp s f ||
      (rate ≤ 995328000 && (s.media.streams.filter fun c => c.feed ≠ some f).length < 16))
  | _, _ => false

/-- A feed stopped: its group left, its stream context freed, its layer emptied at the next latch. -/
def feedStop (s : State) (f : Nat) : State :=
  let s := if (feedAt s f).joined && feedRtp s f then emit s (.igmp f false) else s
  keepStreams (updFeed s f fun _ => resetFeed) fun c => c.feed ≠ some f

/-- A feed joined or live (R285): a live one waits for its first IDR or IRAP picture. -/
def feedStart (s : State) (f value : Nat) : State :=
  let q := feedAt s f
  let rtp := feedRtp s f
  let s := if rtp && !q.joined then emit s (.igmp f true) else s
  let s := keepStreams s fun c => c.feed ≠ some f
  if value = 2 then
    let s := if rtp then updMedia s fun m => { m with streams := m.streams ++ [⟨none, 0, some f, true, 0, 0⟩] } else s
    let s := if rtp then bump s (0x5740 + f) 0x0F else s
    placeFeed (updFeed s f fun q => { q with
      joined := true, live := true, waitIrap := rtp, pictureReady := [], scaling := [], newest := none, place := none
      lastNew := s.now.frame }) f
  else updFeed s f fun q => { q with joined := true, live := false, scaling := [], newest := none, place := none }

/-- Feeds enabled before Bring-up start as MEDIA comes up (R285), and show once a last runs their outputs (R289): one that finds no
stream context is refused. -/
def feedsBegin (s : State) : State :=
  each (rangeFrom 0 32) s fun s f =>
    let v := entryNum s (0x5740 + f) 0x0B
    if v = 0 || (feedAt s f).joined then s
    else if v = 2 && feedRtp s f && 16 ≤ s.media.streams.length then setNum s (0x5740 + f) 0x0C 7
    else updFeed (feedStart s f v) f fun q => { q with suspended := true }

/-- MEDIA comes up: HPD is driven, the entries that stayed in the decoder rings are taken, the enabled feeds start (R274, R283). -/
def mediaOnBegin (s : State) : State :=
  feedsBegin (each (rangeFrom 0 32) (driveHpd s) fun s k => takeDecJobs k 4096 s)

/-- Feed f Enable written (R284, R285): refused with 0x0609 0030 and Feed State 7 where a condition fails. -/
def feedEnable (s : State) (o : Origin) (f value : Nat) : Nat × State :=
  if value = 0 then (stOk, feedStop (storeNum (setNum s (0x5740 + f) 0x0C 0) o (0x5740 + f) 0x0B 0) f)
  else if feedMayEnable s f value then
    (stOk, feedStart (storeNum (setNum s (0x5740 + f) 0x0C 0) o (0x5740 + f) 0x0B value) f value)
  else (stRange, setNum s (0x5740 + f) 0x0C 7)

def execFeedEnable (t : Rrp) (o : Origin) (f : Fin 32) (value : Nat) (s : State) : Out :=
  .next (finish s (rowWriteNum (atTime s t) o (0x5740 + f.val) 0x0B value fun s => feedEnable s o f.val value))

/-- Feed State (0x5740 + f:0C). -/
def feedState (s : State) (f : Nat) : Nat :=
  let q := feedAt s f
  if entryNum s (0x5740 + f) 0x0C = 7 then 7
  else if !q.joined then 0
  else if q.suspended then 6
  else if !q.live then 1
  else if q.fallback then 5
  else if q.shown.isSome then (if q.waitIrap then 4 else 3)
  else 2

/-- The cases of R288 in which a feed's layer shows its fallback colour from the next LATCH. -/
def feedFallback (s : State) (f : Nat) : Bool :=
  let q := feedAt s f
  let hold := entryNum s (0x5740 + f) 0x0A
  !q.everShown || (hold ≠ 0 && hold ≤ frameDiff s.now.frame q.lastNew) || isolatedRegion s .media || !poolHolds s f

/-- Hold Frames have passed since the feed last latched a new picture (R288). -/
def feedHoldExpire (s : State) (f : Nat) : State :=
  let q := feedAt s f
  let hold := entryNum s (0x5740 + f) 0x0A
  if q.live && !q.suspended && hold ≠ 0 && hold ≤ frameDiff s.now.frame q.lastNew then
    updFeed s f fun q => { q with fallback := true }
  else s

def execFeedHoldExpire (t : Rrp) (f : Fin 32) (s : State) : Out := .next (finish s (feedHoldExpire (atTime s t) f.val))

/-- What a feed's layer holds for a picture, or for its fallback colour (R286 to R288). -/
def feedContent (s : State) (f : Nat) (effect : Rrp) (p : FeedPic) (fall : Bool) : Content :=
  let captured := entryNum s (0x5740 + f) 2 ≤ 2
  let scaled := feedScale s f
  let addr := bufAddr s f p.buf
  let fmt := if captured || scaled then (if p.deep then 2 else 1) else if p.deep then 5 else 4
  { by_ := .feed f
    desc := { layer := feedLayer s f, fmt := fmt, flags := 1, alpha := feedAlpha s f, csc := if scaled then 0 else feedCsc s f,
              plane0 := addr, plane1 := addr + bufPitch s f * p.height, pitch0 := bufPitch s f, pitch1 := bufPitch s f,
              srcX := 0, srcY := 0, width := feedW s f, height := feedH s f, dstX := feedX s f, dstY := feedY s f,
              fence := 0 }
    slice := 0xFF, seq := 0, effect := effect, blockedFrom := if fall then some 0 else none }

/-- The instance under which faults of the GPU that no cluster has are recorded (DESIGN CHOICE, log entry 25). -/
def gpuNoCluster : Nat := 12

/-- A feed's layer takes its fallback colour. -/
def showFallback (s : State) (n f : Nat) (effect : Rrp) : State :=
  let q := feedAt s f
  let p := (q.shown.orElse fun _ => q.newest).getD ⟨0, 0, feedW s f, feedH s f, false, [], [], false, effect⟩
  setLayer (updFeed s f fun q => { q with fallback := true }) n (feedLayer s f) (some (feedContent s f effect p true))

/-- A live feed at a LATCH of its output (R259, R286 to R289): the fallback colour where MEDIA is isolated or the pool cannot hold its
buffers; the newest complete picture; the fallback colour in the other cases of R288; or what it shows already. A scaling job not
complete by the latch is recorded. -/
def feedLatch (s : State) (n f : Nat) (effect : Rrp) : State :=
  let q := feedAt s f
  if !q.live || q.suspended || feedOut s f ≠ n then s
  else if q.emptied && (q.newest.isNone || s.mode = .hold || s.mode = .quiet) then s
  else
    let s := if q.scaling.isEmpty then s else report s 0x52 gpuNoCluster effGuest
    if isolatedRegion s .media || !poolHolds s f then showFallback s n f effect
    else match q.newest with
      | some p =>
        let bad := !feedScale s f && !(p.width = feedW s f && p.height = feedH s f)
        let s := setLayer s n (feedLayer s f) (some (feedContent s f effect p bad))
        updFeed s f fun q => { q with
          newest := none, shown := some p, shownRrp := effect, lastNew := s.now.frame, everShown := true, fallback := bad,
          emptied := false }
      | none => if feedFallback s f then showFallback s n f effect else s

/-- The feeds of output n at a LATCH; a layer that a feed left is emptied. -/
def feedsLatch (s : State) (n : Nat) (effect : Rrp) : State :=
  let s := emptyLayers s n fun k c => match c.by_ with
    | .feed f => !((feedAt s f).live && !(feedAt s f).suspended && feedOut s f = n && feedLayer s f = k)
    | _ => false
  each (rangeFrom 0 32) s fun s f => feedLatch s n f effect

/-! ### Compositor jobs (R257 to R259, R287) -/

def updGpu (s : State) (f : Gpu → Gpu) : State := { s with gpu := f s.gpu }

/-- The feed sequencer builds the scaling job of a feed's oldest picture that has none yet, one quad of at most 4 096 in a reference
frame (R257); a picture whose quad is not drawn is dropped (log entry 223). -/
def compositorIssue (s : State) (f : Nat) : State :=
  match (feedAt s f).scaling.find? fun p => !p.issued with
  | some p =>
    if !(mediaOn s && domainOn s 12 && !isolatedRegion s .gpu) then s
    else if s.gpu.quads ≥ 4096 then
      let s := countDropped (updFeed s f fun q => { q with scaling := q.scaling.filter fun e => e.no ≠ p.no }) f
      if s.gpu.quadFault then s else report (updGpu s fun g => { g with quadFault := true }) 0x52 gpuNoCluster effGuest
    else
      let s := updFeed s f fun q => { q with scaling := q.scaling.map fun e => if e.no = p.no then { e with issued := true } else e }
      updGpu s fun g => { g with quads := g.quads + 1, compJobs := g.compJobs ++ [(f, p.no)] }
  | none => s

def execCompositorJobIssue (t : Rrp) (f : Fin 32) (s : State) : Out :=
  .next (finish s (compositorIssue (atTime s t) f.val))

/-- The source format of a feed's pictures (Table 6-4): captured frames are RGB, decoded ones NV12 or P010. -/
def feedFormat (s : State) (f : Nat) (deep : Bool) : Nat :=
  if feedRtp s f then (if deep then 5 else 4) else if deep then 2 else 1

/-- The pixel of a source picture at a position, its edges clamped. -/
def picturePx (fmt : Nat) (p : FeedPic) (x y : Int) : Px :=
  let x := (clampInt 0 (p.width - 1 : Nat) x).toNat
  let y := (clampInt 0 (p.height - 1 : Nat) y).toNat
  let n := bytesPer fmt
  let c := chromaBytes fmt
  sourcePx fmt (getLe n (p.luma.getD y []) (n * x)) (if isYuv fmt then getLe c (p.chroma.getD (y / 2) []) (c * (x / 2)) else 0)

/-- Where the centre of pixel i of m lies among n source pixels: the pixel to its left, and how far beyond that one's centre it is,
in parts of 2 m. -/
def sampleAt (i m n : Nat) : Int × Nat :=
  let x : Int := ((2 * i + 1) * n : Nat) - (m : Int)
  (x.fdiv (2 * m : Nat), (x.fmod (2 * m : Nat)).toNat)

/-- A picture sampled bilinearly at the centre of pixel (i, j) of w by h (R257). Chroma is taken as R151 gives it to each pixel, and
the rounding is not stated (log entry 155). -/
def bilinearPx (fmt : Nat) (p : FeedPic) (w h i j : Nat) : Px :=
  let (x, u) := sampleAt i w p.width
  let (y, v) := sampleAt j h p.height
  let total := 4 * w * h
  let a := picturePx fmt p x y
  let b := picturePx fmt p (x + 1) y
  let c := picturePx fmt p x (y + 1)
  let d := picturePx fmt p (x + 1) (y + 1)
  let mix := fun (g : Px → Nat) =>
    let sum := (2 * h - v) * ((2 * w - u) * g a + u * g b) + v * ((2 * w - u) * g c + u * g d)
    (sum + Config.bilinearRound sum % total) / total
  ⟨mix fun q => q.r, mix fun q => q.g, mix fun q => q.b, mix fun q => q.a⟩

/-- A line of a scaled surface (R152, R257, R287): ARGB8888, or ABGR2101010 for deep sources. -/
def scaledLine (s : State) (f : Nat) (p : FeedPic) (y : Nat) : Bytes :=
  let fmt := feedFormat s f p.deep
  let m := matrixOf (outAt s (feedOut s f)) (feedLayer s f)
  (rangeFrom 0 (feedW s f)).flatMap fun x =>
    leBytes 4 (targetWord (if p.deep then 2 else 1) (convertPx fmt (feedCsc s f) m (bilinearPx fmt p (feedW s f) (feedH s f) x y)))

/-- The compositor job at the front completes (R257, R287): the scaled surface is written, and its picture is complete. -/
def compositorDone (s : State) : State :=
  match s.gpu.compJobs with
  | [] => s
  | (f, no) :: rest =>
    let s := updGpu s fun g => { g with compJobs := rest }
    match (feedAt s f).scaling.find? fun p => p.no = no with
    | some p =>
      let bytes := (p.luma ++ p.chroma).map fun l => (l.length + 63) / 64 * 64
      let s := noteBytes s 0x40 (bytes.sum + (feedW s f * 4 + 63) / 64 * 64 * feedH s f)
      let s := poolLines s (bufAddr s f p.buf) (bufPitch s f) ((rangeFrom 0 (feedH s f)).map (scaledLine s f p))
      let s := updFeed s f fun q => { q with scaling := q.scaling.filter fun e => e.no ≠ no }
      completePicture s f { p with luma := [], chroma := [], done := s.now }
    | none => s

/-! ### The contract's DROP for MEDIA (Table 4-6) -/

/-- The picture in progress abandoned (R279): a feed's where one is to be decoded (R278), else the guest job that arrived
first. Its NEW_STREAM and END_OF_STREAM act all the same (R281). -/
def dropDecoding (s : State) : State :=
  match (rangeFrom 0 32).find? fun f => (feedAt s f).live && !(feedAt s f).pictureReady.isEmpty with
  | some f => discardPicture (decoderDone (updFeed s f fun q => { q with pictureReady := q.pictureReady.drop 1 })) f
  | none =>
    match firstDecJob s with
    | some (k, j, _) =>
      let (_, s) := beginStream s k j
      takeDecJobs k 4096 (failDecJob (endStream (decoderDone (streamWaits s k j.stream true)) k j) k j 1)
    | none => s

/-- The frame in progress of the capture inputs discarded: a capture job ends DROPPED, a feed keeps its previous frame. -/
def dropCapture (s : State) : State :=
  each (rangeFrom 0 2) s fun s i =>
    let c := captureAt s i
    let s := updCapture s i fun c => { c with job := none, toFeeds := false }
    match c.job with
    | some (k, j) => takeDecJobs k 4096 (endDecJob s k j 1 s.now.frame)
    | none => s

end Sys2Proof.Machine
end

