-- ==== Sys2Proof/Machine/Contract.lean ====
section
/-! DEFINITION. Contract monitors and their actions, the DRAM windows, and the rows of the last that act on the memories
(R99, R103 to R106, R385). -/

namespace Sys2Proof.Machine

/-- Scans of the check-scan item paused (DEFER), and those of an item with an allotment resumed (Table 4-6). -/
def pauseScans (s : State) (i : Nat) (paused : Bool) : State :=
  each (rangeFrom 0 16) s fun s c =>
    updCheck s c fun q => { q with job := q.job.map fun j => if j.item = i then { j with paused := paused } else j }

/-- What an engaged action ends at once (Tables 4-5 and 4-6): THROTTLE and DEFER of the other requesters hold back requests,
which keeps their order and loses none. -/
def engage (s : State) (i : Nat) (item : Item) : State :=
  if item.action = 2 && item.requester = 0x50 then pauseScans s i true
  else if item.action ≠ 3 then s
  else match item.requester with
    | 0x48 => dropDecoding s
    | 0x49 => dropCapture s
    | 0x4A => dropWriteback s
    | _ => s

/-- A requester asks to move more than its item's allotment in the open DRAM window (R103, R104). -/
def contractViolation (s : State) (i measure : Nat) : State :=
  match itemAt s i with
  | some item =>
    let fresh := !(monitorAt s i).violated
    if item.resource = 0 && allotment s s.lasts.windowSet i < measure && s.lasts.windowOpen then
      let s := violate s i measure
      if fresh then engage s i item else s
    else s
  | none => s

def execContractViolation (t : Rrp) (item measure : Nat) (s : State) : Out :=
  .next (finish s (contractViolation (atTime s t) item measure))

/-! ### Admission (R91, R104, R105, R380, R383, R410) -/

/-- The length in RL of the DRAM window that holds the present line (R147). -/
def windowLength (s : State) : Nat :=
  match activeLast s with
  | some l =>
    let x := cycleAt s l s.now.frame * l.lRef + s.now.line
    match (dramWindows l).find? fun w => w.1 ≤ x && x < w.1 + w.2.2 with
    | some w => w.2.2
    | none => l.lRef
  | none => lrefOf s

/-- THROTTLE admits n more bytes (Table 4-5): at most T/256 of A / L_w bytes for each RL since the action engaged. -/
def throttleAdmits (s : State) (i : Nat) (item : Item) (n : Nat) : Bool :=
  let m := monitorAt s i
  (m.extra + n) * 256 * rlTicks (windowLength s) ≤
    item.throttle * allotment s s.lasts.windowSet i * elapsed s.tb.rate m.since s.now

/-- What becomes of a request that asks for admission. -/
inductive Admission where
  | serve
  | wait
  | discard
  deriving DecidableEq, Repr

/-- A request judged: blocked at once while DRAM serves nothing (R464); held back where the active last allots its requester
nothing (R91) or its item's THROTTLE or DEFER holds; gone with the unit of work that DROP abandons. An action engages at the
request that would pass the allotment (R104), and a critical item is always served (R105). -/
def judgeRequest (s : State) (q : DramReq) : Admission × State :=
  if !dramServing s then (.serve, s)
  else match dramItem s q.requester with
    | none => (.wait, s)
    | some (i, item) =>
      let n := requestBytes s q
      let past := allotment s s.lasts.windowSet i < (monitorAt s i).count + n
      if !s.lasts.windowOpen then (.wait, s)
      else if item.action = 0 || !(past || (monitorAt s i).engaged) then (.serve, s)
      else
        let s := if (monitorAt s i).violated then s else engage (violate s i ((monitorAt s i).count + n)) i item
        if item.action = 3 then (.discard, s)
        else if item.action = 1 && throttleAdmits s i item n then
          (.serve, updMonitor s i fun m => { m with extra := m.extra + n })
        else (.wait, s)

/-- A request that waits keeps its place before another: of one requester (R383), or posted through one port (R410). -/
def goesBefore (a b : Held) : Bool :=
  a.req.requester = b.req.requester || (a.port.isSome && a.port = b.port && a.req.data.isSome && b.req.data.isSome)

/-- An admitted request counted and carried out: a refused BAR4 read returns zero, a refused write is discarded, and the refusal
is counted (R410). -/
def serveHeld (s : State) (h : Held) : State :=
  let q := h.req
  let s := if dramServing s then countBytes s q.requester (requestBytes s q) else s
  match h.port, q.data with
  | none, _ => serveAccess s q
  | some p, some bs =>
    let (ok, s) := memWrite s q.who q.addr bs
    if ok then s else bump s (0x5400 + p) 6
  | some p, none =>
    match memRead s q.who q.addr q.len with
    | (.ok bs, s) => emit s (.hostData p bs)
    | (_, s) => emit (bump s (0x5400 + p) 6) (.hostData p (zeroBytes q.len))

/-- A request left waiting. -/
def hold (s : State) (h : Held) : State := { s with lasts := { s.lasts with waiting := s.lasts.waiting ++ [h] } }

/-- A request presented to the controller: served, held back behind those before it, or discarded. -/
def present (s : State) (h : Held) : State :=
  if s.lasts.waiting.any fun w => goesBefore w h then hold s h
  else match judgeRequest s h.req with
    | (.serve, s) => serveHeld s h
    | (.wait, s) => hold s h
    | (.discard, s) => s

/-- The service tier of a requester (Tables 14-3 and 14-4): its port's panic level, else the class of its item. -/
def tierOf (s : State) (requester : Nat) : Nat :=
  let port := if requester ≤ 8 then some requester else if 0x10 ≤ requester && requester ≤ 0x12 then some (requester - 7) else none
  let level := (port.map fun p => vecAt s.mem.panic p 0).getD 0
  if level = 2 then 1 else if level = 1 then 2
  else match dramItem s requester with
    | some (_, item) => match item.cls with
      | 0 => 4
      | 1 => 3
      | 2 => 5
      | 3 => 7
      | _ => 8
    | none => 8

/-- A request takes its place among those that wait (R380): before the first of a lower tier, but not before one that it must follow. -/
def placeWaiting (s : State) (ws : List Held) (h : Held) : List Held :=
  let first := ((enumFrom 1 ws).filter fun e => goesBefore e.2 h).foldl (fun _ e => e.1) 0
  let (before, after) := (ws.drop first).span fun w => tierOf s w.req.requester ≤ tierOf s h.req.requester
  ws.take first ++ before ++ [h] ++ after

/-- The requests that wait presented again, in the order in which the controller serves them. -/
def drainWaiting (s : State) : State :=
  each (s.lasts.waiting.foldl (placeWaiting s) []) { s with lasts := { s.lasts with waiting := [] } } present

/-- An access of a requester's own port. -/
def dramAccess (s : State) (q : DramReq) : State := present (drainWaiting s) ⟨none, q⟩

def execDramAccess (t : Rrp) (a : DramReq) (s : State) : Out := .next (finish s (dramAccess (atTime s t) a))

/-! ### The rows that act on the memories -/

/-- A monitor at the start of a DRAM window (R103, R104): a frame budget is judged by the frame. -/
def windowMonitor (items : List Item) (e : Nat × Monitor) : Monitor :=
  match items[e.1]? with
  | some item => if item.resource = 1 then { e.2 with engaged := false }
      else { e.2 with count := 0, engaged := false, violated := false }
  | none => { e.2 with count := 0, engaged := false, violated := false }

/-- The items of the active last. -/
def activeItems (s : State) : List Item := (activeLast s).elim [] fun l => l.items

/-- The monitors of frame budgets at a frame boundary (R103). -/
def frameMonitors (s : State) : State :=
  let items := activeItems s
  { s with lasts := { s.lasts with monitors := (enumFrom 0 s.lasts.monitors).map fun e =>
    if (items[e.1]?.any fun i => i.resource = 1) then { e.2 with violated := false } else e.2 } }

/-- DRAM_WINDOW: the window closes, every count restarts and every action ends, and the named set opens (Table 4-4, R104).
A skipped one does the same (R99). Flattening passes begin, paused scans with an allotment resume, and what waited is
presented again. -/
def dramWindow (s : State) (set : Nat) : State :=
  match eventIndex s 3 0 set with
  | none => s
  | some i =>
    let s := passEvent s i
    let s := if reachable s 3 0 then s else bump s 0x221A 0
    let items := activeItems s
    let s := { s with lasts := { s.lasts with
      monitors := (enumFrom 0 s.lasts.monitors).map (windowMonitor items), windowSet := set, windowOpen := true } }
    let s := each (enumFrom 1 items) s fun s e =>
      if e.2.requester = 0x50 && allotment s set e.1 ≠ 0 then pauseScans s e.1 false else s
    startPasses (drainWaiting s)

def execDramWindow (t : Rrp) (set : Nat) (s : State) : Out := .next (finish s (dramWindow (atTime s t) set))

/-- FREQ_CHANGE: a change to the declared rate of that index begins (R385). -/
def freqChange (s : State) (rate : Nat) : State :=
  rowEvent s 5 0 rate fun s =>
    match activeLast s with
    | some l => beginFreq s (l.rates.getD rate 0)
    | none => s

def execFreqChange (t : Rrp) (rate : Nat) (s : State) : Out := .next (finish s (freqChange (atTime s t) rate))

/-! ### CHECK_START (R140, R398 to R400) -/

/-- CHECK_START of a check plan: a channel that runs refuses it (R399). A plan that its channel cannot carry out ends with
error 3 at once; its TARGET selects DRAM or the comb. -/
def checkStart (s : State) (c plan : Nat) : State :=
  rowEvent s 6 c plan fun s =>
    match (activeLast s).bind fun l => l.checks[plan]? with
    | none => s
    | some p =>
      if (checkAt s c).job.isSome then report (refuseCheck s c) 0x12 c effNone
      else acceptCheck s c
        { by_ := .event, start := p.start, length := p.length, algorithm := p.algorithm, comb := p.target = 1,
          item := p.item, resultAddr := 0, jobSeq := 0, paused := false }

def execCheckStart (t : Rrp) (c : Fin 16) (plan : Nat) (s : State) : Out :=
  .next (finish s (checkStart (atTime s t) c.val plan))

/-- CHK_START of the dictionary (0x5650 + c:03): refused while the channel runs or with a wrong form (R399). -/
def checkDictStart (s : State) (c : Nat) (desc : Bytes) : Nat × State :=
  match parseCheckStart desc with
  | none => (stRange, s)
  | some j =>
    if 1 < u8 desc 17 then (stRange, s)
    else if (ownerSlice s 0x07 c).isSome then (stState, s)
    else if (checkAt s c).job.isSome then (stBusy, refuseCheck s c)
    else (stOk, acceptCheck s c j)

def execCheckCStart (t : Rrp) (o : Origin) (c : Fin 16) (desc : Bytes) (s : State) : Out :=
  .next (finish s (rowWrite (atTime s t) o (checkIndex c.val) 3 desc fun s => checkDictStart s c.val desc))

end Sys2Proof.Machine
end

