-- ==== Sys2Proof/Machine/Gpu.lean ====
section
/-! DEFINITION. GPU contexts, rings, windows, preemption, frame budgets and cluster faults (chapter 09: R236 to R242,
R253 to R263). -/

namespace Sys2Proof.Machine

/-! ### Contexts and clusters -/

/-- The context record of a context in the active last (R135, R238). -/
def ctxRecOf (s : State) (k : Nat) : Option CtxRec := (activeLast s).bind fun l => l.ctxs.find? fun c => c.ctx = k

/-- Whether GFX works. -/
def gpuOn (s : State) : Bool := domainOn s 12 && !isolatedRegion s .gpu

/-- A cluster can serve a window (R237). -/
def clusterOk (s : State) (c : Nat) : Bool := (clusterAt s c).on && !(clusterAt s c).isolated

/-- The clusters of a context's window that it holds. -/
def heldClusters (s : State) (k : Nat) : List Nat := (rangeFrom 0 12).filter fun c => (clusterAt s c).holder = some k

/-- Whether a context runs: its window is open, and it holds a cluster of it that does not still vacate (R255). -/
def ctxRuns (s : State) (k : Nat) : Bool :=
  gpuOn s && match (ctxAt s k).window with
    | some w => w.clusters.any fun c => (clusterAt s c).holder = some k && !(clusterAt s c).vacating
    | none => false

/-- The requester code of a context (Table 5-7). -/
def ctxRequester (k : Nat) : Nat := 0x20 + k

/-- GPU_STATUS of a slice (Table 9-3). -/
def gpuStatus (s : State) (k : Nat) : Nat :=
  let c := ctxAt s k
  let budget := match ctxRecOf s k with
    | some r => r.pbKiB
    | none => 0
  b2n (sreg s k 0x220 < budget) * 8 + b2n c.preempted * 4 + b2n c.window.isSome * 2 + b2n c.job.isSome

/-! ### Jobs (R240 to R244) -/

/-- The job entry of Table 9-4. -/
def gpuJobOf (e : Bytes) (arrival : Rrp) : GpuJob :=
  { cmdAddr := u64 e 0, cmdLen := u32 e 8, seq := u32 e 12, fence := u64 e 16, frame := bit (u8 e 24) 0, arrival := arrival,
    pos := 0, waiting := false, blocked := false, ended := none }

/-- Whether an entry keeps Table 9-4. -/
def gpuEntryOk (e : Bytes) : Bool :=
  u64 e 0 % 64 = 0 && u32 e 8 % 4 = 0 && 4 ≤ u32 e 8 && u32 e 8 ≤ 1048576 && u64 e 16 % 8 = 0 && u8 e 24 < 2 && zeros e 25 7

/-- GPU_ERROR of the latest job that failed (Table 9-3). -/
def gpuError (s : State) (k status detail : Nat) : State := setSreg s k 0x234 (status * 2 ^ 24 + detail % 2 ^ 24)

/-- A job completed: GPU_ERROR where it failed, its fence and vector (R242). -/
def gpuFence (s : State) (k : Nat) (j : GpuJob) (status detail : Nat) : State :=
  let s := if status = 0 then s else gpuError s k status detail
  jobFence s k 0 j.fence status 0 j.seq

/-- The job of a context ends. -/
def endGpuJob (s : State) (k status detail : Nat) : State :=
  match (ctxAt s k).job with
  | none => s
  | some j =>
    let s := updCtx s k fun c => { c with job := none, pass := none, preempted := false, saved := [], saveBlocked := false }
    if k < 32 then gpuFence s k j status detail else s

/-- A job ends for a reason that no packet has: DETAIL is not stated, a free value. -/
def abortGpuJob (s : State) (k status : Nat) : State :=
  match (ctxAt s k).job with
  | none => s
  | some _ => let (d, s) := takeFree s (2 ^ 24); endGpuJob s k status d

/-- Entries of a slice's GPU ring taken: a context without a record completes them NO_WINDOW at once, also behind a job held from an
earlier last (R238); one that runs takes them until a job starts (R241). n bounds their number. An entry that cannot be read is skipped and shown in
BLOCKED. -/
def takeGpuJobs (k : Nat) : Nat → State → State
  | 0, s => s
  | n + 1, s =>
    let c := ctxAt s k
    let norec := (ctxRecOf s k).isNone
    if c.head = c.tail || !(norec || (c.job.isNone && ctxRuns s k)) then s
    else
      let size := 2 ^ (sreg s k 0x208 % 16)
      let arr := bellArrival c.arrivals c.head size s.now
      let (r, s) := sliceRead s k (sreg s k 0x200 + c.head * 32) 32 true
      let head := (c.head + 1) % size
      let s := updCtx s k fun c => { c with head := head, arrivals := dropBells c.arrivals head size }
      match r with
      | .ok e =>
        let j := gpuJobOf e arr
        if norec then
          let (d, s) := takeFree s (2 ^ 24)
          takeGpuJobs k n (gpuFence s k j 9 d)
        else if !gpuEntryOk e then takeGpuJobs k n (gpuFence s k j 7 0)
        else updCtx s k fun c => { c with job := some j, state := (0, 0) }
      | _ => takeGpuJobs k n (sliceBlocked s k)

/-- GPU_RING_CTRL written (R240): the first and last pages of the ring, the parameter buffer and the save area. -/
def gpuRingEnable (s : State) (k value : Nat) : State :=
  if !windowOpen s k || bit (sreg s k 0x208) 31 then s
  else
    let pb := ringPagesOk s k (sreg s k 0x218) (Nat.max 1 (sreg s k 0x220 * 1024)) false
    let save := ringPagesOk s k (sreg s k 0x228) (1536 * 1024) false
    let lg := value % 16
    let ring := ringPagesOk s k (sreg s k 0x200) (32 * 2 ^ lg) true
    let s := if bit value 31 && !(pb && save && ring) then gpuError s k 6 0 else s
    ringCtrl s k 0x208 0x200 32 4 12 value true (pb && save)

def execGpuRingEnable (t : Rrp) (sl : Fin 32) (value : Nat) (s : State) : Out :=
  .next (finish s (gpuRingEnable (atTime s t) sl.val value))

/-- A doorbell of the GPU ring (R241, R415). -/
def gpuDoorbell (s : State) (k tail : Nat) : State :=
  if !windowOpen s k then s
  else if bellOk s k 0x208 tail then
    takeGpuJobs k 4096 (updCtx s k fun c => { c with
      tail := tail, arrivals := if tail = c.head then c.arrivals else c.arrivals ++ [(tail, s.now)] })
  else discardStart s k

def execGpuDoorbell (t : Rrp) (sl : Fin 32) (tail : Nat) (s : State) : Out :=
  .next (finish s (gpuDoorbell (atTime s t) sl.val (tail % 65536)))

/-- A GPU job completes (R242 to R244): with the failure that ended it, BAD_PACKET inside a pass, ACCESS after a blocked
access, else OK; the next job starts in the open window. On context 32 the compositor job at the front completes. -/
def gpuJobComplete (s : State) (k : Nat) : State :=
  if !gpuOn s then s
  else if k = 32 then (if ctxRuns s 32 then compositorDone s else s)
  else
    let c := ctxAt s k
    match c.job with
    | none => s
    | some j =>
      match j.ended with
      | some (st, d) => takeGpuJobs k 4096 (endGpuJob s k st d)
      | none =>
        if !ctxRuns s k || j.pos < j.cmdLen then s
        else if c.pass.isSome then takeGpuJobs k 4096 (endGpuJob s k 7 j.cmdLen)
        else if j.blocked then takeGpuJobs k 4096 (abortGpuJob s k 6)
        else takeGpuJobs k 4096 (endGpuJob s k 0 0)

def execGpuJobComplete (t : Rrp) (ctx : Fin 34) (s : State) : Out :=
  .next (finish s (gpuJobComplete (atTime s t) ctx.val))

/-! ### Faults (R261) -/

/-- A cluster let go by its holder. -/
def freeCluster (s : State) (c : Nat) : State :=
  updCluster s c fun q => { q with holder := none, vacating := false, saving := false }

/-- A context stops on every cluster without a save: it takes its next job in its next window. -/
def stopCtx (s : State) (k : Nat) : State :=
  let s := each (heldClusters s k) s freeCluster
  updCtx s k fun c => { c with window := c.window.map fun w => { w with clusters := [] } }

/-- The work of a context ended by a cluster fault (R261): its job, or the compositor job at the front, whose picture is
not shown. Its next job starts in its next window. -/
def faultWork (s : State) (k : Nat) : State :=
  let s := stopCtx s k
  if k = 32 then
    match s.gpu.compJobs with
    | [] => s
    | (f, no) :: rest =>
      let s := updGpu s fun g => { g with compJobs := rest }
      if (feedAt s f).scaling.any fun p => p.no = no then
        countDropped (updFeed s f fun q => { q with scaling := q.scaling.filter fun p => p.no ≠ no }) f
      else s
  else abortGpuJob s k 3

/-- The cluster faults within the last hour. -/
def recentFaults (s : State) (c : Nat) : List Rrp :=
  (clusterAt s c).faults.filter fun x => elapsed s.tb.rate x s.now < msTicks s.tb.rate 3600000

/-- A cluster fault (R261): the cluster is reset alone, recorded, and its work ended; a third fault within an hour or a
failed reset isolates it. -/
def faultCluster (s : State) (c : Nat) (resetOk : Bool) : State :=
  if !clusterOk s c then s
  else
    let recent := s.now :: recentFaults s c
    let holder := (clusterAt s c).holder
    let s := report s 0x52 c effGuest
    let s := match holder with
      | some k => faultWork s k
      | none => s
    let s := freeCluster s c
    updCluster s c fun q => { q with faults := recent, isolated := q.isolated || !resetOk || recent.length ≥ 3 }

def execClusterFault (t : Rrp) (cl : Fin 12) (resetOk : Bool) (s : State) : Out :=
  .next (finish s (faultCluster (atTime s t) cl.val resetOk))

/-! ### Windows (R101, R102, R237, R253 to R256) -/

/-- A free cluster given to a context. -/
def holdCluster (s : State) (k c : Nat) : State :=
  if (clusterAt s c).holder.isNone && clusterOk s c then updCluster s c fun q => { q with holder := some k } else s

/-- The state that a context saved read back (R254), each slot with the bytes it holds; the traffic counts on the context's DRAM
item. A blocked read of it is a blocked access of the job (R244). -/
def restoreCtx (s : State) (k : Nat) : State :=
  let slots := (ctxAt s k).saved
  let s := updCtx s k fun c => { c with saved := [], preempted := false }
  each slots s fun s e =>
    let s := noteBytes s (ctxRequester k) e.2
    match sliceRead s k (sreg s k 0x228 + e.1 * 131072) e.2 false with
    | (.blocked, s) => sliceBlocked (updCtx s k fun c => { c with job := c.job.map fun j => { j with blocked := true } }) k
    | (_, s) => s

/-- A context that has a cluster of its open window resumes (R254, R260): a job whose save was blocked ends ACCESS, one that was
saved is restored, else the next is taken. -/
def resumeCtx (s : State) (k : Nat) : State :=
  if k ≥ 32 || !ctxRuns s k then s
  else takeGpuJobs k 4096 (if (ctxAt s k).saveBlocked then abortGpuJob s k 6 else restoreCtx s k)

/-- A window opens (R102, R237): context 32 resets clusters that another context still holds; on those that are free, the context
starts (R255). -/
def openWindow (s : State) (k set len : Nat) : State :=
  let want := (maskBits 12 set).filter (clusterOk s)
  if want.isEmpty then bump s 0x221A 0
  else
    let s := if k ≠ 32 then s else each want s fun s c =>
      match (clusterAt s c).holder with
      | some h => if h = 32 then s else faultCluster s c true
      | none => s
    let cs := want.filter (clusterOk s)
    let s := each cs s fun s c => holdCluster s k c
    resumeCtx (updCtx s k fun c => { c with window := some ⟨cs, rrpAdd s.tb.rate s.now (rlTicks len), s.now⟩ }) k

def execGpuWindow (t : Rrp) (ctx : Fin 34) (set len : Nat) (s : State) : Out :=
  .next (finish s (rowEvent (atTime s t) 2 ctx.val (len * 4096 + set) fun s => openWindow s ctx.val set len))

/-- The positions at which windows of a context open in reference frame f. -/
def windowsIn (s : State) (k f : Nat) : List Rrp :=
  match activeLast s with
  | some l =>
    (l.rows.filter fun r => r.cycle = cycleAt s l f).flatMap fun r =>
      (r.events.filter fun e => e.kind = 2 && e.target = k).map fun e => ⟨f, r.line, e.phase⟩
  | none => []

/-- Whether a queued entry of a context carries FRAME (R256). -/
def queuedFrame (s : State) (k i : Nat) : Bool :=
  match (sliceRead s k (sreg s k 0x200 + i * 32) 32 true).1 with
  | .ok e => bit (u8 e 24) 0
  | _ => false

/-- Whether a job that belongs to frame f is not complete (R256): the job under way, or a queued entry. -/
def budgetLate (s : State) (k f : Nat) : Bool :=
  match (windowsIn s k f).head? with
  | none => false
  | some first =>
    let c := ctxAt s k
    let size := 2 ^ (sreg s k 0x208 % 16)
    let now := match c.job with
      | some j => j.frame && rrpBefore j.arrival first
      | none => false
    now || ((rangeFrom 0 ((c.tail + size - c.head) % size)).any fun d =>
      let i := (c.head + d) % size
      rrpBefore (bellArrival c.arrivals i size s.now) first && queuedFrame s k i)

/-- The frame budget judged at the close of a context's last window in a frame (R103, R256): the violation, and DROP, which
ends the job in progress without a save. -/
def judgeBudget (s : State) (k : Nat) (w : GpuWindow) : State :=
  let f := w.opened.frame
  let last := (windowsIn s k f).getLast? = some w.opened
  match ctxRecOf s k with
  | some r =>
    match itemAt s r.budgetItem with
    | some item =>
      if !(last && k < 32 && budgetLate s k f) then s
      else
        let (m, s) := takeFree s (2 ^ 32)
        let s := sliceEvent (violate s r.budgetItem m) k 1
        let mine := match (ctxAt s k).job with
          | some j => j.frame && (match (windowsIn s k f).head? with
            | some x => rrpBefore j.arrival x
            | none => false)
          | none => false
        if item.action = 3 && mine then abortGpuJob (each (heldClusters s k) s freeCluster) k 2 else s
    | none => s
  | none => s

/-- A window reaches its length (R101, R253): the context's work leaves its clusters, each in its grace; a context with
nothing under way frees them at once. -/
def closeWindow (s : State) (k : Nat) : State :=
  match (ctxAt s k).window with
  | none => s
  | some w =>
    if rrpBefore s.now w.closes then s
    else
      let s := judgeBudget s k w
      let busy := if k = 32 then !s.gpu.compJobs.isEmpty else (ctxAt s k).job.isSome
      let s := each (heldClusters s k) s fun s c =>
        if busy then updCluster s c fun q => { q with vacating := true } else freeCluster s c
      updCtx s k fun c => { c with window := none, preempted := k < 32 && busy }

def execGpuWindowClose (t : Rrp) (ctx : Fin 34) (s : State) : Out :=
  .next (finish s (closeWindow (atTime s t) ctx.val))

/-- 40 µs after a close, a cluster not yet at a boundary begins its forced save (R253). -/
def graceExpire (s : State) (c : Nat) : State :=
  if (clusterAt s c).vacating then updCluster s c fun q => { q with saving := true } else s

def execPreemptGraceExpire (t : Rrp) (cl : Fin 12) (s : State) : Out :=
  .next (finish s (graceExpire (atTime s t) cl.val))

/-- The next context of a freed cluster, which starts there (R255): one whose open window names it. -/
def passCluster (s : State) (c : Nat) : State :=
  match (rangeFrom 0 34).find? fun k => match (ctxAt s k).window with
      | some w => w.clusters.contains c
      | none => false with
  | some k => resumeCtx (holdCluster s k c) k
  | none => s

/-- A cluster's save completes (R253, R254, R260): at most 4 KiB in the grace, 128 KiB in a forced save, in the cluster's
slot of the save area, counted on the context's DRAM item; what it holds is not stated. A blocked save is dropped. -/
def saveComplete (s : State) (c : Nat) : State :=
  let q := clusterAt s c
  if !q.vacating then s
  else
    let n := if q.saving then 131072 else 4096
    let s := match q.holder with
      | some k =>
        if k < 32 && (ctxAt s k).job.isNone then s
        else
          let s := noteBytes s (ctxRequester k) n
          if k ≥ 32 then s
          else
            let (bs, s) := takeBytes s n
            let (ok, s) := sliceWrite s k (sreg s k 0x228 + c * 131072) bs false
            if ok then updCtx s k fun x => { x with saved := x.saved ++ [(c, n)] }
            else updCtx (sliceBlocked s k) k fun x => { x with saveBlocked := true }
      | none => s
    passCluster (freeCluster s c) c

def execClusterSaveComplete (t : Rrp) (cl : Fin 12) (s : State) : Out :=
  .next (finish s (saveComplete (atTime s t) cl.val))

/-! ### Resets and modes (R236, R262, R263) -/

/-- Every running or preempted job ends with MODE before GFX goes off (R263). -/
def endGpuJobs (s : State) : State :=
  let s := each (rangeFrom 0 32) s fun s k => abortGpuJob (stopCtx s k) k 5
  let s := stopCtx (stopCtx s 32) 33
  updGpu s fun g => { g with compJobs := [], ctxs := vecMap g.ctxs fun _ c => { c with window := none } }

/-- The clusters that the windows of a last name (R236). -/
def namedClusters (l : Last) : Nat :=
  (l.rows.flatMap fun r => r.events.filter fun e => e.kind = 2).foldl (fun a e => Nat.lor a (bits e.arg 11 0)) 0

/-- The cluster subdomains raised and lowered for the active last (R236). A last that gates every cluster off ends every
job first (R263). -/
def setClusters (s : State) : State :=
  let m := match activeLast s with
    | some l => if domainOn s 12 then namedClusters l else 0
    | none => 0
  let s := if m = 0 then endGpuJobs s else s
  each (rangeFrom 0 12) s fun s c =>
    let s := if bit m c then s else match (clusterAt s c).holder with
      | some k => stopCtx s k
      | none => s
    updCluster s c fun q => { q with on := bit m c }

/-- The entries left in a slice's GPU ring completed SLICE_RESET without running, in ring order; n bounds their number. -/
def flushGpuRing (k : Nat) : Nat → State → State
  | 0, s => s
  | n + 1, s =>
    let c := ctxAt s k
    if c.head = c.tail then s
    else
      let size := 2 ^ (sreg s k 0x208 % 16)
      let (r, s) := sliceRead s k (sreg s k 0x200 + c.head * 32) 32 true
      let s := updCtx s k fun c => { c with head := (c.head + 1) % size }
      let s := match r with
        | .ok e => let (d, s) := takeFree s (2 ^ 24); gpuFence s k (gpuJobOf e s.now) 4 d
        | _ => sliceBlocked s k
      flushGpuRing k n s

/-- A slice reset discards the context's state and the slice's hit-test bindings; a forced one ends its jobs first (R262,
R419). -/
def resetCtx (s : State) (k : Nat) (forced : Bool) : State :=
  let s := if forced then flushGpuRing k 4096 (abortGpuJob (stopCtx s k) k 4) else s
  let own := fun (h : Option HitBinding) => match h with
    | some b => if b.slice = k then none else some b
    | none => none
  let s := updGpu s fun g => { g with
    hits := vecMap g.hits fun _ h => own h
    hitNext := vecMap g.hitNext fun _ n => match n with
      | some h => if h.isSome && (own h).isNone then none else some h
      | none => none }
  let w := (ctxAt s k).window
  updCtx s k fun _ => { resetGpuCtx with window := w }

end Sys2Proof.Machine
end

