-- ==== Sys2Proof/Machine/Packets.lean ====
section
/-! DEFINITION. The packets of a GPU command buffer (R243 to R252, R264 to R272). A packet acts where the job of its context
runs and its header stands at the job's place. -/

namespace Sys2Proof.Machine

/-! ### Access of a job (R244) -/

def updJob (s : State) (k : Nat) (f : GpuJob → GpuJob) : State := updCtx s k fun c => { c with job := c.job.map f }

/-- A blocked access of a job: its status becomes ACCESS unless a failure ends it. -/
def jobBlocked (s : State) (k : Nat) : State := sliceBlocked (updJob s k fun j => { j with blocked := true }) k

/-- A read of a job: zeros where it is blocked, or where DRAM cannot answer, which is treated alike (R244, R379). -/
def jobRead (s : State) (k a n : Nat) : Bytes × State :=
  let (r, s) := sliceRead s k a n false
  match r with
  | .ok bs => (bs, s)
  | _ => (zeroBytes n, jobBlocked s k)

/-- A write of a job: dropped where it is blocked. -/
def jobWrite (s : State) (k a : Nat) (bs : Bytes) : State :=
  let (ok, s) := sliceWrite s k a bs false
  if ok then s else jobBlocked s k

/-- A read and a write that count on the context's DRAM item. -/
def jobFetch (s : State) (k a n : Nat) : Bytes × State := jobRead (noteBytes s (ctxRequester k) (movedBytes s a n false)) k a n
def jobPut (s : State) (k a : Nat) (bs : Bytes) : State :=
  jobWrite (noteBytes s (ctxRequester k) (movedBytes s a bs.length true)) k a bs

/-- A job fails: its status and DETAIL are settled, and an open pass is discarded (R244). -/
def failJob (s : State) (k status detail : Nat) : State :=
  updCtx (updJob s k fun j => { j with ended := some (status, detail) }) k fun c => { c with pass := none }

/-- A packet done: the next one stands n words on. -/
def nextPacket (s : State) (k n : Nat) : State := updJob s k fun j => { j with pos := j.pos + 4 * n, waiting := false }

/-! ### The packet at a job's place (R243) -/

/-- The length that Table 9-5 gives a packet in words; none for NOP and the reserved opcodes. -/
def packetWords (op : Nat) : Option Nat :=
  match op with
  | 0x01 => some 5
  | 0x02 => some 5
  | 0x03 => some 38
  | 0x04 => some 3
  | 0x05 => some 5
  | 0x06 => some 7
  | 0x07 => some 4
  | 0x08 => some 4
  | 0x09 => some 1
  | 0x0A => some 1
  | 0x0B => some 5
  | 0x0C => some 5
  | 0x0D => some 6
  | _ => none

/-- Whether a packet is allowed in its place: inside or outside a render pass. -/
def placeOk (op : Nat) (inPass : Bool) : Bool :=
  if op = 5 || op = 6 || op = 9 then inPass else if op = 3 || op = 7 || op = 8 then !inPass else true

/-- The job that runs in a context, with its next packet's header; none where none can act. -/
def jobHeader (s : State) (k : Nat) : Option (GpuJob × Nat) × State :=
  if !ctxRuns s k || k ≥ 32 then (none, s)
  else match (ctxAt s k).job with
    | none => (none, s)
    | some j =>
      if j.ended.isSome || j.waiting || j.cmdLen ≤ j.pos then (none, s)
      else
        let (h, s) := jobRead s k (j.cmdAddr + j.pos) 4
        (some (j, leNat h), s)

/-- One packet of an opcode: checked by R243, then f on its payload; f answers the state, and none for BAD_PACKET. The
packet after it follows where the job goes on. -/
def onPacket (s : State) (k op : Nat) (f : State → GpuJob → Bytes → Option State) : State :=
  match jobHeader s k with
  | (none, _) => s
  | (some (j, h), s') =>
    if bits h 31 24 ≠ op then s
    else
      let n := packetWords op
      if bits h 23 16 ≠ 0 || some (bits h 15 0) ≠ n || j.cmdLen < j.pos + 4 * bits h 15 0 ||
          !placeOk op (ctxAt s k).pass.isSome then failJob s' k 7 j.pos
      else
        -- the units of the command buffer that this packet is the first to reach
        let s' := noteBytes s' (ctxRequester k) (64 * ((j.pos + 4 * bits h 15 0 + 63) / 64 - (j.pos + 63) / 64))
        let (b, s') := jobRead s' k (j.cmdAddr + j.pos + 4) (4 * bits h 15 0 - 4)
        match f s' j b with
        | none => failJob s' k 7 j.pos
        | some t =>
          match (ctxAt t k).job with
          | some q => if q.ended.isSome || q.waiting then t else nextPacket t k (bits h 15 0)
          | none => t

/-- A NOP is passed over; a reserved opcode ends the job (R243). -/
def nopPacket (s : State) (k : Nat) : State :=
  match jobHeader s k with
  | (none, _) => s
  | (some (j, h), s') =>
    let op := bits h 31 24
    if 1 ≤ op && op ≤ 0x0D then s
    else if op ≠ 0 || bits h 23 16 ≠ 0 || bits h 15 0 = 0 || j.cmdLen < j.pos + 4 * bits h 15 0 then failJob s' k 7 j.pos
    else nextPacket s' k (bits h 15 0)

def execNop (t : Rrp) (ctx : Fin 34) (s : State) : Out := .next (finish s (nopPacket (atTime s t) ctx.val))

/-- BARRIER: later packets see every earlier write, as they do in any case, one packet at a time. -/
def execBarrier (t : Rrp) (ctx : Fin 34) (s : State) : Out :=
  .next (finish s (onPacket (atTime s t) ctx.val 0x0A fun s _ _ => some s))

/-! ### Programs (R270, R271) -/

/-- One binding entry: SLOT, KIND, ACCESS, FORMAT, MIN_SIZE. -/
def bindingEntry (b : Bytes) : Nat × Nat × Nat × Nat × Nat := (u8 b 0, u8 b 1, u8 b 2, u8 b 3, u32 b 4)

/-- The binding entries of a container. -/
def shaderBindings (b : Bytes) : List (Nat × Nat × Nat × Nat × Nat) :=
  (rangeFrom 0 (u8 b 38)).map fun i => bindingEntry (sub b (u32 b 40 + 8 * i) 8)

/-- The rules of R270 for one binding entry. -/
def shaderBindingOk (e : Nat × Nat × Nat × Nat × Nat) : Bool :=
  let image := e.2.1 = 2 || e.2.1 = 3
  let buffer := e.2.1 = 0 || e.2.1 = 1 || e.2.1 = 5
  e.1 ≤ 63 && e.2.1 ≤ 5 && e.2.2.1 ≤ 1 && (e.2.2.1 = 0 || e.2.1 = 1 || e.2.1 = 3) &&
    (if image then 1 ≤ e.2.2.2.1 && e.2.2.2.1 ≤ 6 else e.2.2.2.1 = 0) && (buffer || e.2.2.2.2 = 0)

/-- The limits that code 0x07 covers. -/
def shaderLimitsOk (b : Bytes) : Bool :=
  let st := u8 b 6
  let wx := u16 b 32
  let wy := u16 b 34
  let wz := u16 b 36
  u8 b 7 ≤ 1 && (u8 b 7 = 0 || st = 1 || st = 2) && 8 ≤ u16 b 28 && u16 b 28 ≤ 256 &&
    (if st = 2 then u16 b 30 ≤ 32768 && 1 ≤ wx && 1 ≤ wy && 1 ≤ wz && wx * wy * wz ≤ 1024
     else u16 b 30 = 0 && wx = 0 && wy = 0 && wz = 0) &&
    (if st = 1 then u8 b 39 < 32 else u8 b 39 = 0)

/-- The first check code of Table 9-9 and R271 that a container fails; 0 where it passes. cached limits the checks to
TOTAL_LENGTH and CODE_CRC. -/
def shaderCheck (b : Bytes) (stage len : Nat) (cached : Bool) : Nat :=
  let crcBad := u32 b 24 ≠ crcOf crc32c (sub b (u32 b 16) (u32 b 20))
  if cached then (if u32 b 12 ≠ len then 5 else if crcBad then 6 else 0)
  else if u32 b 0 ≠ 0x31434853 then 1
  else if u16 b 4 ≠ 1 then 2
  else if u8 b 6 ≠ stage then 3
  else if u16 b 8 ≠ 0x51 || !bit (u16 b 10) 1 then 4
  else if u32 b 12 ≠ len || len > 1048576 || u32 b 16 % 64 ≠ 0 || u32 b 20 % 16 ≠ 0 || u32 b 20 < 16 || u32 b 40 % 8 ≠ 0 ||
      u32 b 12 < u32 b 40 + 8 * u8 b 38 || !zeros b 44 20 then 5
  else if crcBad then 6
  else if !shaderLimitsOk b then 7
  else if u8 b 38 > 64 || !(shaderBindings b).all shaderBindingOk || !distinct ((shaderBindings b).map fun e => e.1) then 8
  else 0

/-- BIND_PROGRAM (R271). A container longer than 1 MiB is read only up to that length. -/
def bindProgram (k : Nat) (s : State) (_j : GpuJob) (p : Bytes) : Option State :=
  let stage := u32 p 0
  if stage > 2 then none
  else
    let addr := u64 p 4
    let len := u32 p 12
    let (b, s) := jobFetch s k addr (Nat.min len 1048576)
    let crc := u32 b 24
    let code := shaderCheck b stage len ((ctxAt s k).checked.contains (addr, crc))
    if code ≠ 0 then some (failJob s k 8 code)
    else
      let prog : Program := ⟨addr, crc, len, u8 b 7 = 1, u8 b 39, shaderBindings b⟩
      some (updCtx s k fun c => { c with
        progs := vecMod c.progs stage fun _ => some prog
        checked := if c.checked.contains (addr, crc) then c.checked else (addr, crc) :: c.checked })

def execBindProgram (t : Rrp) (ctx : Fin 34) (s : State) : Out :=
  .next (finish s (onPacket (atTime s t) ctx.val 0x01 (bindProgram ctx.val)))

/-- A resource descriptor (Table 9-10); none where it breaks the table: an address, KIND, FORMAT, FILTER or image field outside
its range, or a reserved byte that is not zero (R6). It then serves no slot (log entry 218). -/
def resourceOf (b : Bytes) : Option Resource :=
  let kind := u8 b 12
  let image := kind = 2 || kind = 3
  let ok := u64 b 0 % 256 = 0 && kind ≤ 5 && (if image then 1 ≤ u8 b 13 && u8 b 13 ≤ 6 else u8 b 13 = 0) &&
    (if kind = 2 then u8 b 14 ≤ 1 else u8 b 14 = 0) && zeros b 15 1 && zeros b 24 8 &&
    (!image || u32 b 20 % 64 = 0)
  if ok then some ⟨u64 b 0, u32 b 8, kind, u8 b 13, u8 b 14, u16 b 16, u16 b 18, u32 b 20⟩ else none

/-- BIND_RESOURCES: the descriptors of a stage, the one at position i serving SLOT i. -/
def bindResources (k : Nat) (s : State) (_j : GpuJob) (p : Bytes) : Option State :=
  let stage := u32 p 0
  let addr := u64 p 4
  let n := u32 p 12
  if stage > 2 || addr % 32 ≠ 0 || n = 0 || n > 64 then none
  else
    let (b, s) := jobFetch s k addr (32 * n)
    let rs := (rangeFrom 0 n).map fun i => resourceOf (sub b (32 * i) 32)
    some (updCtx s k fun c => { c with res := vecMod c.res stage fun _ => rs })

def execBindResources (t : Rrp) (ctx : Fin 34) (s : State) : Out :=
  .next (finish s (onPacket (atTime s t) ctx.val 0x02 (bindResources ctx.val)))

/-- SET_STATE (Table 9-5). -/
def setState (k : Nat) (s : State) (_j : GpuJob) (p : Bytes) : Option State :=
  let a := u32 p 0
  let b := u32 p 4
  if a ≥ 1024 || bits a 3 2 = 3 || b ≥ 256 then none else some (updCtx s k fun c => { c with state := (a, b) })

def execSetState (t : Rrp) (ctx : Fin 34) (s : State) : Out :=
  .next (finish s (onPacket (atTime s t) ctx.val 0x04 (setState ctx.val)))

/-! ### Render passes (R245 to R248) -/

/-- A target record of 7 words. -/
def targetOf (b : Bytes) : Target := ⟨u64 b 0, u32 b 8, bits (u32 b 12) 7 0, bits (u32 b 12) 9 8, u32 b 16, u64 b 20⟩

/-- Bytes of one sample of a target's format. -/
def sampleBytes (fmt : Nat) : Nat := if fmt = 0x20 || fmt = 0x21 then 4 else bytesPer fmt

/-- A record within R245: its format among those of its kind, a load, an aligned pitch, no reserved bit. -/
def targetOk (depth : Bool) (b : Bytes) : Bool :=
  let t := targetOf b
  (if depth then t.fmt = 0x20 || t.fmt = 0x21 else [1, 2, 3, 6].contains t.fmt) && t.load ≤ 2 && t.pitch % 64 = 0 &&
    u32 b 12 < 1024 && (!depth || t.msAddr = 0)

/-- SET_TARGET (R245, R246). Words 1 and 2 outside their ranges and unused records that are not zero are BAD_PACKET (R243); a
target record outside R245, or too many bytes a pixel, is TARGET_INVALID (DESIGN CHOICE between the two, log entry 26). -/
def setTarget (k : Nat) (s : State) (_j : GpuJob) (p : Bytes) : Option State :=
  let w1 := u32 p 0
  let n := bits w1 3 0
  let samples := bits w1 7 4
  let depth := bit w1 8
  let w := bits (u32 p 4) 15 0
  let h := bits (u32 p 4) 31 16
  let rec_ := fun i => sub p (8 + 28 * i) 28
  if w1 ≥ 512 || n > 4 || !(samples = 1 || samples = 4) || w = 0 || h = 0 || w > 8192 || h > 8192 ||
      !((rangeFrom n (4 - n)).all fun i => zeros (rec_ i) 0 28) || !(depth || zeros (rec_ 4) 0 28) then none
  else
    let cols := (rangeFrom 0 n).map rec_
    let ok := cols.all (targetOk false) && (!depth || targetOk true (rec_ 4))
    let targets := cols.map targetOf
    let d := if depth then some (targetOf (rec_ 4)) else none
    let size := ((targets ++ d.toList).map fun t => sampleBytes t.fmt).sum * samples
    if !ok || size > 64 then some (failJob s k 0x0B ((ctxAt s k).job.map fun j => j.pos).toList.sum)
    else some (updCtx s k fun c => { c with pass := some ⟨samples, w, h, targets, d, 0, [], [], 0, []⟩ })

def execSetTarget (t : Rrp) (ctx : Fin 34) (s : State) : Out :=
  .next (finish s (onPacket (atTime s t) ctx.val 0x03 (setTarget ctx.val)))

/-- A pixel of an integer format from its 12-bit channels (R156, R179, R247). -/
def packPx (fmt : Nat) (p : Px) : Nat :=
  if fmt = 3 then reduceTo 5 p.r * 2 ^ 11 + reduceTo 6 p.g * 2 ^ 5 + reduceTo 5 p.b else targetWord fmt p

/-- Channel i of an FP16 RGBA word, and a word of four binary16 channels. -/
def halfAt (w i : Nat) : Fl := f16 (w / 2 ^ (16 * i) % 65536)
def packHalf (f : Nat → Fl) : Nat :=
  ((rangeFrom 0 4).map fun i => flBits 5 11 (31744 + 1 + Config.nanHalf % 1023) (roundFl 5 11 (f i)) * 2 ^ (16 * i)).sum

/-- The CLEAR value of a target as one sample; none where the conversion is not stated (FP16, D24S8). -/
def clearWord (t : Target) : Option Nat :=
  if t.fmt = 0x21 then some t.clear else if t.fmt = 0x20 || t.fmt = 6 then none else some (packPx t.fmt (argbPx t.clear))

/-- The resolve of four samples (R247): of an integer format rounded half up, of FP16 the average in binary32. -/
def resolveWord (fmt : Nat) (ws : List Nat) : Nat :=
  if fmt = 6 then
    packHalf fun i => mul32 (ws.foldl (fun a w => add32 a (halfAt w i)) (.fin true 0 0)) (.fin false 1 (-2))
  else
    let px := ws.map fun w => sourcePx fmt w 0
    let avg := fun (f : Px → Nat) => ((px.map f).sum + 2) / 4
    packPx fmt ⟨avg fun p => p.r, avg fun p => p.g, avg fun p => p.b, avg fun p => p.a⟩

/-- One channel blended in binary32 by the formulas of R155 with A_L = 255 (log entry 219). -/
def blendFl (premult : Bool) (cs a cd : Fl) : Fl :=
  let rest := mul32 cd (add32 oneFl (negFl a))
  capFl (add32 (if premult then cs else mul32 cs a) rest)

/-- A sample blended over another (R248). -/
def blendWord (fmt : Nat) (premult : Bool) (src dst : Nat) : Nat :=
  if fmt = 6 then
    let a := halfAt src 3
    packHalf fun i =>
      if i = 3 then capFl (add32 a (mul32 (halfAt dst 3) (add32 oneFl (negFl a)))) else blendFl premult (halfAt src i) a (halfAt dst i)
  else packPx fmt (blendPx premult 255 (sourcePx fmt src 0) (sourcePx fmt dst 0))

/-- A depth as a number for comparisons: the low 24 bits of D24S8 (PRESUMED, log entry 220), a binary32 value of D32F. -/
def depthKey (fmt z : Nat) : Option Int := if fmt = 0x20 then some (z % 2 ^ 24 : Nat) else f32Key z

/-- The depth function of SET_STATE (Table 9-5) on the depth of a primitive and that of the sample. -/
def depthPasses (fn fmt z old : Nat) : Bool :=
  match depthKey fmt z, depthKey fmt old with
  | some a, some b =>
    match fn with
    | 0 => false
    | 1 => a < b
    | 2 => a = b
    | 3 => a ≤ b
    | 4 => b < a
    | 5 => a ≠ b
    | 6 => b ≤ a
    | _ => true
  | _, _ => fn = 5 || fn = 7

/-- A sample in tile memory: a value for each colour target, and the depth. -/
abbrev TileSample := List Nat × Nat

/-- A primitive drawn over a sample (Table 9-5, R248): the depth test, each colour target that its program writes, blended where
SET_STATE says so, and the depth where it is written. -/
def drawFrag (p : RenderPass) (q : TileSample) (f : Frag) : TileSample :=
  let (a, b) := f.st
  let zf := (p.depth.map fun t => t.fmt).getD 0
  if bit a 5 && p.depth.isSome && !depthPasses (bits a 9 7) zf f.z q.2 then q
  else
    let colour := fun (e : Nat × Target) =>
      let old := q.1.getD e.1 0
      let new := f.colours.getD e.1 0 % 2 ^ (8 * sampleBytes e.2.fmt)
      if !bit f.mask e.1 then old else if bit b e.1 then blendWord e.2.fmt (bit b (4 + e.1)) new old else new
    ((enumFrom 0 p.colours).map colour,
      if bit a 6 && p.depth.isSome then (if zf = 0x20 then q.2 / 2 ^ 24 % 256 * 2 ^ 24 + f.z % 2 ^ 24 else f.z % 2 ^ 32) else q.2)

/-- What a sample of a target begins with: what a partial render stored, or LOAD says: the CLEAR value, what memory holds, or a
free value where LOAD says undefined or the conversion is not stated (R245, R251). at_ is where the samples stand, if anywhere. -/
def loadSample (s : State) (k : Nat) (stored : Bool) (t : Target) (at_ : Option Nat) : Nat × State :=
  let n := sampleBytes t.fmt
  let free := fun (s : State) => let (b, s) := takeBytes s n; (leNat b, s)
  if stored || t.load = 1 then
    match at_ with
    | some a => let (b, s) := jobRead s k a n; (leNat b, s)
    | none => free s
  else if t.load = 2 then free s
  else match clearWord t with
    | some w => (w, s)
    | none => free s

/-- Where sample i of a pixel stands (R247): sample after sample for each pixel, lines at SAMPLES times the pitch
(DESIGN CHOICE for the pitch, log entry 27). -/
def sampleAddr (base pitch samples n x y i : Nat) : Nat := base + y * pitch * samples + (x * samples + i) * n

/-- Where the samples of a colour target stand: ADDR at SAMPLES 1, MS_ADDR at 4 where it is not zero. -/
def colourBase (samples : Nat) (t : Target) : Option Nat :=
  if samples = 1 then some t.addr else if t.msAddr ≠ 0 then some t.msAddr else none

/-- The tile of a pixel. -/
def tileAt (x y : Nat) : Nat × Nat := (x / 32, y / 32)

/-- Sample i of a pixel once its tile is rendered from its list. -/
def renderSample (s : State) (k : Nat) (p : RenderPass) (x y i : Nat) : TileSample × State :=
  let stored := p.stored.contains (tileAt x y)
  let place := fun (t : Target) (base : Nat) => sampleAddr base t.pitch p.samples (sampleBytes t.fmt) x y i
  let (cs, s) := p.colours.foldl (fun (a : List Nat × State) t =>
    let (w, s) := loadSample a.2 k stored t ((colourBase p.samples t).map (place t))
    (a.1 ++ [w], s)) ([], s)
  let (z, s) := match p.depth with
    | some t => loadSample s k stored t (some (place t t.addr))
    | none => (0, s)
  ((p.frags.filter fun f => f.x = x && f.y = y && f.sample = i).foldl (drawFrag p) (cs, z), s)

/-- A pixel of a colour target stored (R247): its samples where they have a place, and at SAMPLES 4 the resolve to ADDR, which a
partial render does not make (R251). -/
def storeColour (s : State) (k : Nat) (p : RenderPass) (x y : Nat) (resolve : Bool) (t : Target) (ws : List Nat) : State :=
  let n := sampleBytes t.fmt
  let s := match colourBase p.samples t with
    | some base => each (enumFrom 0 ws) s fun s e => jobWrite s k (sampleAddr base t.pitch p.samples n x y e.1) (leBytes n e.2)
    | none => s
  if p.samples ≠ 1 && resolve then jobWrite s k (t.addr + y * t.pitch + x * n) (leBytes n (resolveWord t.fmt ws)) else s

/-- A pixel rendered and stored, with all its samples of the depth target. -/
def storePixel (s : State) (k : Nat) (p : RenderPass) (x y : Nat) (resolve : Bool) : State :=
  let (qs, s) := (rangeFrom 0 p.samples).foldl (fun (a : List TileSample × State) i =>
    let (q, s) := renderSample a.2 k p x y i
    (a.1 ++ [q], s)) ([], s)
  let s := each (enumFrom 0 p.colours) s fun s e => storeColour s k p x y resolve e.2 (qs.map fun q => q.1.getD e.1 0)
  match p.depth with
  | some t => each (enumFrom 0 qs) s fun s e => jobWrite s k (sampleAddr t.addr t.pitch p.samples 4 x y e.1) (leBytes 4 e.2.2)
  | none => s

/-- The bytes that the tiles of a pass move, tile by tile, line by line in 64-byte units: the loads, and the stores. -/
def passBytes (p : RenderPass) (tiles : List (Nat × Nat)) (resolve : Bool) : Nat :=
  let all := p.colours ++ p.depth.toList
  let line := fun (w n : Nat) => (w * n + 63) / 64 * 64
  (tiles.map fun e =>
    let w := Nat.min 32 (p.width - 32 * e.1)
    let h := Nat.min 32 (p.height - 32 * e.2)
    (all.map fun t =>
      let whole := line w (sampleBytes t.fmt * p.samples)
      let kept := (p.depth = some t) || (colourBase p.samples t).isSome
      h * ((if kept && (t.load = 1 || p.stored.contains e) then whole else 0) + (if kept then whole else 0) +
        (if p.samples ≠ 1 && resolve && p.depth ≠ some t then line w (sampleBytes t.fmt) else 0))).sum).sum

/-- Every tile of a pass, or those with a non-empty list, rendered and stored (R247, R251). -/
def storePass (s : State) (k : Nat) (p : RenderPass) (resolve : Bool) : State :=
  let every := (rangeFrom 0 ((p.height + 31) / 32)).flatMap fun ty => (rangeFrom 0 ((p.width + 31) / 32)).map fun tx => (tx, ty)
  let tiles := if resolve then every else every.filter p.tiles.contains
  let s := noteBytes s (ctxRequester k) (passBytes p tiles resolve)
  each tiles s fun s e =>
    each (rangeFrom (32 * e.2) (Nat.min 32 (p.height - 32 * e.2))) s fun s y =>
      each (rangeFrom (32 * e.1) (Nat.min 32 (p.width - 32 * e.1))) s fun s x => storePixel s k p x y resolve

/-- END_PASS: every tile is stored and the pass ends. -/
def endPass (k : Nat) (s : State) (_j : GpuJob) (_p : Bytes) : Option State :=
  match (ctxAt s k).pass with
  | some p => some (updCtx (storePass s k p true) k fun c => { c with pass := none })
  | none => none

def execEndPass (t : Rrp) (ctx : Fin 34) (s : State) : Out :=
  .next (finish s (onPacket (atTime s t) ctx.val 0x09 (endPass ctx.val)))

/-! ### Work (R249 to R252, R272) -/

/-- The descriptors that the bound programs need are there (R272, 0x09). -/
def resourcesOk (c : GpuCtx) : Bool :=
  (rangeFrom 0 3).all fun st =>
    match vecAt c.progs st none with
    | none => true
    | some p => p.bindings.all fun e =>
      match (vecAt c.res st [])[e.1]?.join with
      | some r => r.kind = e.2.1 && r.fmt = e.2.2.2.1 && e.2.2.2.2 ≤ r.size
      | none => false

/-- The outputs of the fragment program are targets of the pass (R272, 0x0A). -/
def outputsOk (c : GpuCtx) : Bool :=
  match vecAt c.progs 1 none, c.pass with
  | some f, some p => f.outMask % 16 < 2 ^ p.colours.length && (!bit f.outMask 4 || p.depth.isSome)
  | _, _ => false

/-- The first check of R272 that fails; 0 where none does. -/
def workCheck (c : GpuCtx) (draw rays : Bool) : Nat :=
  let compute := vecAt c.progs 2 none
  if !resourcesOk c then 9
  else if draw then (if (vecAt c.progs 0 none).isSome && outputsOk c then 0 else 0x0A)
  else match compute with
    | none => 0x0A
    | some p => if rays && !p.usesRays then 0x0B else 0

/-- What a shader program does: free writes through the slice's translation, and perhaps a blocked read; what it moves, the reads
of its ray queries included, counts on the context's DRAM item (R244, R266, R272: the programs' instructions are not documented). -/
def runShader (s : State) (k : Nat) : State :=
  let ws := Config.shaderWrites s.free
  let s := { s with free := s.free + 1 }
  let (n, s) := takeFree s (2 ^ 32)
  let s := noteBytes s (ctxRequester k) (64 * n)
  let s := each ws s fun s w => jobWrite s k w.1 [w.2]
  let (b, s) := takeFree s 2
  if b = 1 then jobBlocked s k else s

/-- The parameter buffer that a context may use, in bytes (R249). -/
def pbBudget (s : State) (k : Nat) : Nat :=
  match ctxRecOf s k with
  | some r => 1024 * (if k < 32 then Nat.min r.pbKiB (sreg s k 0x220) else r.pbKiB)
  | none => 0

/-- Whether a pass may make a partial render (R251). -/
def partialOk (p : RenderPass) : Bool := p.samples = 1 || (p.colours.all (fun t => t.msAddr ≠ 0) && p.depth.isSome)

/-- What a primitive draws on the tiles it touches, inside the target. -/
def primFrags (s : State) (p : RenderPass) (q : Prim) (mask : Nat) (st : Nat × Nat) : List Frag :=
  ((Config.fragments s.free).map fun e => ⟨e.1, e.2.1, e.2.2.1, e.2.2.2.1, e.2.2.2.2, mask, st⟩).filter fun (f : Frag) =>
    f.x < p.width && f.y < p.height && f.sample < p.samples && q.tiles.contains (tileAt f.x f.y)

/-- A primitive that fits binned: its lists stand in the parameter buffer, in a form that is not stated (R250). -/
def addPrim (s : State) (k : Nat) (p : RenderPass) (q : Prim) : State :=
  let c := ctxAt s k
  let mask := (vecAt c.progs 1 none).elim 0 fun f => f.outMask
  let frags := primFrags s p q mask c.state
  let (bs, s) := takeBytes s q.bytes
  let s := jobPut s k (sreg s k 0x218 + p.pbUsed) bs
  updCtx { s with free := s.free + 1 } k fun c => { c with pass := some { p with
    pbUsed := p.pbUsed + q.bytes, tiles := p.tiles ++ q.tiles.filter fun e => !p.tiles.contains e, frags := p.frags ++ frags } }

/-- A partial render (R251): the tiles with a list are stored with all their samples, and the buffer is free. -/
def partialRender (s : State) (k : Nat) (p : RenderPass) : State × RenderPass :=
  let q := { p with
    pbUsed := 0, tiles := [], frags := [], partials := p.partials + 1, stored := p.stored ++ p.tiles.filter fun e => !p.stored.contains e }
  (updCtx (storePass s k p false) k fun c => { c with pass := some q }, q)

/-- A primitive binned (R250 to R252): one that would go beyond the buffer stops at its start, and a partial render makes room, or
the pass is aborted with its targets untouched. One that the whole buffer cannot hold aborts the pass too (log entry 221). -/
def binPrim (s : State) (k : Nat) (j : GpuJob) (q : Prim) : State :=
  match (ctxAt s k).pass with
  | none => s
  | some p =>
    let room := pbBudget s k
    if p.pbUsed + q.bytes ≤ room then addPrim s k p q
    else if !partialOk p || room < q.bytes then failJob s k 1 j.pos
    else
      let (s, p) := partialRender s k p
      addPrim s k p q

/-- A draw: the checks of R272, the shader programs, the binning of each primitive in order. -/
def drawWork (s : State) (k : Nat) (prims : List Prim) (shaderFault : Bool) (j : GpuJob) : State :=
  let code := workCheck (ctxAt s k) true false
  if code ≠ 0 then failJob s k 8 code
  else
    let s := runShader s k
    if shaderFault then failJob s k 0x0A j.pos else each prims s fun s q => binPrim s k j q

/-- DRAW. On context 32, which has no command packets, the binning of its compositor job beyond its pool is a partial
render, recorded as a fault of region GPU (R258). -/
def drawPacket (s : State) (k : Nat) (prims : List Prim) (shaderFault : Bool) : State :=
  if k = 32 then
    if ctxRuns s 32 && !s.gpu.compJobs.isEmpty && pbBudget s 32 < (prims.map fun q => q.bytes).sum then
      report s 0x52 gpuNoCluster effGuest
    else s
  else onPacket s k 0x05 fun s j _ => some (drawWork s k prims shaderFault j)

def execDraw (t : Rrp) (ctx : Fin 34) (prims : List Prim) (shaderFault : Bool) (s : State) : Out :=
  .next (finish s (drawPacket (atTime s t) ctx.val prims shaderFault))

/-- DRAW_INDEXED: as DRAW, with INDEX_SIZE in bit 0 of its word. -/
def drawIndexed (s : State) (k : Nat) (prims : List Prim) (shaderFault : Bool) : State :=
  onPacket s k 0x06 fun s j p => if u32 p 8 > 1 then none else some (drawWork s k prims shaderFault j)

def execDrawIndexed (t : Rrp) (ctx : Fin 34) (prims : List Prim) (shaderFault : Bool) (s : State) : Out :=
  .next (finish s (drawIndexed (atTime s t) ctx.val prims shaderFault))

/-- Compute work: three sizes of 1 to 65 535, the checks of R272, the program. -/
def computeWork (s : State) (k : Nat) (rays shaderFault : Bool) (j : GpuJob) (p : Bytes) : Option State :=
  if !([0, 4, 8].all fun o => 1 ≤ u32 p o && u32 p o ≤ 65535) then none
  else
    let code := workCheck (ctxAt s k) false rays
    if code ≠ 0 then some (failJob s k 8 code)
    else
      let s := runShader s k
      some (if shaderFault then failJob s k 0x0A j.pos else s)

def execDispatch (t : Rrp) (ctx : Fin 34) (shaderFault : Bool) (s : State) : Out :=
  .next (finish s (onPacket (atTime s t) ctx.val 0x07 fun s j p => computeWork s ctx.val false shaderFault j p))

/-- TRACE_RAYS: one invocation of the compute program for each ray; its queries are the program's own (R266). -/
def execTraceRays (t : Rrp) (ctx : Fin 34) (shaderFault : Bool) (s : State) : Out :=
  .next (finish s (onPacket (atTime s t) ctx.val 0x08 fun s j p => computeWork s ctx.val true shaderFault j p))

/-! ### Memory and hit-tests (R243, R267) -/

/-- WAIT_MEM: goes on where the value at ADDR is at least VALUE, else waits. -/
def waitMem (k : Nat) (s : State) (_j : GpuJob) (p : Bytes) : Option State :=
  if u64 p 0 % 8 ≠ 0 then none
  else
    let (b, s) := jobFetch s k (u64 p 0) 8
    some (if u64 p 8 ≤ leNat b then s else updJob s k fun j => { j with waiting := true })

def execWaitMem (t : Rrp) (ctx : Fin 34) (s : State) : Out :=
  .next (finish s (onPacket (atTime s t) ctx.val 0x0B (waitMem ctx.val)))

/-- A re-read of a waiting WAIT_MEM while the window is open: the job goes on where the value has been reached. -/
def waitSatisfied (s : State) (k : Nat) : State :=
  match (ctxAt s k).job with
  | some j =>
    if j.waiting && j.ended.isNone && ctxRuns s k then onPacket (updJob s k fun j => { j with waiting := false }) k 0x0B (waitMem k)
    else s
  | none => s

def execWaitMemSatisfied (t : Rrp) (ctx : Fin 34) (s : State) : Out :=
  .next (finish s (waitSatisfied (atTime s t) ctx.val))

/-- WRITE_MEM: VALUE written once all earlier work is complete. -/
def execWriteMem (t : Rrp) (ctx : Fin 34) (s : State) : Out :=
  .next (finish s (onPacket (atTime s t) ctx.val 0x0C fun s _ p => some (jobPut s ctx.val (u64 p 0) (sub p 8 8))))

/-- The header of a hierarchy keeps Table 9-8 (R264): the root node stands within TOTAL_LENGTH, after the header. -/
def hierarchyOk (b : Bytes) : Bool :=
  u32 b 0 = 0x31485642 && u16 b 4 = 1 && 1 ≤ u16 b 6 && u16 b 6 ≤ 64 && u32 b 8 ≤ 2 ^ 28 && u32 b 12 % 64 = 0 && 64 ≤ u32 b 12 &&
    u32 b 12 + 128 ≤ u32 b 8 && zeros b 40 24

/-- HITTEST_SCENE (R267): only the slice that owns the channel; it takes effect from the next touch frame. A header that
breaks Table 9-8 ends the job with BAD_PACKET (DESIGN CHOICE, log entry 28). -/
def hittestScene (k : Nat) (s : State) (_j : GpuJob) (p : Bytes) : Option State :=
  let ch := u32 p 0
  if ch > 7 || ownerSlice s 0x03 ch ≠ some k then none
  else if u64 p 4 = 0 then some (updGpu s fun g => { g with hitNext := vecMod g.hitNext ch fun _ => some none })
  else
    let (h, s) := jobFetch s k (u64 p 4) 64
    let (m, s) := jobFetch s k (u64 p 12) 64
    if !hierarchyOk h then none
    else
      let b : HitBinding := ⟨k, u64 p 4, (rangeFrom 0 16).map fun i => u32 m (4 * i)⟩
      some (updGpu s fun g => { g with hitNext := vecMod g.hitNext ch fun _ => some (some b) })

def execHittestScene (t : Rrp) (ctx : Fin 34) (s : State) : Out :=
  .next (finish s (onPacket (atTime s t) ctx.val 0x0D (hittestScene ctx.val)))

end Sys2Proof.Machine
end

