-- ==== Sys2Proof/Machine/Rays.lean ====
section
/-! DEFINITION. Ray queries against a hierarchy (R264, R265, R268, R269). Finite binary32 values are multiples of 2^-149, so that rays,
boxes and triangles are compared exactly, as integers on one scale; the rounding that a unit's own arithmetic has is not stated
(DESIGN CHOICE, log entry 222). -/

namespace Sys2Proof.Machine

/-! ### Vectors -/

/-- A point or a direction. -/
structure Vec where
  x : Int
  y : Int
  z : Int
  deriving DecidableEq, Repr

def Vec.minus (a b : Vec) : Vec := ⟨a.x - b.x, a.y - b.y, a.z - b.z⟩
def Vec.dot (a b : Vec) : Int := a.x * b.x + a.y * b.y + a.z * b.z
def Vec.cross (a b : Vec) : Vec := ⟨a.y * b.z - a.z * b.y, a.z * b.x - a.x * b.z, a.x * b.y - a.y * b.x⟩
def Vec.times (k : Int) (a : Vec) : Vec := ⟨k * a.x, k * a.y, k * a.z⟩

/-- Three binary32 coordinates, in units of 2^-149; none where one is not finite. -/
def vecOf (b : Bytes) (o : Nat) : Option Vec :=
  match f32Int (u32 b o), f32Int (u32 b (o + 4)), f32Int (u32 b (o + 8)) with
  | some x, some y, some z => some ⟨x, y, z⟩
  | _, _, _ => none

/-! ### The ray (R268) -/

/-- A ray for t in 0 to 1: origin and direction, on a scale of scale · 2^149 to one. -/
structure Ray where
  o : Vec
  d : Vec
  scale : Int
  deriving DecidableEq, Repr

/-- Row r of M applied to (x, y, z, 1), in units of 2^-149. -/
def matrixRow (m : List Int) (x y z : Int) (r : Nat) : Int :=
  m.getD (4 * r) 0 * x + m.getD (4 * r + 1) 0 * y + m.getD (4 * r + 2) 0 * z + m.getD (4 * r + 3) 0

/-- The ray of a panel position: from p0 = M × (x, y, 0, 1) to p1 = M × (x, y, 1, 1), each divided by its w. None where a w is
zero or an element of M is not finite. -/
def rayOf (m : List Nat) (x y : Nat) : Option Ray :=
  if (m.map f32Int).any fun v => v.isNone then none
  else
    let m := m.map fun w => (f32Int w).getD 0
    let p := fun (z : Int) => (⟨matrixRow m x y z 0, matrixRow m x y z 1, matrixRow m x y z 2⟩ : Vec)
    let w0 := matrixRow m x y 0 3
    let w1 := matrixRow m x y 1 3
    if w0 = 0 || w1 = 0 then none
    else
      let k : Int := (w0 * w1).sign * 2 ^ 149
      some ⟨(p 0).times (k * w1), (((p 1).times w0).minus ((p 0).times w1)).times k, (w0 * w1).natAbs⟩

/-- A point of the hierarchy on the scale of a ray. -/
def Ray.point (r : Ray) (v : Vec) : Vec := v.times r.scale

/-! ### Boxes and triangles (R265) -/

/-- The bounds on t that one axis of a box sets, as fractions: the least and the greatest; none where the ray runs beside it. -/
def slab (o d lo hi : Int) : Option (List (Int × Int) × List (Int × Int)) :=
  if d = 0 then (if lo ≤ o && o ≤ hi then some ([], []) else none)
  else if 0 < d then some ([(lo - o, d)], [(hi - o, d)])
  else some ([(o - hi, -d)], [(o - lo, -d)])

/-- Whether a ray meets a box, its faces included. -/
def boxMet (r : Ray) (lo hi : Vec) : Bool :=
  let lo := r.point lo
  let hi := r.point hi
  match slab r.o.x r.d.x lo.x hi.x, slab r.o.y r.d.y lo.y hi.y, slab r.o.z r.d.z lo.z hi.z with
  | some a, some b, some c =>
    let least := (0, 1) :: (a.1 ++ b.1 ++ c.1)
    let most := (1, 1) :: (a.2 ++ b.2 ++ c.2)
    least.all fun p => most.all fun q => p.1 * q.2 ≤ q.1 * p.2
  | _, _, _ => false

/-- Where a ray hits a triangle, its edges and vertices included: t as a fraction in 0 to 1. A triangle that the ray runs along, or
with no area, is not hit. -/
def triangleHit (r : Ray) (v0 v1 v2 : Vec) : Option (Nat × Nat) :=
  let v0 := r.point v0
  let e1 := (r.point v1).minus v0
  let e2 := (r.point v2).minus v0
  let h := r.d.cross e2
  let a := e1.dot h
  let s := r.o.minus v0
  let q := s.cross e1
  let g := a.sign
  let u := g * s.dot h
  let v := g * r.d.dot q
  let t := g * e2.dot q
  if a ≠ 0 && 0 ≤ u && 0 ≤ v && u + v ≤ g * a && 0 ≤ t && t ≤ g * a then some (t.toNat, a.natAbs) else none

/-! ### Traversal (R264, R265, R269) -/

/-- A hit: t as a fraction, OBJECT_ID, and the triangle's address. -/
structure Hit where
  num : Nat
  den : Nat
  id : Nat
  addr : Nat
  deriving DecidableEq, Repr

/-- Whether a hit wins over another: the lower t, then the lower OBJECT_ID, then the lower address. -/
def Hit.wins (a b : Hit) : Bool :=
  let l := a.num * b.den
  let r := b.num * a.den
  l < r || (l = r && (a.id < b.id || (a.id = b.id && a.addr < b.addr)))

/-- What a query has still to visit: a node at a depth, or a triangle, by offset. -/
inductive Visit where
  | node (off depth : Nat)
  | triangle (off : Nat)
  deriving DecidableEq, Repr

/-- The children of a node that the ray meets; none where the node breaks Table 9-8. -/
def nodeVisits (r : Ray) (b : Bytes) (total most depth : Nat) : Option (List Visit) :=
  let n := u8 b 0
  let leaf := fun (i : Nat) => bit (u8 b 1) i
  let off := fun (i : Nat) => u32 b (4 + 4 * i)
  let tris := fun (i : Nat) => u8 b (20 + i)
  let childOk := fun (i : Nat) =>
    if leaf i then off i % 16 = 0 && 1 ≤ tris i && tris i ≤ 16 && 64 ≤ off i && off i + 48 * tris i ≤ total
    else off i % 64 = 0 && tris i = 0 && 64 ≤ off i && off i + 128 ≤ total && depth < most
  if !(1 ≤ n && n ≤ 4 && u8 b 1 < 2 ^ n && zeros b 2 2 && zeros b 24 8 && (rangeFrom 0 n).all childOk) then none
  else some ((rangeFrom 0 n).flatMap fun i =>
    match vecOf b (32 + 24 * i), vecOf b (44 + 24 * i) with
    | some lo, some hi =>
      if !boxMet r lo hi then []
      else if leaf i then (rangeFrom 0 (tris i)).map fun j => .triangle (off i + 48 * j)
      else [.node (off i) (depth + 1)]
    | _, _ => [])

/-- How a query ends: HIT, NONE, INCOMPLETE, MALFORMED or BLOCKED (R268). -/
inductive Found where
  | hit (h : Hit)
  | nothing
  | incomplete
  | malformed
  | blocked
  deriving DecidableEq, Repr

/-- A hierarchy as a query sees it: the slice that bound it, its address, TOTAL_LENGTH and DEPTH. -/
structure Scene where
  slice : Nat
  addr : Nat
  total : Nat
  depth : Nat
  deriving DecidableEq, Repr

/-- A read of a query, through the slice's translation, counted on the item of the touch processor (R269). -/
def sceneRead (s : State) (h : Scene) (off n : Nat) : MemRes × State :=
  sliceRead (countBytes s 0x10 (movedBytes s (h.addr + off) n false)) h.slice (h.addr + off) n false

/-- The traversal of a hierarchy, n visits at most. Every node whose box the ray meets is visited, and every triangle of a leaf whose
box it meets, so that the result never depends on the order (R265). -/
def traverse (r : Ray) (h : Scene) : Nat → List Visit → Option Hit → State → Found × State
  | _, [], best, s => ((match best with
    | some b => .hit b
    | none => .nothing), s)
  | 0, _ :: _, _, s => (.incomplete, s)
  | n + 1, .node off depth :: rest, best, s =>
    match sceneRead s h off 128 with
    | (.ok b, s) => (match nodeVisits r b h.total h.depth depth with
      | some vs => traverse r h n (vs ++ rest) best s
      | none => (.malformed, s))
    | (_, s) => (.blocked, s)
  | n + 1, .triangle off :: rest, best, s =>
    match sceneRead s h off 48 with
    | (.ok b, s) =>
      if u32 b 36 = 0xFFFFFFFF || !zeros b 40 8 then (.malformed, s)
      else
        let hit := match vecOf b 0, vecOf b 12, vecOf b 24 with
          | some v0, some v1, some v2 => (triangleHit r v0 v1 v2).map fun (q : Nat × Nat) => Hit.mk q.1 q.2 (u32 b 36) (h.addr + off)
          | _, _, _ => none
        let best := match hit, best with
          | some a, some c => if a.wins c then some a else some c
          | some a, none => some a
          | none, c => c
        traverse r h n rest best s
    | (_, s) => (.blocked, s)

/-- t in binary32: the value below, or the next where binary32 does not hold it; which of the two is not stated. -/
def hitBits (h : Hit) : Nat :=
  let (w, exact) := f32Below h.num h.den
  if exact || !Config.roundRay h.num h.den then w else w + 1

/-- HIT_STATUS, OBJECT_ID and HIT_T of a query (Table 11-5). -/
def foundCodes : Found → Nat × Nat × Nat
  | .hit h => (0, h.id, hitBits h)
  | .nothing => (1, 0xFFFFFFFF, 0)
  | .incomplete => (2, 0xFFFFFFFF, 0)
  | .malformed => (3, 0xFFFFFFFF, 0)
  | .blocked => (4, 0xFFFFFFFF, 0)

/-- A hit-test query (R268, R269): the header is read again, and the traversal begins at ROOT with 2 048 visits. A position whose ray
does not exist hits nothing (log entry 222). -/
def sceneQuery (s : State) (b : HitBinding) (x y : Nat) : Found × State :=
  let head : Scene := ⟨b.slice, b.addr, 64, 0⟩
  let (f, s) : Found × State := match sceneRead s head 0 64 with
    | (.ok h, s) =>
      if !hierarchyOk h then (.malformed, s)
      else (match rayOf b.matrix x y with
        | some r => traverse r { head with total := u32 h 8, depth := u16 h 6 } 2048 [.node (u32 h 12) 1] none s
        | none => (.nothing, s))
    | (_, s) => (.blocked, s)
  (f, if f = .blocked then sliceBlocked s b.slice else s)

end Sys2Proof.Machine
end

