-- ==== Sys2Proof/Machine/Latch.lean ====
section
/-! DEFINITION. LATCH: the layer set of the next output frame fixed (R100, R150, R153, R157, R162, R164, R165, R167, R180, R202,
R228, R229, R286). -/

namespace Sys2Proof.Machine

/-- The reference frame whose output frame j a LATCH at the present position opens. -/
def openedRef (s : State) (p : OutPlan) (j : Nat) : Nat :=
  let f := s.now.frame
  let cands := [(f + 2 ^ 32 - 1) % 2 ^ 32, f, (f + 1) % 2 ^ 32]
  (cands.find? fun g => rrpNum (latchRrp s p g j) = rrpNum s.now).getD ((f + 1) % 2 ^ 32)

/-- Layers emptied at this latch after a slice reset (R167). -/
def latchEmptying (s : State) (n : Nat) : State :=
  let ks := (outAt s n).emptying
  let s := updOut s n fun o => { o with emptying := [] }
  emptyLayers s n fun _ c => c.by_ = .flip && ks.contains c.slice

/-- The display records due at this latch, and those of a finished base of at least 2 RL before it, which is adopted: applied in
order of arrival, those superseded completed, later ones deferred (R161, R162, R164, R165). A record that takes effect with a base
completes APPLIED (log entry 211). -/
def latchRecords (s : State) (n : Nat) (effect : Rrp) : State :=
  let isDue := fun (r : FlipRec) => !r.static && (r.deferred || before s r.arrival 2)
  let adopt := ((outAt s n).ready.bind fun q => q.done).any fun d => before s d 2
  let s := if adopt then supersedeReady s n isDue else s
  let o := outAt s n
  let (keep, gone) := splitSuperseded (byArrival s (o.pending.filter isDue))
  let later := (o.pending.filter fun r => !isDue r).map fun r => if r.static then r else { r with deferred := true }
  let base := if adopt then o.ready else none
  let s := updOut s n fun o => { o with
    pending := later, ready := if adopt then none else o.ready, base := base.elim o.base fun q => some q.toB }
  let s := each gone s fun s r => dropFlip s r 2 0
  let shown := base.elim [] fun q => q.records.map fun r => { r with deferred := false }
  each (byArrival s (shown ++ keep)) s fun s r => applyFlip s n r effect

/-- A layer whose fetch was blocked shows its fallback colour in the whole frame that opens (R170). -/
def latchBlocked (s : State) (n : Nat) : State :=
  updOut s n fun o => { o with layers := o.layers.map fun c => c.map fun c => { c with blockedFrom := c.blockedFrom.map fun _ => 0 } }

/-- The locked gamma table of an output, if its atlas table has one (R188). -/
def lockedGamma (s : State) (n : Nat) : Option Bytes := (atlasOut s n).bind fun t => t.gamma

/-- The gamma table and matrices committed at least 2 RL before this latch in force (R153, R157, R188). -/
def latchTables (s : State) (n : Nat) : State :=
  let o := outAt s n
  let g := (o.gammaNext.filter fun e => before s e.1 2).getLast?
  let gamma := match lockedGamma s n with
    | some t => some t
    | none => match g with
      | some e => some e.2
      | none => o.gammaForce
  let mats := o.matNext.filter fun e => before s e.2.1 2
  let force := mats.foldl (fun v e => vecMod v e.1 fun _ => some e.2.2) o.matForce
  updOut s n fun o => { o with
    gammaForce := gamma, gammaNext := o.gammaNext.filter fun e => !before s e.1 2, matForce := force,
    matNext := o.matNext.filter fun e => !before s e.2.1 2 }

/-- The takeover latch (R228, R229): an armed takeover of at least 1 RL before begins; S composes from this frame on. -/
def latchTakeover (s : State) (n : Nat) (effect : Rrp) : State :=
  let o := outAt s n
  if o.takeover = .armed && before s o.armedAt 1 then
    let s := updOut { s with spare := { s.spare with output := some n } } n fun o => { o with takeover := .spare }
    updInsp (setNum s (0x304D + 0x100 * n) 0 (rrpNum effect)) fun d => { d with takeovers := sat255 d.takeovers }
  else s

/-- Whether output frame j of reference frame f is recorded (R180). -/
def recordsFrame (s : State) (n : Nat) (p : OutPlan) (f j : Nat) : Bool :=
  bit p.flags 0 && recordEntry s n 1 ≠ 0 && (f * p.mult + j) % recordEntry s n 3 = 0

/-- LATCH of output n with output frame j. -/
def latchOutput (s : State) (n j : Nat) : State :=
  match activePlan s n with
  | none => s
  | some p =>
    let o := outAt s n
    if !(o.scan = .starting || o.scan = .running) || o.stopping.isSome then s
    else
      let effect := openedFrame s p j
      let s := latchTables (latchEmptying (latchBlocked s n) n) n
      let s := latchRecords s n effect
      let s := feedsLatch s n effect
      let s := latchSurface (latchSurface s n 0) n 1
      let s := latchTakeover s n effect
      let rec_ := recordsFrame s n p (openedRef s p j) j
      let s := if s.sentinel.atlas.isSome then clearFault s 0x34 0 else s
      updOut s n fun o => { o with
        frame := effect, frameJ := j, bandStart := s.now, missing := [], spareFrom := none,
        firstFrame := if o.firstFrame.isNone then some effect else o.firstFrame, recNext := rec_, layerP := s.sentinel.atlas.isSome }

def execLatch (t : Rrp) (n : Fin 8) (j : Fin 2) (s : State) : Out :=
  .next (finish s (rowEvent (atTime s t) 1 n.val j.val fun s => latchOutput s n.val j.val))

end Sys2Proof.Machine
end

