-- ==== Sys2Proof/Machine/Haptic.lean ====
section
/-! DEFINITION. Haptic channels: triggers, playing, braking, faults and measurements (chapter 12). -/

namespace Sys2Proof.Machine

/-- The entry k of haptic channel h (Table 12-5). -/
def hapticIndex (h k : Nat) : Nat := 0x4800 + 0x10 * h + k

/-- Whether the field die's haptic engines work: FIELD is on and not isolated, and the die link is up. -/
def fieldOn (s : State) : Bool := domainOn s 1 && s.dieLink && !isolatedRegion s .field

/-- Whether the active last enables a haptic channel (R138, R330). -/
def hapticEnabled (s : State) (h : Nat) : Bool :=
  match activeLast s with
  | some l => (l.haptics[h]?.map fun r => r.enabled).getD false
  | none => false

/-- Haptic n State (0x48n0). -/
def hapticState (s : State) (h : Nat) : Nat :=
  let c := hapticAt s h
  match c.st with
  | .fault => 6
  | .safe => 7
  | _ =>
    if !hapticEnabled s h then 0
    else if c.waiting.isSome || c.merge.isSome then 4
    else match c.st with
      | .playing => 2
      | .braking => 3
      | .measuring => 5
      | _ => 1

/-! ### Effects (R328, R329) -/

/-- The bytes of effect e; empty where the slot holds none. -/
def effectOf (s : State) (e : Nat) : Bytes := entryBytes s (effectIndex e) 0

/-- An image of an effect (R328): 0, or the status of its refusal. -/
def effectCheck (b : Bytes) : Nat :=
  if b.length ≠ 16 + 2 * u16 b 2 || b.length < 16 then stLength
  else if u8 b 0 = 1 && u8 b 1 < 2 && 1 ≤ u16 b 2 && u16 b 2 ≤ 12000 && 50 ≤ u16 b 4 && u16 b 4 ≤ 1000 && 64 ≤ u8 b 6 &&
      u8 b 6 ≤ 128 && u8 b 7 ≤ 3 && zeros b 8 4 && u32 b 12 = crcOf crc32c (b.drop 16) then stOk
  else stRange

/-- Whether a channel plays or waits to play an effect (R329). -/
def effectBusy (s : State) (e : Nat) : Bool :=
  s.haptics.toList.any fun c =>
    (c.st = .playing && c.effect = e) || c.waiting = some e || (c.merge.map fun m => m.1) = some e

/-- Whether an effect may play: its slot holds one and is not loading (R329), and the comb has lost no pair (R394). -/
def effectReady (s : State) (e : Nat) : Bool :=
  e < 64 && !s.mem.pairLost && !(effectOf s e).isEmpty && !s.net.domains.any fun d => d.key = dkey (effectIndex e) 0

/-- OD_GAIN of an effect. -/
def effectGain (s : State) (e : Nat) : Nat := u8 (effectOf s e) 6

/-! ### Gates (R325, R332, R339) -/

/-- The gates of a channel: not driven without the HV group; at its Safe State where it is safe or in fault, or FIELD has not started
it; switched while it drives; else both low sides on. -/
def gatesOf (s : State) (h : Nat) : Gates :=
  if !vecAt s.power.goods 1 false then .undriven
  else match (hapticAt s h).st with
    | .playing | .braking | .measuring => .bridge
    | .idle | .waiting => .low
    | .fault | .safe | .notEnabled => if entryNum s (hapticIndex h 1) 4 = 1 then .low else .off

/-- The gates follow the channel's state. -/
def driveGates (s : State) (h : Nat) : State :=
  if (hapticAt s h).gates = gatesOf s h then s
  else emit (updHaptic s h fun c => { c with gates := gatesOf s h }) (.gates h (gatesOf s h))

/-- The gates of every channel, after a change of the supplies. -/
def driveAllGates (s : State) : State := each (rangeFrom 0 8) s driveGates

/-- A channel goes to a state at the present position. -/
def hapticTo (s : State) (h : Nat) (st : HapticState) : State :=
  driveGates (updHaptic s h fun c => { c with st := st, start := s.now }) h

/-! ### Playing (R331, R332, R337) -/

/-- Sample k of an effect times Nominal Voltage and its gain in 1/64: overdrive for the first ⌊OD_CYCLES × 48 000 / RESONANCE⌋
samples, then 1. The last sample is held to its end (log entry 228). -/
def effectSample (s : State) (h gain : Nat) (b : Bytes) (k : Nat) : Int :=
  let k := Nat.min k (u16 b 2 - 1)
  let g := if k < u8 b 7 * 48000 / u16 b 4 then gain else 64
  sint 16 (u16 b (16 + 2 * k)) * entryNum s (hapticIndex h 1) 1 * g

/-- The targets of an effect at each 1 µs tick (R331): interpolated linearly between samples at 48 kHz, clamped to ±Voltage Limit
(R326). -/
def effectTargets (s : State) (h gain : Nat) (b : Bytes) : List Int :=
  let limit : Int := entryNum s (hapticIndex h 1) 2 * 32767 * 64 * 1000
  (rangeFrom 0 ((u16 b 2 * 1000 + 47) / 48)).map fun u =>
    let k := u * 48 / 1000
    let f := u * 48 % 1000
    let y := effectSample s h gain b
    clampInt (-limit) limit (y k * (1000 - f : Nat) + y (k + 1) * f)

/-- An effect starts with a gain; Triggers Played counts it. -/
def startEffect (s : State) (h e gain : Nat) : State :=
  let s := updHaptic s h fun c => { c with
    effect := e, gain := gain, waiting := none, merge := none, aborted := c.aborted || c.st = .measuring }
  emit (bump (hapticTo s h .playing) (hapticIndex h 7) 1) (.hapticDrive h (effectTargets s h gain (effectOf s e)))

/-- A trigger dropped, coalesced. -/
def dropTrigger (s : State) (h : Nat) : State := bump s (hapticIndex h 7) 2
def coalesceTrigger (s : State) (h : Nat) : State := bump s (hapticIndex h 7) 3

/-- A measurement that is due is made where the channel is enabled and idle, and no retry of an aborted one is waited for (R341). -/
def tryMeasure (s : State) (h : Nat) : State :=
  let c := hapticAt s h
  if c.st = .idle && c.measureDue && !c.aborted && hapticEnabled s h then emit (hapticTo s h .measuring) (.hapticSine h) else s

/-- The channel becomes idle: a waiting trigger starts with its full gain (R337); a measurement that is due is made (R341). -/
def hapticIdle (s : State) (h : Nat) : State :=
  match (hapticAt s h).waiting with
  | some e => startEffect s h e (effectGain s e)
  | none =>
    let s := updHaptic (hapticTo s h .idle) h fun c => { c with
      retryFrom := if c.aborted && c.retryFrom.isNone then some s.now else c.retryFrom }
    tryMeasure s h

/-- The gain of a merged effect: residual motion credited toward the overdrive (Table 12-3). -/
def mergeGain (s : State) (h e residual : Nat) : Nat :=
  let n := entryNum s (hapticIndex h 3) 3
  let x : Int := ((effectGain s e : Int) - 64) * ((n : Int) - Nat.min residual n)
  (64 + (2 * x + n).fdiv (2 * n)).toNat

/-- A trigger on a busy channel (Table 12-3). A trigger while a merged effect waits for its start replaces it, as a waiting
one is replaced under Finish (DESIGN CHOICE, log entry 29). -/
def busyTrigger (s : State) (h e residual : Nat) : State :=
  let c := hapticAt s h
  match entryNum s (hapticIndex h 2) 0 with
  | 0 =>
    let s := if c.merge.isSome || c.waiting.isSome then dropTrigger s h else s
    if residual < entryNum s (hapticIndex h 3) 2 then startEffect s h e (mergeGain s h e residual)
    else hapticTo (updHaptic s h fun c => { c with waiting := none, merge := some (e, mergeGain s h e residual) }) h .waiting
  | 1 =>
    let s := if c.waiting.isSome then dropTrigger s h else s
    updHaptic s h fun c => { c with waiting := some e }
  | _ => dropTrigger s h

/-- The 1 µs tick of a position. -/
def tickOf (s : State) (x : Rrp) : Nat := x.frame * 1000000 + ticksUs s.tb.rate (rrpPos x)

/-- The trigger of a higher source in the tick of the previous one takes its place (R337), where that one waits or has started in this
tick. -/
def replaceTrigger (s : State) (h e residual : Nat) (busy : Bool) : State :=
  let c := hapticAt s h
  let gain := if busy then mergeGain s h e residual else effectGain s e
  if c.waiting.isSome then updHaptic s h fun c => { c with waiting := some e }
  else if c.merge.isSome then updHaptic s h fun c => { c with merge := some (e, gain) }
  else if c.st = .playing && tickOf s c.start = tickOf s s.now then
    emit (updHaptic s h fun c => { c with effect := e, gain := gain }) (.hapticDrive h (effectTargets s h gain (effectOf s e)))
  else s

/-- A trigger that its mode and source allow (R327, R329, R330, R336, R337); rank 0 is the pin, 1 a contact, 2 a write. -/
def trigger (s : State) (h e rank residual : Nat) : State :=
  let c := hapticAt s h
  if !fieldOn s || c.st = .fault || c.st = .safe then s
  else if !hapticEnabled s h || !effectReady s e then dropTrigger s h
  else
    let tick := tickOf s s.now
    let busy := c.st = .playing || c.st = .braking || c.st = .waiting
    match c.lastTick.filter fun p => p.1 = tick with
    | some p =>
      let s := coalesceTrigger s h
      if rank < p.2.1 then
        replaceTrigger (updHaptic s h fun c => { c with lastTick := some (tick, rank, p.2.2) }) h e residual p.2.2
      else s
    | none =>
      let s := updHaptic s h fun c => { c with lastTick := some (tick, rank, busy) }
      if busy then busyTrigger s h e residual else startEffect s h e (effectGain s e)

/-- Whether a mode accepts triggers of a source (Table 12-2): the pin and contacts, writes. -/
def acceptsPin (m : Mode) : Bool := m = .run || m = .degraded || m = .hold || m = .quiet
def acceptsWrite (m : Mode) : Bool := m = .degraded || m = .hold || m = .bringup || m = .service

/-- TRIG has held a level for 1.5 µs (R334): an edge where it had held the other one, and a trigger where Pin Polarity names it. Its
level before the first edge is taken as low (log entry 227). -/
def pinTrigger (s : State) (h : Nat) (rising : Bool) (residual : Nat) : State :=
  if !domainOn s 1 || isolatedRegion s .field || (hapticAt s h).trig = rising then s
  else
    let s := updHaptic s h fun c => { c with trig := rising }
    if acceptsPin s.mode && (entryNum s (hapticIndex h 4) 2 = 1) = rising then
      trigger s h (entryNum s (hapticIndex h 4) 1) 0 residual
    else s

def execHapticPinTrigger (t : Rrp) (h : Fin 8) (rising : Bool) (residual : Nat) (s : State) : Out :=
  .next (finish s (pinTrigger (atTime s t) h.val rising residual))

/-- The contact trigger (R315, R335): the effect of its zone; the residual motion at this moment is the actuator's. -/
def contactTrigger (s : State) (h zone : Nat) : State :=
  if !acceptsPin s.mode then s
  else
    let (r, s) := takeFree s 65536
    let e := if zone = 0xFF then entryNum s (hapticIndex h 4) 3 else entryNum s (hapticIndex h 5) (zone + 1)
    trigger s h e 1 r

/-- HAPTIC_TRIGGER of a slice (R333, R336, R416): of a channel that it owns. -/
def sliceTrigger (s : State) (k value residual : Nat) : State :=
  if !windowOpen s k then s
  else if discarding s k then discardStart s k
  else
    let h := bits value 15 8
    if h ≥ 8 || ownerSlice s 0x04 h ≠ some k then s
    else if acceptsWrite s.mode then trigger s h (value % 256) 2 residual
    else dropTrigger s h

def execHapticTrigger (t : Rrp) (sl : Fin 32) (value residual : Nat) (s : State) : Out :=
  .next (finish s (sliceTrigger (atTime s t) sl.val value residual))

/-- Haptic n Trigger written (R333, R336). -/
def dictTrigger (s : State) (h value residual : Nat) : Nat × State :=
  if acceptsWrite s.mode then (stOk, trigger s h value 2 residual) else (stMode, s)

def execHapticNTrigger (t : Rrp) (o : Origin) (h : Fin 8) (value residual : Nat) (s : State) : Out :=
  .next (finish s (rowWriteNum (atTime s t) o (hapticIndex h.val 6) 1 value fun s => dictTrigger s h.val value residual))

/-- The merged effect starts: the zero crossing of i_m, or half a period of its resonance (Table 12-3). -/
def mergeStart (s : State) (h : Nat) : State :=
  match (hapticAt s h).merge with
  | some (e, g) => if (hapticAt s h).st = .waiting then startEffect s h e g else s
  | none => s

def execMergeStart (t : Rrp) (h : Fin 8) (s : State) : Out := .next (finish s (mergeStart (atTime s t) h.val))

/-- What follows the last sample (R331): braking where the effect asks for it, else idle. -/
def effectOver (s : State) (h : Nat) : State :=
  let c := hapticAt s h
  if c.st ≠ .playing then s
  else if bit (u8 (effectOf s c.effect) 1) 0 then
    emit (hapticTo s h .braking) (.hapticBrake h (entryNum s (hapticIndex h 3) 1) (entryNum s (hapticIndex h 3) 2))
  else hapticIdle s h

/-- Phase units in n samples at 48 kHz, rounded down. -/
def sampleTicks (r : Rate) (n : Nat) : Nat := n * frameTicks r * (frameRate r).1 / ((frameRate r).2 * 48000)

/-- The last sample has played: SAMPLES / 48 000 s after the start. -/
def effectEnd (s : State) (h : Nat) : State :=
  let c := hapticAt s h
  if sampleTicks s.tb.rate (u16 (effectOf s c.effect) 2) ≤ elapsed s.tb.rate c.start s.now then effectOver s h else s

def execEffectEnd (t : Rrp) (h : Fin 8) (s : State) : Out := .next (finish s (effectEnd (atTime s t) h.val))

/-- Braking ends: R is below Brake Threshold, or 10 ms have passed since it began, which Brake Timeouts counts (R332). -/
def brakeEnd (s : State) (h : Nat) (timeout : Bool) : State :=
  let c := hapticAt s h
  if c.st ≠ .braking || (timeout && elapsed s.tb.rate c.start s.now < msTicks s.tb.rate 10) then s
  else hapticIdle (if timeout then bump s (hapticIndex h 7) 4 else s) h

def execBrakeEnd (t : Rrp) (h : Fin 8) (s : State) : Out := .next (finish s (brakeEnd (atTime s t) h.val false))

def execBrakeTimeout (t : Rrp) (h : Fin 8) (s : State) : Out := .next (finish s (brakeEnd (atTime s t) h.val true))

/-! ### Faults and safe states (R327, R338 to R340) -/

/-- A channel goes where nothing plays or waits. -/
def hapticStop (s : State) (h : Nat) (st : HapticState) : State :=
  hapticTo (updHaptic s h fun c => { c with waiting := none, merge := none, lastTick := none }) h st

/-- A channel faults (R327): causes 1 to 5. -/
def hapticFault (s : State) (h cause : Nat) : State :=
  if !fieldOn s || cause = 0 || cause > 5 then s
  else report (setNum (hapticStop s h .fault) (hapticIndex h 7) 7 cause) 0x41 h effService

def execHapticFault (t : Rrp) (h : Fin 8) (cause : Nat) (s : State) : Out :=
  .next (finish s (hapticFault (atTime s t) h.val cause))

/-- A write of 1 to Restart clears a fault. -/
def hapticRestart (s : State) (h value : Nat) : Nat × State :=
  if value = 1 && (hapticAt s h).st = .fault then (stOk, setNum (hapticStop s h .idle) (hapticIndex h 7) 7 0)
  else (stOk, s)

def execHapticRestart (t : Rrp) (o : Origin) (h : Fin 8) (value : Nat) (s : State) : Out :=
  .next (finish s (rowWriteNum (atTime s t) o (hapticIndex h.val 6) 2 value fun s => hapticRestart s h.val value))

/-- Every channel at its safe state: the die link is lost, or FIELD goes off or is isolated (R339, R340). -/
def hapticsSafe (s : State) : State :=
  each (rangeFrom 0 8) s fun s h => if (hapticAt s h).st = .fault then s else hapticStop s h .safe

/-- The channels idle when FIELD has come up, and again after a die-link loss (R340); a measurement that is due is made. -/
def hapticsReturn (s : State) : State :=
  each (rangeFrom 0 8) s fun s h =>
    let st := (hapticAt s h).st
    if st = .safe || st = .notEnabled then tryMeasure (hapticStop s h .idle) h else s

/-- At a last switch, an effect on a channel that the new last does not enable ends as though its last sample had played, and
a waiting trigger is dropped (R338); an idle channel that it enables makes a measurement that is due. -/
def hapticSwitch (s : State) : State :=
  each (rangeFrom 0 8) s fun s h =>
    if hapticEnabled s h then tryMeasure s h
    else
      let c := hapticAt s h
      let s := if c.waiting.isSome || c.merge.isSome then dropTrigger s h else s
      let s := updHaptic s h fun c => { c with waiting := none, merge := none }
      if c.st = .waiting then hapticTo s h .idle else effectOver s h

/-! ### Measurements (R341) -/

/-- A measurement asked for: made at the first moment at which the channel is idle. -/
def askMeasure (s : State) (h : Nat) : State := tryMeasure (updHaptic s h fun c => { c with measureDue := true }) h

/-- 24 hours of raster time have passed since the last measurement. -/
def measureDue (s : State) (h : Nat) : State :=
  let recent := (hapticAt s h).measuredAt.any fun x => elapsed s.tb.rate x s.now < 24 * 3600 * msTicks s.tb.rate 1000
  if fieldOn s && !recent then askMeasure s h else s

def execHapticMeasureDue (t : Rrp) (h : Fin 8) (s : State) : Out := .next (finish s (measureDue (atTime s t) h.val))

/-- Measure Request written: in Service only. -/
def measureRequest (s : State) (h value : Nat) : Nat × State :=
  if s.mode ≠ .service then (stMode, s) else (stOk, if value = 1 then askMeasure s h else s)

def execMeasureRequest (t : Rrp) (o : Origin) (h : Fin 8) (value : Nat) (s : State) : Out :=
  .next (finish s (rowWriteNum (atTime s t) o (hapticIndex h.val 6) 3 value fun s => measureRequest s h.val value))

/-- A measurement ends after its 20 ms: Capacitance and its RRP, the day's record, and a fault for an open or shorted actuator. -/
def measureComplete (s : State) (h pf : Nat) : State :=
  let c := hapticAt s h
  if c.st ≠ .measuring || elapsed s.tb.rate c.start s.now < msTicks s.tb.rate 20 then s
  else
    let ref := entryNum s (hapticIndex h 7) 8
    let verdict := if ref = 0 then 0 else if 2 * pf < ref then 4 else if 3 * ref < 2 * pf then 5 else 0
    let s := setNum (setNum s (hapticIndex h 7) 5 (pf % 2 ^ 32)) (hapticIndex h 7) 6 (rrpNum s.now)
    let s := updInsp s fun d => { d with
      actuatorPf := vecMod d.actuatorPf h fun _ => pf % 2 ^ 32
      actuatorState := vecMod d.actuatorState h fun _ => if verdict = 4 then 2 else if verdict = 5 then 3 else 1 }
    let s := updHaptic s h fun c => { c with measureDue := false, aborted := false, retryFrom := none, measuredAt := some s.now }
    if verdict = 0 then hapticTo s h .idle else hapticFault s h verdict

def execHapticMeasureComplete (t : Rrp) (h : Fin 8) (picofarad : Nat) (s : State) : Out :=
  .next (finish s (measureComplete (atTime s t) h.val picofarad))

/-- 60 s after the channel was next idle, an aborted measurement is due again. -/
def measureRetry (s : State) (h : Nat) : State :=
  let c := hapticAt s h
  if c.aborted && c.retryFrom.any fun x => 60 * msTicks s.tb.rate 1000 ≤ elapsed s.tb.rate x s.now then
    tryMeasure (updHaptic s h fun c => { c with aborted := false, retryFrom := none }) h
  else s

def execHapticMeasureRetry (t : Rrp) (h : Fin 8) (s : State) : Out :=
  .next (finish s (measureRetry (atTime s t) h.val))

end Sys2Proof.Machine
end

