-- ==== Sys2Proof/Machine/TouchScan.lean ====
section
/-! DEFINITION. Touch channels: bursts, slots, start scans, self-tests, references, the VT40 link, and the records of the touch
ring (R291 to R300, R309 to R323). -/

namespace Sys2Proof.Machine

/-! ### Entries and electrodes -/

/-- Entry k of touch channel n (Table 11-7). -/
def touchIndex (n k : Nat) : Nat := 0x4000 + 0x100 * n + k

/-- Measured transmit and receive electrodes. -/
def txCount (s : State) (n : Nat) : Nat := entryNum s (touchIndex n 7) 3
def rxCount (s : State) (n : Nat) : Nat := entryNum s (touchIndex n 7) 4

/-- Threshold i: Touch, Release, Glove, Noise, Self, Suspect. -/
def threshold (s : State) (n i : Nat) : Int := (entryNum s (touchIndex n 4) i : Int)

/-- The burst plans of a channel in the active last, with their indices. -/
def burstPlans (s : State) (n : Nat) : List (Nat × BurstPlan) :=
  match activeLast s with
  | some l => (enumFrom 0 l.bursts).filter fun e => e.2.ch = n
  | none => []

/-- Whether any plan of a channel serves a step. -/
def stepServed (s : State) (n step : Nat) : Bool := (burstPlans s n).any fun e => bit e.2.rates (step - 1)

/-- The lowest step that any plan of the channel serves (R296); step 1 where none does. -/
def lowestStep (s : State) (n : Nat) : Nat := ((rangeFrom 1 6).find? (stepServed s n)).getD 1

/-- Frames of a slot of steps 3 to 6 (Table 11-2). -/
def slotFrames (step : Nat) : Nat := if step = 4 then 2 else if step = 5 then 6 else if step = 6 then 30 else 1

/-- The length of a measuring interval in phase units: L_ref/4 and L_ref/2 at steps 1 and 2, else one frame (Table 11-2). -/
def measureTicks (s : State) (step : Nat) : Nat :=
  frameTicks s.tb.rate / (if step = 1 then 4 else if step = 2 then 2 else 1)

/-- Whether a measuring interval of a step ends at the present position (R293). -/
def measureEnds (s : State) (step : Nat) : Bool :=
  rrpPos s.now % measureTicks s step = 0 && (step < 4 || (s.now.frame + 2 ^ 32 - 1) % 2 ^ 32 % slotFrames step = 0)

/-! ### The touch ring (R309 to R312) -/

/-- TOUCH_RING_CTRL written (R309): while ENABLE is 1 only ENABLE changes. -/
def touchRingEnable (s : State) (k value : Nat) : State :=
  if !windowOpen s k then s
  else if bit (sreg s k 0x508) 31 && !bit value 31 then setSreg s k 0x508 (sreg s k 0x508 % 16)
  else ringCtrl s k 0x508 0x500 32 4 12 value true true

def execTouchRingEnable (t : Rrp) (sl : Fin 32) (value : Nat) (s : State) : Out :=
  .next (finish s (touchRingEnable (atTime s t) sl.val value))

/-- A report record (Table 11-5). -/
def touchRecord (ty ch : Nat) (c : Contact) (flags : Nat) (at_ : Rrp) (hit : Nat × Nat × Nat) : Bytes :=
  leBytes 1 ty ++ leBytes 1 ch ++ leBytes 1 c.id ++ leBytes 1 flags ++ leBytes 2 c.x ++ leBytes 2 c.y ++ leBytes 2 c.area ++
    leBytes 2 c.strength ++ leBytes 1 hit.1 ++ zeroBytes 3 ++ leBytes 8 (rrpNum at_) ++ leBytes 4 hit.2.1 ++ leBytes 4 hit.2.2

/-- A RESYNC record: TYPE, CHANNEL and RRP. -/
def resyncRecord (ch : Nat) (at_ : Rrp) : Bytes :=
  leBytes 1 4 ++ leBytes 1 ch ++ zeroBytes 14 ++ leBytes 8 (rrpNum at_) ++ zeroBytes 8

/-- The result of a record that is not hit-tested. -/
def notTested : Nat × Nat × Nat := (0xFF, 0xFFFFFFFF, 0)

/-- Free records of a slice's touch ring. -/
def touchRoom (s : State) (k : Nat) : Nat :=
  let size := 2 ^ (sreg s k 0x508 % 16)
  (sreg s k 0x510 % 65536 + 2 * size - sreg s k 0x50C - 1) % size

/-- Records written to the ring in one go, and the touch vector once (R311); those in DRAM count on the item of requester 0x10 or
0x13 (R313). -/
def writeRecords (s : State) (k : Nat) (rs : List Bytes) : State :=
  if rs.isEmpty then s
  else
    let size := 2 ^ (sreg s k 0x508 % 16)
    let s := each rs s fun s r =>
      let w := sreg s k 0x50C
      let a := sreg s k 0x500 + w * 32
      let s := if isHost a then s else countBytes s 0x10 (movedBytes s a 32 true)
      setSreg (recordWrite s k a r true) k 0x50C ((w + 1) % size)
    raiseCause s k 2

/-- The touch channels that a slice owns. -/
def channelsOf (s : State) (k : Nat) : List Nat := (rangeFrom 0 8).filter fun n => ownerSlice s 0x03 n = some k

/-- The records that a resynchronisation writes (R312): for each channel a RESYNC, then a DOWN for each open contact. -/
def resyncRecords (s : State) (k : Nat) (at_ : Rrp) : List Bytes :=
  (channelsOf s k).flatMap fun n =>
    resyncRecord n at_ :: (sortBy (fun c => c.id) (touchAt s n).contacts).map fun c => touchRecord 1 n c c.flags at_ notTested

/-- The records of a touch frame reach the ring of the owning slice, or are discarded (R311, R312). frame marks a touch frame,
at which a pending resynchronisation takes their place once it fits. -/
def reportRecords (s : State) (n : Nat) (at_ : Rrp) (rs : List Bytes) (frame : Bool) : State :=
  match ownerSlice s 0x03 n with
  | none => s
  | some k =>
    let enabled := bit (sreg s k 0x508) 31
    let st := sreg s k 0x514
    if bit st 1 then
      let all := resyncRecords s k at_
      if frame && enabled && all.length ≤ touchRoom s k then writeRecords (setSreg s k 0x514 (st % 2)) k all
      else if rs.isEmpty then s else setSreg s k 0x514 3
    else if rs.isEmpty then s
    else if enabled && rs.length ≤ touchRoom s k then writeRecords s k rs
    else setSreg s k 0x514 3

/-! ### Lost channels (R316) -/

/-- A channel stops (R316): the main die writes an UP with LOST for each open contact that it knows; the fault is recorded
unless the active last no longer plans the channel. -/
def loseTouch (s : State) (n : Nat) (st : TouchState) (fault : Bool) : State :=
  let c := touchAt s n
  if c.st = .startScan || c.st = .scanning then
    let ups := (sortBy (fun q => q.id) c.known).map fun q => touchRecord 3 n q (Nat.lor q.flags 8) s.now notTested
    let s := updTouch s n fun c => { c with
      st := st, contacts := [], known := [], rejected := [], gloves := [], blocked := [], suspects := [], frozenSum := [],
      fired := [], overSlot := none, ended := none, got := [], slotEnd := none, nextStep := none, testing := false, testFrames := [], capturing := false,
      captureFrames := [] }
    let s := reportRecords s n s.now ups false
    let s := if fault then report s 0x40 n effService else s
    finalResult s (dkey (touchIndex n 0x10) 0) stState []
  else if c.st = .lost || c.st = .linkDown then updTouch s n fun c => { c with st := st }
  else s

/-- A front-end reports a fault. -/
def channelLost (s : State) (n : Nat) : State := loseTouch s n .lost true

def execTouchChannelLost (t : Rrp) (ch : Fin 8) (s : State) : Out := .next (finish s (channelLost (atTime s t) ch.val))

/-! ### Starting (R297) -/

/-- A channel makes its start scan, and starts at step 1 (R296): FIELD works, the active last plans it, its VT40 link is up. -/
def startTouch (s : State) (n : Nat) : State :=
  let c := touchAt s n
  if !fieldOn s || (burstPlans s n).isEmpty || (2 ≤ n && !c.linkUp) || c.st = .startScan || c.st = .scanning then s
  else updTouch s n fun c => { c with st := .startScan, step := 1, nextStep := none, scanFrom := s.now }

def execTouchStartScan (t : Rrp) (ch : Fin 8) (s : State) : Out := .next (finish s (startTouch (atTime s t) ch.val))

/-! ### Self-tests (R318, R319) -/

/-- The reference as stored, as numbers (0x4n0C). -/
def referenceOf (s : State) (n : Nat) : List Nat :=
  let b := entryBytes s (touchIndex n 0x0C) 0
  (rangeFrom 0 (b.length / 2)).map fun i => u16 b (2 * i)

/-- Reference State (0x4n0E): none, valid, another size. -/
def referenceState (s : State) (n : Nat) : Nat :=
  let r := referenceOf s n
  let t := txCount s n
  let q := rxCount s n
  if r.isEmpty then 0 else if r.length = t * q + t + q then 1 else 2

/-- The median of a list; the mean of the middle two, rounded down, where their number is even (DESIGN CHOICE, log entry 30). -/
def medianOf (xs : List Nat) : Nat :=
  let ys := sortBy id xs
  let k := ys.length
  if k = 0 then 0 else if k % 2 = 1 then ys.getD (k / 2) 0 else (ys.getD (k / 2 - 1) 0 + ys.getD (k / 2) 0) / 2

/-- The references of the self-test: nodes, transmit self, receive self (R318). -/
def testReference (s : State) (n : Nat) (nodes tx rx : List Nat) : List Nat × List Nat × List Nat :=
  let t := txCount s n
  let q := rxCount s n
  if referenceState s n = 1 then
    let r := referenceOf s n
    (r.take (t * q), (r.drop (t * q)).take t, r.drop (t * q + t))
  else (List.replicate (t * q) (medianOf nodes), List.replicate t (medianOf tx), List.replicate q (medianOf rx))

/-- The electrodes that fail: open and shorted transmit, open and shorted receive. -/
def testElectrodes (s : State) (n : Nat) (nodes tx rx : List Nat) (shorts : Bool) : List Nat × List Nat × List Nat × List Nat :=
  let t := txCount s n
  let q := rxCount s n
  let (rn, rt, rr) := testReference s n nodes tx rx
  let low := fun i => 4 * nodes.getD i 0 < rn.getD i 0
  let openTx := (rangeFrom 0 t).filter fun a => q ≠ 0 && 9 * q ≤ 10 * ((rangeFrom 0 q).filter fun b => low (a * q + b)).length
  let openRx := (rangeFrom 0 q).filter fun b => t ≠ 0 && 9 * t ≤ 10 * ((rangeFrom 0 t).filter fun a => low (a * q + b)).length
  let shortTx := if shorts then (rangeFrom 0 t).filter fun a => 3 * rt.getD a 0 < 2 * tx.getD a 0 else []
  let shortRx := if shorts then (rangeFrom 0 q).filter fun b => 3 * rr.getD b 0 < 2 * rx.getD b 0 else []
  (openTx, shortTx, openRx, shortRx)

/-- A set of electrodes as a bit mask of k bytes. -/
def electrodeMask (k : Nat) (xs : List Nat) : Bytes := leBytes k ((xs.map fun i => 2 ^ i).sum)

/-- The self-test on one set of counts (R318, R319): its result, the nodes of failed electrodes out of use until the next passed
test, the day's record, and the fault. -/
def selfTest (s : State) (n : Nat) (nodes tx rx : List Nat) (shorts : Bool) : State :=
  let (ot, st, or_, sr) := testElectrodes s n nodes tx rx shorts
  let flags := b2n (!shorts) + 2 * b2n (referenceState s n ≠ 1)
  let result := leBytes 8 (rrpNum s.now) ++ electrodeMask 9 ot ++ electrodeMask 6 or_ ++ electrodeMask 9 st ++ electrodeMask 6 sr ++
    leBytes 1 flags ++ [0]
  let opened := ot.length + or_.length
  let shorted := st.length + sr.length
  let failed := opened + shorted ≠ 0
  let s := setEntry (setNum s (touchIndex n 0x12) 0 (if failed then 2 else 1)) (touchIndex n 0x11) 0 (.raw result)
  let s := updTouch s n fun c =>
    if failed then { c with badTx := c.badTx ++ ot ++ st, badRx := c.badRx ++ or_ ++ sr } else { c with badTx := [], badRx := [] }
  let s := updInsp s fun d => { d with touchTests := vecMod d.touchTests n fun w =>
    (if failed then 2 else 1) * 2 ^ 24 + Nat.min 255 opened * 65536 + Nat.min 255 shorted * 256 + sat255 (w % 256) }
  if failed then report s 0x40 n effService else s

/-! ### Acquisition (R297, R298) -/

/-- Whether a node is suspect at acquisition: its mutual signal against the reference, or both self signals (R298). -/
def suspectAt (s : State) (n : Nat) (nodes tx rx : List Nat) (i : Nat) : Bool :=
  let q := rxCount s n
  let t := txCount s n
  let r := referenceOf s n
  let self := threshold s n 5
  let node := (r.getD i 0 : Int) - nodes.getD i 0
  let a := (tx.getD (i / q) 0 : Int) - r.getD (t * q + i / q) 0
  let b := (rx.getD (i % q) 0 : Int) - r.getD (t * q + t + i % q) 0
  decide (threshold s n 6 < node) || (decide (self < a) && decide (self < b))

/-- The start scan ends after its 20 ms (R297, R298, R318): self-test, baselines, and the channel scans. The self baseline of an electrode whose
signal exceeds Self Threshold is its reference, as for a suspect node (DESIGN CHOICE, log entry 31). -/
def startScanComplete (s : State) (n : Nat) (nodes tx rx : List Nat) : State :=
  if (touchAt s n).st ≠ .startScan || !waited s (touchAt s n).scanFrom 20 then s
  else
    let s := selfTest s n nodes tx rx true
    let ref := referenceOf s n
    let valid := referenceState s n = 1
    let t := txCount s n
    let q := rxCount s n
    let sus := if valid then (rangeFrom 0 (t * q)).filter (suspectAt s n nodes tx rx) else []
    let base := (rangeFrom 0 (t * q)).map fun i => 16 * (if sus.contains i then ref.getD i 0 else nodes.getD i 0)
    let keep := fun (raw off : Nat) => if valid && decide (threshold s n 5 < (raw : Int) - ref.getD off 0) then ref.getD off 0 else raw
    let s := updTouch s n fun c => { c with
      st := .scanning, first := true, idleSince := s.now, raw := (rangeFrom 0 (t * q)).map fun i => nodes.getD i 0,
      txSelf := (rangeFrom 0 t).map fun a => tx.getD a 0, rxSelf := (rangeFrom 0 q).map fun b => rx.getD b 0, base := base,
      txBase := (rangeFrom 0 t).map fun a => 16 * keep (tx.getD a 0) (t * q + a),
      rxBase := (rangeFrom 0 q).map fun b => 16 * keep (rx.getD b 0) (t * q + t + b), frozenSum := [],
      suspects := sus.map fun i => ⟨i, (ref.getD i 0 : Int) - nodes.getD i 0, nodes.getD i 0, s.now⟩,
      contacts := [], known := [], rejected := [], gloves := [], blocked := [] }
    if entryNum s (touchIndex n 0x12) 0 = 1 then clearFault s 0x40 n else s

def execStartScanComplete (t : Rrp) (ch : Fin 8) (nodes txSelf rxSelf : List Nat) (s : State) : Out :=
  .next (finish s (startScanComplete (atTime s t) ch.val nodes txSelf rxSelf))

/-! ### Bursts and slots (R292 to R295) -/

/-- A frame on DN of a VT40 link; channels 0 and 1 have none. -/
def vt40Send (s : State) (n ty : Nat) (data : Bytes) : State := if n < 2 then s else emit s (.vt40 n ty data)

/-- Whether the present frame is a measuring interval of the channel's step (Table 11-2). -/
def measuring (s : State) (n : Nat) : Bool := s.now.frame % slotFrames (touchAt s n).step = 0

/-- The slot under way is over where its measuring interval ends, once (R293): it keeps its step and plans, whatever the frame boundary
or a switch of lasts changes there (R296), and the next slot begins. -/
def closeSlot (s : State) (n : Nat) : State :=
  updTouch s n fun c =>
    if c.st = .scanning && measureEnds s c.step && c.slotEnd ≠ some s.now then { c with
      overSlot := some ⟨s.now, c.slotNo, c.step, burstPlans s n, c.fired⟩, fired := [], slotEnd := some s.now,
      slotNo := (c.slotNo + 1) % 256 }
    else c

/-- One burst of a plan fired. -/
def fireBurst (s : State) (n i : Nat) (p : BurstPlan) : State :=
  let s := closeSlot s n
  let c := touchAt s n
  let count := match c.fired.find? fun e => e.1 = i with
    | some e => e.2
    | none => 0
  let s := updTouch s n fun c => { c with fired := (i, count + 1) :: c.fired.filter fun e => e.1 ≠ i }
  vt40Send s n 0x01 (leBytes 1 c.slotNo ++ leBytes 1 p.mode ++ leBytes 1 p.txFirst ++ leBytes 1 p.txCount ++ leBytes 1 p.drive ++
    [0] ++ leBytes 2 p.freqKHz ++ leBytes 4 p.duration ++ leBytes 2 i)

/-- TOUCH_BURST: fired where the plan serves the present step inside a measuring interval, else neither issued nor counted
(R294). -/
def touchBurst (s : State) (n plan : Nat) : State :=
  match (burstPlans s n).find? fun e => e.1 = plan with
  | none => s
  | some e =>
    let c := touchAt s n
    if !(bit e.2.rates (c.step - 1) && measuring s n) then s
    else rowEvent s 4 n plan fun s => if c.st = .scanning then fireBurst s n plan e.2 else s

def execTouchBurst (t : Rrp) (ch : Fin 8) (plan : Nat) (s : State) : Out :=
  .next (finish s (touchBurst (atTime s t) ch.val plan))

/-- Whether a plan's bursts of a slot make a complete code period of 128 drive cycles (R292). -/
def codePeriod (s : State) (p : BurstPlan) (bursts : Nat) : Bool :=
  let (num, den) := frameRate s.tb.rate
  128 * 65536 * num * lrefOf s ≤ bursts * p.duration * p.freqKHz * 1000 * den

/-- The plans of a slot that completed a code period, in stored order. -/
def completePlans (s : State) (o : TouchSlot) : List (Nat × BurstPlan) :=
  o.plans.filter fun e => codePeriod s e.2 ((o.fired.find? fun f => f.1 = e.1).map fun f => f.2).toList.sum

/-- Counts written from a position of a list. -/
def putCounts (xs : List Nat) (at_ : Nat) (new : List Nat) : List Nat :=
  (enumFrom 0 xs).map fun e => if at_ ≤ e.1 then (new[e.1 - at_]?.map fun v => v % 65536).getD e.2 else e.2

/-- Where the counts of a plan of a front-end stand among nodes, transmit and receive self counts (R292): a mutual plan's nodes in
transmit-major order; a self plan's transmit electrodes, and then every receive electrode. Electrodes above the channel's are not
measured (R291). -/
def planCounts (s : State) (n : Nat) (i : Nat) (p : BurstPlan) (counts : List Nat) : List (Nat × Nat × List Nat) :=
  let t := txCount s n
  let q := rxCount s n
  if p.mode = 0 then [(i, p.txFirst * q, counts.take (Nat.min p.txCount (t - p.txFirst) * q))]
  else [(i, t * q + p.txFirst, counts.take (Nat.min p.txCount (t - p.txFirst))), (i, t * q + t, counts.drop p.txCount)]

/-- The counts of a slot taken, plan after plan in stored order, so that a node of two plans has that of the later (R295). -/
def takeCounts (s : State) (n : Nat) (o : TouchSlot) : State :=
  updTouch s n fun c =>
    let new := (completePlans s o).flatMap fun e => c.got.filter fun g => g.1 = e.1
    let all := new.foldl (fun xs g => putCounts xs g.2.1 g.2.2) (c.raw ++ c.txSelf ++ c.rxSelf)
    { c with
      raw := all.take c.raw.length, txSelf := (all.drop c.raw.length).take c.txSelf.length,
      rxSelf := all.drop (c.raw.length + c.txSelf.length), slotSelf := new.any fun g => c.raw.length < g.2.1 + g.2.2.length }

/-- A slot's measuring interval ends (R292, R293, R295): the front-end's counts of its plans, or SLOT_END to the VT40, which is asked
for its own. Scan Gaps counts a slot in which a mutual plan of its step completed no code period. Elsewhere nothing ends. -/
def slotEnd (s : State) (n : Nat) (counts : List (Nat × List Nat)) : State :=
  let s := closeSlot s n
  match (touchAt s n).overSlot with
  | none => s
  | some o =>
    if o.at_ ≠ s.now then s
    else
      let ok := completePlans s o
      let gap := o.plans.any fun e => e.2.mode = 0 && bit e.2.rates (o.step - 1) && !ok.any fun f => f.1 = e.1
      let s := if gap then bump s (touchIndex n 0x17) 0 else s
      let got := if 2 ≤ n then [] else ok.flatMap fun e => match counts.find? fun q => q.1 = e.1 with
        | some q => planCounts s n e.1 e.2 q.2
        | none => []
      vt40Send (updTouch s n fun c => { c with overSlot := none, ended := some o, got := got }) n 0x02 (leBytes 1 o.no)

def execTouchSlotEnd (t : Rrp) (ch : Fin 8) (counts : List (Nat × List Nat)) (s : State) : Out :=
  .next (finish s (slotEnd (atTime s t) ch.val counts))

/-! ### The VT40 link (R320 to R323) -/

/-- Whether an UP frame stands whole: TYPE, LENGTH, payload, CRC-16-CCITT low byte first. -/
def vt40Crc (w : Bytes) : Bool :=
  let k := u8 w 1
  w.length = k + 4 && u16 w (2 + k) = crcOf crc16Ccitt (w.take (2 + k))

/-- The payload of an UP frame of a type; none for a bad one. -/
def vt40Payload (ty : Nat) (w : Bytes) : Option Bytes := if vt40Crc w && u8 w 0 = ty then some (sub w 2 (u8 w 1)) else none

/-- The link of a VT40 lost (R323): the channel is lost; RESET, then IDENTIFY. -/
def vt40Lost (s : State) (n : Nat) : State :=
  if n < 2 || !fieldOn s then s
  else
    let s := loseTouch (updTouch s n fun c => { c with linkUp := false, crcFails := [] }) n .linkDown true
    vt40Send (vt40Send s n 0x05 []) n 0x04 []

def execVt40LinkLost (t : Rrp) (ch : Fin 8) (s : State) : Out := .next (finish s (vt40Lost (atTime s t) ch.val))

/-- A frame discarded and counted in Link Errors (R320); the link is lost where 16 have failed their CRC within 1 s (R323). -/
def vt40Bad (s : State) (n : Nat) (w : Bytes) : State :=
  let s := bump s (touchIndex n 0x1A) 0
  if vt40Crc w then s
  else
    let s := updTouch s n fun c => { c with
      crcFails := s.now :: c.crcFails.filter fun x => elapsed s.tb.rate x s.now < msTicks s.tb.rate 1000 }
    if (touchAt s n).linkUp && 16 ≤ (touchAt s n).crcFails.length then vt40Lost s n else s

/-- A COUNTS frame (Table 11-6) of a complete plan of the slot that ended last: counts from position FIRST, self counts after the
nodes. -/
def vt40Counts (s : State) (n : Nat) (w : Bytes) : State :=
  if n < 2 || !fieldOn s then s
  else match vt40Payload 0x81 w with
    | none => vt40Bad s n w
    | some p =>
      let count := u8 p 6
      if count = 0 || count > 120 || p.length ≠ 8 + 2 * count then vt40Bad s n w
      else match (touchAt s n).ended with
        | none => s
        | some o =>
          if u8 p 0 ≠ o.no || !((completePlans s o).any fun e => e.1 = u16 p 2) then s
          else
            let new := (rangeFrom 0 count).map fun i => u16 p (8 + 2 * i)
            updTouch s n fun c => { c with got := c.got ++ [(u16 p 2, u16 p 4, new)] }

def execVt40Counts (t : Rrp) (ch : Fin 8) (wire : Bytes) (s : State) : Out :=
  .next (finish s (vt40Counts (atTime s t) ch.val wire))

/-- A STATUS frame: a fault loses the link (R323). -/
def vt40Status (s : State) (n : Nat) (w : Bytes) : State :=
  if n < 2 || !fieldOn s then s
  else match vt40Payload 0x82 w with
    | none => vt40Bad s n w
    | some p => if p.length = 4 && u32 p 0 = 0 then s else vt40Lost s n

def execVt40Status (t : Rrp) (ch : Fin 8) (wire : Bytes) (s : State) : Out :=
  .next (finish s (vt40Status (atTime s t) ch.val wire))

/-- An IDENTITY frame (R322): the link delay, Front-end Identity, CONFIG, and the channel starts. -/
def vt40Identity (s : State) (n : Nat) (w : Bytes) (roundTripNs : Nat) : State :=
  if n < 2 || !fieldOn s then s
  else match vt40Payload 0x83 w with
    | none => vt40Bad s n w
    | some p =>
      let s := setNum (updTouch s n fun c => { c with linkUp := true, crcFails := [], linkDelayNs := (roundTripNs - 1000) / 2 })
        (touchIndex n 0x19) 0 (u32 p 0)
      startTouch (vt40Send s n 0x03 (leBytes 1 (txCount s n) ++ leBytes 1 (rxCount s n))) n

def execVt40Identity (t : Rrp) (ch : Fin 8) (wire : Bytes) (roundTripNs : Nat) (s : State) : Out :=
  .next (finish s (vt40Identity (atTime s t) ch.val wire roundTripNs))

/-- 100 ms without IDENTITY: IDENTIFY is sent again (R323). -/
def identifyRetry (s : State) (n : Nat) : State :=
  if n < 2 || !fieldOn s || (touchAt s n).linkUp then s else vt40Send (vt40Send s n 0x05 []) n 0x04 []

def execVt40IdentifyRetry (t : Rrp) (ch : Fin 8) (s : State) : Out :=
  .next (finish s (identifyRetry (atTime s t) ch.val))

/-! ### Steps (R296) -/

/-- No contact has been open for the Step Down Time of the present step: the channel goes to the next higher step with a plan, at most
Idle Floor, at the next reference frame boundary. -/
def stepDown (s : State) (n : Nat) : State :=
  let c := touchAt s n
  if c.st ≠ .scanning || !c.contacts.isEmpty || !waited s c.idleSince (entryNum s (touchIndex n 3) c.step) then s
  else match (rangeFrom (c.step + 1) (6 - c.step)).find? (stepServed s n) with
    | some k => if k ≤ entryNum s (touchIndex n 2) 0 then updTouch s n fun c => { c with nextStep := some k } else s
    | none => s

def execTouchStepDown (t : Rrp) (ch : Fin 8) (s : State) : Out := .next (finish s (stepDown (atTime s t) ch.val))

/-- Steps that change at a reference frame boundary. -/
def stepBoundary (s : State) : State :=
  each (rangeFrom 0 8) s fun s n =>
    if (touchAt s n).nextStep.isNone then s
    else updTouch (closeSlot s n) n fun c => { c with step := c.nextStep.getD c.step, nextStep := none }

/-- Before another last comes in, the slots that end there keep the plans of the old one (R296). -/
def closeSlots (s : State) : State := each (rangeFrom 0 8) s closeSlot

/-! ### Means of touch frames (R319, 0x4n0D) -/

/-- The mean of the values at each position of several lists, rounded down (DESIGN CHOICE, log entry 30). -/
def meanLists (xs : List (List Nat)) : List Nat :=
  match xs with
  | [] => []
  | y :: _ => (rangeFrom 0 y.length).map fun i => ((xs.map fun z => z.getD i 0).sum) / xs.length

/-- A self-test requested: it runs on the mean of the next 8 touch frames; the write stays pending. -/
def selfTestRequest (s : State) (o : Origin) (n value : Nat) : Nat × State :=
  if value ≠ 1 then (stOk, s)
  else if (touchAt s n).st ≠ .scanning then (stMode, s)
  else
    let s := setNum (updTouch s n fun c => { c with testing := true, testFrames := [] }) (touchIndex n 0x12) 0 3
    (stPending, (openTicket s o noMsg (dkey (touchIndex n 0x10) 0) false).2)

def execTouchSelfTestRequest (t : Rrp) (o : Origin) (ch : Fin 8) (value : Nat) (s : State) : Out :=
  .next (finish s (rowWriteNum (atTime s t) o (touchIndex ch.val 0x10) 0 value fun s => selfTestRequest s o ch.val value))

/-- The 8 frames are there: the result is set and the ticket completes. Shorts are not tested without self data. -/
def selfTestComplete (s : State) (n : Nat) : State :=
  let c := touchAt s n
  let fs := c.testFrames.take 8
  if !c.testing || fs.length < 8 || c.st ≠ .scanning then s
  else
    let s := updTouch s n fun c => { c with testing := false, testFrames := [] }
    let tx := meanLists ((fs.map fun f => f.2.1).filter fun x => !x.isEmpty)
    let rx := meanLists ((fs.map fun f => f.2.2).filter fun x => !x.isEmpty)
    let s := selfTest s n (meanLists (fs.map fun f => f.1)) tx rx !(tx.isEmpty && rx.isEmpty)
    let s := if entryNum s (touchIndex n 0x12) 0 = 1 then clearFault s 0x40 n else s
    finalResult s (dkey (touchIndex n 0x10) 0) stOk []

def execTouchSelfTestComplete (t : Rrp) (ch : Fin 8) (s : State) : Out :=
  .next (finish s (selfTestComplete (atTime s t) ch.val))

/-- The mean of the next 64 touch frames becomes the reference (0x4n0D): refused while any blob is present. -/
def captureReference (s : State) (n value : Nat) (blobs : Bool) : Nat × State :=
  if value ≠ 1 then (stOk, s)
  else if blobs then (stState, s)
  else (stOk, updTouch s n fun c => { c with capturing := true, captureFrames := [] })

/-- The 64 frames are there: the reference is stored. -/
def captureReferenceComplete (s : State) (n : Nat) : State :=
  let c := touchAt s n
  let fs := c.captureFrames.take 64
  if !c.capturing || fs.length < 64 then s
  else
    let all := meanLists (fs.map fun f => f.1) ++ meanLists (fs.map fun f => f.2.1) ++ meanLists (fs.map fun f => f.2.2)
    let v : DVal := .raw (all.flatMap fun x => leBytes 2 x)
    let s := setEntry (updTouch s n fun c => { c with capturing := false, captureFrames := [] }) (touchIndex n 0x0C) 0 v
    { s with store := SMap.set unsetVal s.store (dkey (touchIndex n 0x0C) 0) v }

def execCaptureReferenceComplete (t : Rrp) (ch : Fin 8) (s : State) : Out :=
  .next (finish s (captureReferenceComplete (atTime s t) ch.val))

end Sys2Proof.Machine
end

