-- ==== Sys2Proof/Machine/TouchFrame.lean ====
section
/-! DEFINITION. Detection of a touch frame: baselines, blobs, contacts, hit-tests, records and contact triggers (R299 to R308,
R311 to R315, R268, R269). Signals and baselines are in 1/16 count. -/

namespace Sys2Proof.Machine

/-! ### Signals -/

/-- The signal of a node: baseline less raw count; 0 on a failed electrode (R292, R318). -/
def nodeSignal (s : State) (n i : Nat) : Int :=
  let c := touchAt s n
  let q := rxCount s n
  if c.badTx.contains (i / q) || c.badRx.contains (i % q) then 0 else (c.base.getD i 0 : Int) - 16 * c.raw.getD i 0

/-- The self signals of a transmit and a receive electrode. -/
def txSignal (s : State) (n a : Nat) : Int := 16 * ((touchAt s n).txSelf.getD a 0 : Int) - (touchAt s n).txBase.getD a 0
def rxSignal (s : State) (n b : Nat) : Int := 16 * ((touchAt s n).rxSelf.getD b 0 : Int) - (touchAt s n).rxBase.getD b 0

/-- Whether two nodes are the same or among each other's eight neighbours; q is the receive count. -/
def near8 (q i j : Nat) : Bool := i / q ≤ j / q + 1 && j / q ≤ i / q + 1 && i % q ≤ j % q + 1 && j % q ≤ i % q + 1

/-! ### Blobs (R304) -/

/-- The set grown over the nodes of a list that touch it; n bounds the steps. Also the nodes left over. -/
def growBlob (q : Nat) : Nat → List Nat → List Nat → List Nat × List Nat
  | 0, b, rest => (b, rest)
  | n + 1, b, rest =>
    let (touch, far) := rest.partition fun i => b.any (near8 q i)
    if touch.isEmpty then (b, rest) else growBlob q n (b ++ touch) far

/-- The 8-connected sets of a list of nodes; n bounds their number. -/
def blobSets (q : Nat) : Nat → List Nat → List (List Nat)
  | 0, _ => []
  | _ + 1, [] => []
  | n + 1, i :: rest =>
    let (b, far) := growBlob q rest.length [i] rest
    sortBy id b :: blobSets q n far

/-- The node of the highest signal of a set, the first of equals. -/
def peakOf (s : State) (n : Nat) (b : List Nat) : Nat :=
  b.foldl (fun p i => if nodeSignal s n p < nodeSignal s n i then i else p) (b.headD 0)

/-- The connected sets of nodes at or above Release Threshold. -/
def releaseSets (s : State) (n : Nat) : List (List Nat) :=
  let all := (rangeFrom 0 (touchAt s n).raw.length).filter fun i => decide (16 * threshold s n 2 ≤ nodeSignal s n i)
  blobSets (rxCount s n) all.length all

/-- The area of a set in mm² (R306), rounded down; and whether it exceeds Reject Area. -/
def blobArea (s : State) (n : Nat) (b : List Nat) : Nat :=
  b.length * entryNum s (touchIndex n 7) 1 * entryNum s (touchIndex n 7) 2 / 10000
def tooLarge (s : State) (n : Nat) (b : List Nat) : Bool :=
  entryNum s (touchIndex n 6) 0 * 10000 < b.length * entryNum s (touchIndex n 7) 1 * entryNum s (touchIndex n 7) 2

/-- Whether a set shares or touches a node of another. -/
def setsTouch (q : Nat) (a b : List Nat) : Bool := a.any fun i => b.any (near8 q i)

/-! ### Positions (R308) -/

/-- A quotient with the rounding that the spec leaves open. -/
def divOpen (a b : Int) : Int := if b = 0 then 0 else (a + (Config.baseRound a % b.toNat : Nat)).fdiv b

/-- The centroid (u, v) of the 3×3 nodes around a peak, in 1/256 node; signals below zero weigh nothing. -/
def centroid (s : State) (n p : Nat) : Int × Int :=
  let q := rxCount s n
  let w := ((rangeFrom 0 (touchAt s n).raw.length).filter (near8 q p)).map fun i => (i, max 0 (nodeSignal s n i))
  let total := (w.map fun e => e.2).sum
  let mean := fun (f : Nat → Nat) => divOpen ((w.map fun e => 256 * (f e.1 : Int) * e.2).sum) total
  (mean fun i => i / q, mean fun i => i % q)

/-- The bonded output's active area in 1/8 pixel. -/
def bondedArea (s : State) (n : Nat) : Nat × Nat :=
  match (burstPlans s n).head?.bind fun e => activePlan s e.2.out with
  | some p => (8 * p.hActive, 8 * p.vActive)
  | none => (0, 0)

/-- A calibration value. -/
def calib (s : State) (n i : Nat) : Int := sint 32 (entryNum s (touchIndex n 8) i)

/-- The reported position of (u, v), clamped to the active area. -/
def positionOf (s : State) (n : Nat) (uv : Int × Int) : Nat × Nat :=
  let (w, h) := bondedArea s n
  let at_ := fun (i : Nat) (top : Nat) =>
    (clampInt 0 (top - 1 : Nat) ((calib s n i * uv.1 + calib s n (i + 1) * uv.2 + calib s n (i + 2)).fdiv 65536)).toNat
  (at_ 1 w, at_ 4 h)

/-- A contact as a blob shows it: number, flags kept, when it opened. -/
def contactOf (s : State) (n id flags : Nat) (opened : Rrp) (b : List Nat) : Contact :=
  let p := peakOf s n b
  let uv := centroid s n p
  let xy := positionOf s n uv
  let sus := (touchAt s n).suspects.any fun q => b.contains q.node
  { id := id, x := xy.1 % 65536, y := xy.2 % 65536, u := uv.1, v := uv.2, area := Nat.min 65535 (blobArea s n b),
    strength := Nat.min 65535 ((nodeSignal s n p).toNat / 16), flags := Nat.lor (flags / 2 * 2) (b2n sus), nodes := b, opened := opened }

/-! ### Suspects (R299, R300) -/

/-- Suspect nodes whose signal has fallen to half are released with the present count as baseline; the others' steadiness is
followed. -/
def trackSuspects (s : State) (n : Nat) : State :=
  let c := touchAt s n
  let sig := fun (q : Suspect) => (c.base.getD q.node 0 : Int) - 16 * c.raw.getD q.node 0
  let freed := (c.suspects.filter fun q => decide (2 * sig q ≤ 16 * q.d0)).map fun q => q.node
  let noise := entryNum s (touchIndex n 4) 4
  let follow := fun (q : Suspect) =>
    let r := c.raw.getD q.node 0
    if r ≤ q.near + noise && q.near ≤ r + noise then q else { q with near := r, since := s.now }
  updTouch s n fun c => { c with
    base := freed.foldl (fun bs i => bs.set i (16 * c.raw.getD i 0)) c.base
    suspects := (c.suspects.filter fun q => !freed.contains q.node).map follow }

/-! ### Baselines (R301 to R303) -/

/-- The tracked baseline of an untouched node (R301); signals of self electrodes are the other way round, so flip is true. -/
def trackBase (noise : Int) (b r : Nat) (flip : Bool) : Nat :=
  let d : Int := 16 * (r : Int) - b
  let sig := if flip then d else -d
  if sig < -(16 * noise) then 16 * r
  else if sig ≤ 16 * noise then ((b : Int) + divOpen d 64).toNat
  else b

/-- The frozen nodes: those of open contacts and rejected blobs, with their neighbours (R302). -/
def frozenNodes (s : State) (n : Nat) : List Nat :=
  let c := touchAt s n
  let core := (c.contacts.flatMap fun q => q.nodes) ++ c.rejected.flatten
  let q := rxCount s n
  (rangeFrom 0 c.raw.length).filter fun i => core.any (near8 q i)

/-- The mean change that a frozen node takes (R303): of the untouched nodes of its receive column, else of its transmit row, else
of the panel. -/
def driftOf (q : Nat) (changes : List (Nat × Int)) (i : Nat) : Int :=
  let mean := fun (xs : List (Nat × Int)) => divOpen ((xs.map fun e => e.2).sum) xs.length
  let col := changes.filter fun e => e.1 % q = i % q
  let row := changes.filter fun e => e.1 / q = i / q
  if !col.isEmpty then mean col else if !row.isEmpty then mean row else mean changes

/-- The baselines of a frame move (R301, R303): tracked nodes by themselves, frozen nodes with the mean of the untouched ones,
with the sums of their corrections. Self electrodes of no frozen node are tracked as nodes are (DESIGN CHOICE, log entry 31). -/
def moveBaselines (s : State) (n : Nat) : State :=
  let c := touchAt s n
  let q := rxCount s n
  let noise := threshold s n 4
  let frozen := frozenNodes s n
  let sus := c.suspects.map fun p => p.node
  let next := (enumFrom 0 c.base).map fun e =>
    (e.1, e.2, if frozen.contains e.1 || sus.contains e.1 then e.2 else trackBase noise e.2 (c.raw.getD e.1 0) false)
  let changes := (next.filter fun e => !frozen.contains e.1 && !sus.contains e.1).map fun e => (e.1, (e.2.2 : Int) - e.2.1)
  let drift := frozen.map fun i => (i, driftOf q changes i)
  let moved := next.map fun e => match drift.find? fun d => d.1 = e.1 with
    | some d => ((e.2.1 : Int) + d.2).toNat
    | none => e.2.2
  let sumOf := fun (i : Nat) => ((c.frozenSum.find? fun e => e.1 = i).map fun e => e.2).toList.sum
  let busyTx := frozen.map fun i => i / q
  let busyRx := frozen.map fun i => i % q
  updTouch s n fun c => { c with
    base := moved, frozenSum := drift.map fun d => (d.1, sumOf d.1 + d.2.natAbs)
    txBase := if c.slotSelf then (enumFrom 0 c.txBase).map (fun e =>
      if busyTx.contains e.1 then e.2 else trackBase noise e.2 (c.txSelf.getD e.1 0) true) else c.txBase
    rxBase := if c.slotSelf then (enumFrom 0 c.rxBase).map (fun e =>
      if busyRx.contains e.1 then e.2 else trackBase noise e.2 (c.rxSelf.getD e.1 0) true) else c.rxBase }

/-- Whether drift ends a contact (R303): a node's sum exceeds Drift Limit, or no node of the panel is untouched. -/
def driftEnds (s : State) (n : Nat) (q : Contact) : Bool :=
  let c := touchAt s n
  let limit := 16 * entryNum s (touchIndex n 0x0A) 0
  let frozen := c.frozenSum.map fun e => e.1
  (c.frozenSum.any fun e => q.nodes.contains e.1 && limit < e.2) ||
    (rangeFrom 0 c.raw.length).all fun i => frozen.contains i || c.suspects.any fun p => p.node = i

/-! ### Contacts (R304 to R307) -/

/-- The self test of a blob (R305): one of its transmit and one of its receive electrodes at or above Self Threshold. -/
def selfPasses (s : State) (n : Nat) (b : List Nat) : Bool :=
  let q := rxCount s n
  let th := 16 * threshold s n 5
  b.any (fun i => decide (th ≤ txSignal s n (i / q))) && b.any fun i => decide (th ≤ rxSignal s n (i % q))

/-- The squared distance of a blob from a contact's last position, in squared 1/25 600 mm. -/
def distance2 (s : State) (n : Nat) (b : List Nat) (q : Contact) : Nat :=
  let uv := centroid s n (peakOf s n b)
  let dx := (uv.1 - q.u) * entryNum s (touchIndex n 7) 1
  let dy := (uv.2 - q.v) * entryNum s (touchIndex n 7) 2
  (dx * dx + dy * dy).natAbs

/-- The open contact nearest to a blob, within 30 mm. -/
def nearestContact (s : State) (n : Nat) (b : List Nat) : Option Contact :=
  (touchAt s n).contacts.foldl (fun best q =>
    let d := distance2 s n b q
    if d > 768000 * 768000 then best
    else match best with
      | some p => if d < distance2 s n b p then some q else some p
      | none => some q) none

/-- The blob that continues a contact: the nearest of those that claim it (R307). -/
def continuing (s : State) (n : Nat) (sets : List (List Nat)) (q : Contact) : Option (List Nat) :=
  (sets.filter fun b => (nearestContact s n b).map (fun p => p.id) = some q.id).foldl (fun best b =>
    match best with
    | some p => if distance2 s n b q < distance2 s n p q then some b else some p
    | none => some b) none

/-- What detection finds: the contacts that go on, those that end with the flags of their UP, the new ones, the rejected blobs and
how many are counted, the peaks that passed the self test as gloved. -/
structure Detection where
  open_ : List Contact
  ended : List (Contact × Nat)
  fresh : List Contact
  rejected : List (List Nat)
  counted : Nat
  gloves : List Nat
  deriving DecidableEq, Repr

/-- Whether a set is a blob of its own (R304), and no water (R305): a node at or above Touch Threshold, and the self test passed
where the frame holds self data. -/
def blobStands (s : State) (n : Nat) (b : List Nat) : Bool :=
  decide (16 * threshold s n 1 ≤ nodeSignal s n (peakOf s n b)) && (!(touchAt s n).slotSelf || selfPasses s n b)

/-- The gloved blobs of a frame with self data (R305): sets at or above the lower of Release and Glove Threshold whose peak lies
between Glove and Touch Threshold, that pass the self test and are not too large (log entry 157). -/
def gloveSets (s : State) (n : Nat) : List (List Nat) :=
  if !((touchAt s n).slotSelf && entryNum s (touchIndex n 5) 0 = 1) then []
  else
    let floor := if threshold s n 3 < threshold s n 2 then threshold s n 3 else threshold s n 2
    let all := (rangeFrom 0 (touchAt s n).raw.length).filter fun i => decide (16 * floor ≤ nodeSignal s n i)
    (blobSets (rxCount s n) all.length all).filter fun b =>
      let peak := nodeSignal s n (peakOf s n b)
      decide (peak < 16 * threshold s n 1) && decide (16 * threshold s n 3 ≤ peak) && selfPasses s n b && !tooLarge s n b

/-- New contacts numbered: the highest peaks take the lowest free numbers; the rest are dropped (R307). -/
def numberNew (s : State) (n : Nat) (free : List Nat) (bs : List (List Nat × Nat)) : List Contact × Nat :=
  let order := (sortBy (fun e => (nodeSignal s n (peakOf s n e.1)).toNat) bs).reverse
  ((order.zip free).map fun e => contactOf s n e.2 e.1.2 s.now e.1.1, order.length - free.length)

/-- Detection on the present counts and baselines (R304 to R307). A rejected blob stays one while a node of it is at or above Release
Threshold; a blob that touches one forms no contact, and an open contact ends REJECTED only where its own blob is too large. -/
def detect (s : State) (n : Nat) : Detection :=
  let c := touchAt s n
  let q := rxCount s n
  let sets := releaseSets s n
  let cont := c.contacts.map fun p => (p, continuing s n sets p)
  let used := cont.filterMap fun e => e.2
  let old := sets.filter fun b => c.rejected.any fun r => b.any r.contains
  let grown := sets.filter fun b => tooLarge s n b && !old.contains b && (used.contains b || blobStands s n b)
  let open_ := cont.filterMap fun e => match e.2 with
    | some b => if tooLarge s n b then none else some (contactOf s n e.1.id e.1.flags e.1.opened b)
    | none => none
  let ended := cont.filterMap fun e => match e.2 with
    | some b => if tooLarge s n b then some (e.1, 0x20) else none
    | none => some (e.1, 0)
  let rejected := old ++ grown
  let live := rejected ++ c.rejected.filter fun r => sets.any fun b => b.any r.contains
  let may := fun (b : List Nat) =>
    !(used ++ rejected).any (fun a => a.any b.contains) && !live.any (setsTouch q b) && !b.any c.blocked.contains
  let fingers := (sets.filter fun b => may b && blobStands s n b && !tooLarge s n b).map fun b => (b, 0)
  let gloved := (gloveSets s n).filter may
  let ready := (gloved.filter fun b => b.any c.gloves.contains).map fun b => (b, 4)
  let taken := c.contacts.map fun p => p.id
  let free := ((rangeFrom 0 16).filter fun i => !taken.contains i).take (16 - open_.length)
  let (fresh, dropped) := numberNew s n free (fingers ++ ready)
  ⟨open_, ended, fresh, rejected, grown.length + dropped, gloved.map (peakOf s n)⟩

/-! ### Hit-tests and zones (R268, R269, R314, R315) -/

/-- A hit-test of a contact's position (R269): NO_UNIT without a powered cluster, else what the query finds. -/
def hitTest (s : State) (n x y : Nat) : (Nat × Nat × Nat) × State :=
  match vecAt s.gpu.hits n none with
  | none => (notTested, s)
  | some b =>
    if !gpuOn s || !(rangeFrom 0 12).any (clusterOk s) then ((5, 0xFFFFFFFF, 0), s)
    else
      let (f, s) := sceneQuery s b x y
      (foundCodes f, s)

/-- The zone of a position (R315): 0xFF where every zone is unused, none where no rectangle holds it. -/
def zoneOf (s : State) (n x y : Nat) : Option Nat :=
  let z := fun i => entryNum s (touchIndex n 0x14) (i + 1)
  if (rangeFrom 0 16).all fun i => z i = 0 then some 0xFF
  else (rangeFrom 0 16).find? fun i =>
    bits (z i) 63 48 ≤ x / 8 && x / 8 < bits (z i) 31 16 && bits (z i) 47 32 ≤ y / 8 && y / 8 < bits (z i) 15 0

/-- The contact trigger of a new contact (R315): none in a channel's first frame (R304). -/
def sendContact (s : State) (n : Nat) (c : Contact) : State :=
  let h := entryNum s (touchIndex n 0x13) 0
  if h ≥ 8 || (touchAt s n).first then s
  else match zoneOf s n c.x c.y with
    | some z => contactTrigger s h z
    | none => s

/-! ### The frame -/

/-- Contacts that drift ends (R303): their frozen nodes take the present counts, and form no contact in the next frame. -/
def endDrift (s : State) (n : Nat) (q : Contact) : State :=
  let rx := rxCount s n
  let nodes := (rangeFrom 0 (touchAt s n).raw.length).filter fun i => q.nodes.any (near8 rx i)
  updTouch s n fun c => { c with
    base := nodes.foldl (fun bs i => bs.set i (16 * c.raw.getD i 0)) c.base
    frozenSum := c.frozenSum.filter fun e => !nodes.contains e.1
    contacts := c.contacts.filter fun p => p.id ≠ q.id
    blocked := c.blocked ++ nodes }

/-- The records of a frame (R311): UP, MOVE, DOWN, each in increasing contact order; the DOWN records hit-tested (R314). -/
def frameRecords (s : State) (n : Nat) (ups : List (Contact × Nat)) (fresh : List Contact) : List Bytes × State :=
  let c := touchAt s n
  let at_ := c.slotEnd.getD s.now
  let up := (sortBy (fun e => e.1.id) ups).map fun e => touchRecord 3 n e.1 (Nat.lor e.1.flags e.2) at_ notTested
  let changed := fun (q : Contact) => c.known.any fun p => p.id = q.id && (p.x ≠ q.x || p.y ≠ q.y || p.flags ≠ q.flags)
  let isNew := fun (q : Contact) => fresh.any fun p => p.id = q.id
  let move := ((sortBy (fun q => q.id) c.contacts).filter fun q => !isNew q && changed q).map fun q =>
    touchRecord 2 n q q.flags at_ notTested
  let (down, s) := ((sortBy (fun q => q.id) fresh).filter fun q => c.contacts.any fun p => p.id = q.id).foldl
    (fun (a : List Bytes × State) q =>
      let (hit, s) := hitTest a.2 n q.x q.y
      (a.1 ++ [touchRecord 1 n q q.flags at_ hit], s)) ([], s)
  (up ++ move ++ down, s)

/-- The counts kept for a self-test or a reference. -/
def keepFrames (s : State) (n : Nat) : State :=
  updTouch s n fun c =>
    let f := (c.raw, if c.slotSelf then c.txSelf else [], if c.slotSelf then c.rxSelf else [])
    { c with
      testFrames := if c.testing then c.testFrames ++ [f] else c.testFrames
      captureFrames := if c.capturing then c.captureFrames ++ [(c.raw, c.txSelf, c.rxSelf)] else c.captureFrames }

/-- Detection of the touch frame of the slot that ended last completes (R294, R313). -/
def touchFrame (s : State) (n : Nat) : State :=
  match (touchAt s n).ended with
  | none => s
  | some o =>
    let s := takeCounts s n o
    let s := trackSuspects (keepFrames (updTouch s n fun c => { c with ended := none, got := [] }) n) n
    let was := (touchAt s n).contacts
    let d := detect s n
    let s := bumpBy s (touchIndex n 0x16) 0 d.counted
    let s := updTouch s n fun c => { c with
      contacts := d.open_ ++ d.fresh, rejected := d.rejected, gloves := d.gloves, blocked := [] }
    let s := moveBaselines s n
    let drifted := (touchAt s n).contacts.filter (driftEnds s n)
    let s := each drifted s fun s q => endDrift s n q
    let s := each (sortBy (fun q => q.id) d.fresh) s fun s q => sendContact s n q
    let old := drifted.filterMap fun q =>
      ((touchAt s n).known.find? fun p => p.id = q.id).map fun p => { p with flags := q.flags }
    let (rs, s) := frameRecords s n (d.ended ++ old.map fun q => (q, 0x10)) d.fresh
    let s := reportRecords s n o.at_ rs true
    let s := updTouch s n fun c => { c with
      known := c.contacts, first := false, idleSince := if c.contacts.isEmpty && was.isEmpty then c.idleSince else s.now,
      nextStep := if c.contacts.isEmpty then c.nextStep else if c.step = lowestStep s n then none else some (lowestStep s n) }
    let s := if entryNum s (touchIndex n 0x12) 0 = 1 then clearFault s 0x40 n else s
    updGpu s fun g => match vecAt g.hitNext n none with
      | some h => { g with hits := vecMod g.hits n fun _ => h, hitNext := vecMod g.hitNext n fun _ => none }
      | none => g

def execTouchFrameComplete (t : Rrp) (ch : Fin 8) (s : State) : Out := .next (finish s (touchFrame (atTime s t) ch.val))

/-- A suspect node has stayed steady for Suspect Hold (R300): released; an open contact that holds it ends REACQUIRED. -/
def suspectExpire (s : State) (n node : Nat) : State :=
  let c := touchAt s n
  let hold := 1000 * entryNum s (touchIndex n 0x0B) 0
  if c.st ≠ .scanning || !c.suspects.any fun q => q.node = node && waited s q.since hold then s
  else
    let ends := c.contacts.filter fun q => q.nodes.contains node
    let s := updTouch s n fun c => { c with
      base := c.base.set node (16 * c.raw.getD node 0), suspects := c.suspects.filter fun q => q.node ≠ node,
      contacts := c.contacts.filter fun q => !q.nodes.contains node,
      idleSince := if ends.isEmpty then c.idleSince else s.now,
      known := c.known.filter fun q => !ends.any fun p => p.id = q.id }
    let at_ := (touchAt s n).slotEnd.getD s.now
    let ups := (sortBy (fun q => q.id) ends).map fun q => touchRecord 3 n q (Nat.lor q.flags 0x10) at_ notTested
    reportRecords s n at_ ups false

def execSuspectHoldExpire (t : Rrp) (ch : Fin 8) (node : Nat) (s : State) : Out :=
  .next (finish s (suspectExpire (atTime s t) ch.val node))

/-- A contact has been open longer than Stale Time (R302): from the next frame its records carry STALE. -/
def contactStale (s : State) (n id : Nat) : State :=
  let limit := entryNum s (touchIndex n 9) 0
  if limit = 0 then s
  else
    let mark := fun (q : Contact) => if q.id = id && waited s q.opened (1000 * limit) then { q with flags := Nat.lor q.flags 2 } else q
    updTouch s n fun c => { c with contacts := c.contacts.map mark }

def execContactStale (t : Rrp) (ch : Fin 8) (contact : Fin 16) (s : State) : Out :=
  .next (finish s (contactStale (atTime s t) ch.val contact.val))

/-- Capture Reference written: in Service, refused while any blob is present, an open contact's among them. -/
def captureWrite (s : State) (n value : Nat) : Nat × State :=
  let touched := (releaseSets s n).any fun b => decide (16 * threshold s n 1 ≤ nodeSignal s n (peakOf s n b))
  captureReference s n value (touched || !(touchAt s n).contacts.isEmpty)

def execCaptureReference (t : Rrp) (o : Origin) (ch : Fin 8) (value : Nat) (s : State) : Out :=
  .next (finish s (rowWriteNum (atTime s t) o (touchIndex ch.val 0x0D) 0 value fun s => captureWrite s ch.val value))

end Sys2Proof.Machine
end

