-- ==== Sys2Proof/Machine/Audio.lean ====
section
/-! DEFINITION. The audio router (chapter 13): operations, gains, filters and delays, one execution per sample, guest PCM
streams, the TDM ports, and the swap of programs with its fade. -/

namespace Sys2Proof.Machine

def updAudio (s : State) (f : Audio → Audio) : State := { s with audio := f s.audio }

/-! ### Values and arithmetic (R346, R347) -/

def sat24 (v : Int) : Int := clampInt (-(2 ^ 23)) (2 ^ 23 - 1) v
def sat32 (v : Int) : Int := clampInt (-(2 ^ 31)) (2 ^ 31 - 1) v

/-- A ⊗ c: a product with a Q3.28 coefficient, rounded half up and saturated. -/
def mulCoef (a c : Int) : Int := sat32 ((a * c + 2 ^ 27).fdiv (2 ^ 28))

/-- A sample of a format (0 16-bit, 1 24-bit, 2 32-bit) into the router (Table 13-2). -/
def toRouter (fmt n : Nat) : Int :=
  if fmt = 0 then sint 16 n * 256 else if fmt = 1 then sint 24 n else (sint 32 n).fdiv 256

/-- A router value out to a format (Table 13-2). -/
def fromRouter (fmt : Nat) (v : Int) : Int :=
  if fmt = 0 then min 32767 ((sat24 v + 128).fdiv 256) else if fmt = 1 then sat24 v else sat24 v * 256

/-- A value out counted in Audio Overloads where sat24 changes it. -/
def countOverload (s : State) (v : Int) : State := if sat24 v = v then s else bump s 0x5005 0

/-! ### Gains (R354) -/

/-- Whether n does not lie above 2^28 × 10^(q / 5120) + 1/2, decided on whole numbers. -/
def linearReaches (q : Int) (n : Nat) : Bool :=
  if 0 ≤ q then (2 * n - 1) ^ 5120 ≤ 2 ^ (29 * 5120) * 10 ^ q.toNat
  else (2 * n - 1) ^ 5120 * 10 ^ (-q).toNat ≤ 2 ^ (29 * 5120)

/-- The greatest number that `linearReaches`, found bit by bit from bit k down. -/
def linearBits : Nat → Int → Nat → Nat
  | 0, _, n => n
  | k + 1, q, n => let m := n + 2 ^ k; linearBits k q (if linearReaches q m then m else n)

/-- L(q) = ⌊2^28 × 10^(q / 5120) + 0.5⌋, evaluated exactly; L(mute) = 0. -/
def linearGain : Option Int → Int
  | none => 0
  | some q => (linearBits 32 q 0 : Int)

/-- A gain in 1/256 dB as a number of its entry: mute is -32 768. -/
def gainCode (q : Option Int) : Nat := ofSint 16 (q.getD (-32768))

/-- The gain that a number of an entry stands for. -/
def gainOf (n : Nat) : Option Int := if sint 16 n = -32768 then none else some (sint 16 n)

/-- A ramp from the gain in force toward a target; it begins at the next sample. -/
def startRamp (s : State) (g : Nat) (target : Option Int) : State :=
  updGain s g fun c =>
    { c with from_ := c.cur.getD (-32767), target := target, len := 48 * entryNum s (0x5100 + g) 2, pos := 0 }

/-- One sample of a gain control. -/
def stepGain (c : GainCtl) : GainCtl :=
  if c.pos < c.len then
    let n := c.pos + 1
    let goal : Int := c.target.getD (-32767)
    { c with cur := some (c.from_ + (2 * (goal - c.from_) * n + c.len).fdiv (2 * c.len)), pos := n }
  else { c with cur := c.target }

/-- Audio Gain g Target written: stored, and a ramp begins (R354). -/
def gainWrite (s : State) (o : Origin) (g value : Nat) : Nat × State :=
  (stOk, startRamp (storeNum s o (0x5100 + g) 1 value) g (gainOf value))

def execGainTargetWrite (t : Rrp) (o : Origin) (g : Fin 256) (value : Nat) (s : State) : Out :=
  .next (finish s (rowWriteNum (atTime s t) o (0x5100 + g.val) 1 value fun s => gainWrite s o g.val value))

/-- Every gain at its stored target, with no ramp (R355). -/
def gainsBringup (s : State) : State :=
  each (rangeFrom 0 256) s fun s g =>
    updGain s g fun _ =>
      let q := gainOf (entryNum s (0x5100 + g) 1)
      ⟨q, q.getD (-32767), q, 0, 0⟩

/-! ### Operations (Tables 13-3 to 13-5) -/

/-- A register or delay word that nothing has written holds 0 (R349, R357). -/
def zeroSample : Nat → Int := fun _ => 0

def progWord (m : ProgMem) (i : Nat) : Nat := m.prog.ops.getD i 0
def audReg (m : ProgMem) (a : Nat) : Int := SMap.get zeroSample m.regs a
def setAudReg (m : ProgMem) (a : Nat) (v : Int) : ProgMem := { m with regs := SMap.set zeroSample m.regs a v }

/-- Coefficient i (R352). -/
def progCoef (m : ProgMem) (i : Nat) : Int := sint 32 (m.prog.coefs.getD i 0)

/-- The result of operation i written to its DEST. -/
def setDest (m : ProgMem) (i : Nat) (v : Int) : ProgMem := setAudReg m (opDest (progWord m i)) v
/-- A, B and D of operation i: what SRC_A, SRC_B and DEST hold. -/
def valA (m : ProgMem) (i : Nat) : Int := audReg m (opA (progWord m i))
def valB (m : ProgMem) (i : Nat) : Int := audReg m (opB (progWord m i))
def valD (m : ProgMem) (i : Nat) : Int := audReg m (opDest (progWord m i))

def opNop (m : ProgMem) (_i : Nat) : ProgMem := m
def opCopy (m : ProgMem) (i : Nat) : ProgMem := setDest m i (valA m i)
def opMix (m : ProgMem) (i : Nat) : ProgMem := setDest m i (sat32 (valA m i + valB m i))

def opMac (m : ProgMem) (i : Nat) : ProgMem :=
  let w := progWord m i
  let p := mulCoef (valA m i) (progCoef m (opCoef w))
  setDest m i (if bit w 0 then p else sat32 (valD m i + p))

def opGainRamp (s : State) (m : ProgMem) (i : Nat) : ProgMem :=
  setDest m i (mulCoef (valA m i) (linearGain (gainAt s (opCoef (progWord m i))).cur))

/-- B0, A1 and A2 of a corner (R356): ⌊2^30 k + 0.5⌋ of the exact bilinear-transform values (log entry 32). -/
def hpfCoefs (corner : Nat) : Int × Int × Int :=
  match corner with
  | 0 => (1071755951, -2143508228, 1069773750)
  | 1 => (1069773750, -2139532835, 1065820340)
  | 2 => (1065820340, -2131582238, 1057957296)
  | _ => (1061881538, -2123632067, 1050152262)

/-- The state of HPF operation i. -/
def hpfAt (m : ProgMem) (i : Nat) : HpfState :=
  match m.hpf.find? fun e => e.1 = i with
  | some e => e.2
  | none => ⟨0, 0, 0, 0⟩

def opHpf (m : ProgMem) (i : Nat) : ProgMem :=
  let a := valA m i
  let h := hpfAt m i
  let (b0, a1, a2) := hpfCoefs (opFlags (progWord m i) % 4)
  let y := sat32 ((b0 * (a - 2 * h.x1 + h.x2) - a1 * h.y1 - a2 * h.y2 + 2 ^ 29).fdiv (2 ^ 30))
  setDest { m with hpf := (i, ⟨a, h.x1, y, h.y1⟩) :: m.hpf.filter fun e => e.1 ≠ i } i y

/-- DELAY: the line's words are used in turn, so the word of this execution holds what A was L executions ago. -/
def opDelay (m : ProgMem) (i : Nat) : ProgMem :=
  let k := opCoef (progWord m i)
  let len := m.prog.coefs.getD k 0
  let cell := m.prog.coefs.getD (k + 1) 0 + m.execs % len
  let old := SMap.get zeroSample m.delay cell
  setDest { m with delay := SMap.set zeroSample m.delay cell (valA m i) } i old

/-- The control of a SELECT (R358): a select control, or an FIO input's accepted level. -/
def selectOn (s : State) (w : Nat) : Bool :=
  if bit w 0 then (vecAt s.fio (opCoef w) ⟨false, zeroRrp⟩).level else entryNum s 0x5200 (opCoef w + 1) = 1

def opSelect (s : State) (m : ProgMem) (i : Nat) : ProgMem :=
  setDest m i (if selectOn s (progWord m i) then valB m i else valA m i)

def opClamp (m : ProgMem) (i : Nat) : ProgMem :=
  let c := progCoef m (opCoef (progWord m i))
  setDest m i (min c (max (-c) (valA m i)))

/-- Operation i executed. -/
def runOp (s : State) (m : ProgMem) (i : Nat) : ProgMem :=
  match opCode (progWord m i) with
  | 1 => opCopy m i
  | 2 => opMix m i
  | 3 => opMac m i
  | 4 => opGainRamp s m i
  | 5 => opHpf m i
  | 6 => opDelay m i
  | 7 => opSelect s m i
  | 8 => opClamp m i
  | _ => opNop m i

/-- One execution of a program on a sample's inputs (R350). -/
def runProg (s : State) (inputs : List (Nat × Int)) (m : ProgMem) : ProgMem :=
  let m := { m with regs := SMap.setAll zeroSample m.regs inputs }
  let m := (rangeFrom 0 m.prog.ops.length).foldl (runOp s) m
  { m with execs := m.execs + 1 }

def memAt (s : State) (p : Nat) : Option ProgMem := vecAt s.audio.mems p none
def setMem (s : State) (p : Nat) (m : Option ProgMem) : State :=
  updAudio s fun a => { a with mems := vecMod a.mems p fun _ => m }

/-- Operation i of program memory p executed by itself, where it is of the named kind. -/
def oneOp (s : State) (p i code : Nat) (f : ProgMem → Nat → ProgMem) : State :=
  match memAt s p with
  | none => s
  | some m => if i < m.prog.ops.length && opCode (progWord m i) = code then setMem s p (some (f m i)) else s

def execAudioNop (p : Fin 3) (i : Nat) (s : State) : Out := .next (finish s (oneOp s p.val i 0 opNop))
def execCopy (p : Fin 3) (i : Nat) (s : State) : Out := .next (finish s (oneOp s p.val i 1 opCopy))
def execMix (p : Fin 3) (i : Nat) (s : State) : Out := .next (finish s (oneOp s p.val i 2 opMix))
def execMac (p : Fin 3) (i : Nat) (s : State) : Out := .next (finish s (oneOp s p.val i 3 opMac))
def execGainRamp (p : Fin 3) (i : Nat) (s : State) : Out := .next (finish s (oneOp s p.val i 4 (opGainRamp s)))
def execHpf (p : Fin 3) (i : Nat) (s : State) : Out := .next (finish s (oneOp s p.val i 5 opHpf))
def execDelay (p : Fin 3) (i : Nat) (s : State) : Out := .next (finish s (oneOp s p.val i 6 opDelay))
def execSelect (p : Fin 3) (i : Nat) (s : State) : Out := .next (finish s (oneOp s p.val i 7 (opSelect s)))
def execClamp (p : Fin 3) (i : Nat) (s : State) : Out := .next (finish s (oneOp s p.val i 8 opClamp))

/-! ### TDM ports (R343 to R345, R351) -/

/-- The TDM_CONFIG word of a port in force; 0, a disabled port, where none has been since Bring-up (R364). -/
def tdmWord (s : State) (p : Nat) : Nat := s.audio.tdm.getD p 0

/-- The bits of a sample of DATA_BITS, MSB first at the start of its slot of 32 bits. -/
def dataBits (w : Nat) : Nat := if bits w 25 24 = 0 then 16 else if bits w 25 24 = 1 then 24 else 32

/-- The TDM input registers of a received frame, as the 32-bit words of its slots in register order, under the configuration it was
received with (R344, R345, R350). -/
def tdmInputs (s : State) (sdin : List (List Nat)) : List (Nat × Int) :=
  (rangeFrom 0 4).flatMap fun p =>
    let w := tdmWord s p
    (rangeFrom 0 16).map fun i =>
      (16 * p + i, if bit w 31 then toRouter (bits w 25 24) ((sdin.getD p []).getD i 0 % 2 ^ 32 / 2 ^ (32 - dataBits w)) else 0)

/-- A value on SDOUT: its bits, and zeros for the rest of the slot. -/
def slotWord (w : Nat) (v : Int) : Nat := ofSint (dataBits w) (fromRouter (bits w 25 24) v) * 2 ^ (32 - dataBits w)

/-- One TDM frame of port p: 16 slots, or 8 of half-sample h, in the slots of TX_MASK; a value that saturates is counted. -/
def sendFrame (s : State) (p h : Nat) : State :=
  let w := tdmWord s p
  let slots := rangeFrom 0 (if bit w 30 then 8 else 16)
  let value := fun (i : Nat) => s.audio.tx.getD (16 * p + 8 * h + i) 0
  let s := each slots s fun s i => if bit w i then countOverload s (value i) else s
  emit s (.tdm p w h (slots.map fun i => if bit w i then some (slotWord w (value i)) else none))

/-- The values of the latest execution sent in the TDM frames that begin now: one of each enabled port, two at 96 kHz (R343). -/
def sendTdm (s : State) : State :=
  each (rangeFrom 0 4) s fun s p =>
    let w := tdmWord s p
    if !bit w 31 then s else if bit w 30 then sendFrame (sendFrame s p 0) p 1 else sendFrame s p 0

/-- 1 ms of zero samples on each enabled port, which then stops (R368). -/
def sendTdmZeros (s : State) : State :=
  let s := each (rangeFrom 0 48) (updAudio s fun a => { a with tx := [] }) fun s _ => sendTdm s
  each (rangeFrom 0 4) s fun s p => if bit (tdmWord s p) 31 then emit s (.tdmOff p) else s

/-! ### Guest PCM streams (R359 to R363) -/

/-- The index of stream k's entries. -/
def streamIndex (k : Nat) : Nat := 0x5240 + k

/-- The slice of a stream under the locked assignment. -/
def streamOwner (s : State) (k : Nat) : Option Nat := ownerSlice s 0x06 k

def streamStereo (c : Nat) : Bool := bit c 29
def streamFormat (c : Nat) : Nat := bits c 28 27
/-- The bytes of one sample and of one frame, and the frames of the buffer, by AUD_CTRL. -/
def pcmBytes (c : Nat) : Nat := if streamFormat c = 0 then 2 else 4
def streamFrame (c : Nat) : Nat := pcmBytes c * if streamStereo c then 2 else 1
def streamFrames (c : Nat) : Nat := 2 ^ (c % 16)

/-- A stream started or stopped, as a sample finds it (R360). -/
def streamTick (s : State) (k : Nat) : State :=
  updStream s k fun q =>
    if !bit q.ctrl 31 then { q with running := false, starting := false, episode := false }
    else if q.starting && rrpLe q.startRrp s.now then { q with running := true, starting := false }
    else q

/-- Whether a stream moves samples (RUNNING). -/
def streamMoves (s : State) (k : Nat) : Bool :=
  let q := streamAt s k
  q.running && !q.blocked && !s.audio.held && domainOn s 14

/-- No frame available or free: the flag, counted once per episode (R360). -/
def streamMiss (s : State) (k : Nat) (capture : Bool) : State :=
  let s := if (streamAt s k).episode then s else bump s (streamIndex k) (if capture then 3 else 2)
  updStream s k fun q =>
    { q with episode := true, underrun := q.underrun || !capture, overrun := q.overrun || capture }

/-- The position advances; each multiple of AUD_PERIOD raises the audio vector (Table 13-7). -/
def streamAdvance (s : State) (k sl : Nat) : State :=
  let s := updStream s k fun q => { q with hwPos := (q.hwPos + 1) % streamFrames q.ctrl, episode := false }
  let q := streamAt s k
  if q.period ≠ 0 && q.hwPos % q.period = 0 then raiseCause s sl 3 else s

/-- The 64-byte unit that a frame at an address is the first to reach counts on the item of requester 0x11 or 0x13 (R361). -/
def countFrame (s : State) (k : Nat) : State :=
  let q := streamAt s k
  let at_ := q.hwPos * streamFrame q.ctrl
  if at_ % 64 = 0 then countBytes s 0x11 (movedBytes s (q.base + at_) 64 (bit q.ctrl 30)) else s

/-- A blocked access: the stream stops moving samples until it is started again (R362). -/
def streamBlocked (s : State) (k sl : Nat) : State :=
  sliceBlocked (updStream s k fun q => { q with blocked := true }) sl

/-- The playback frame of a sample: channels 0 and 1; a read that DRAM cannot answer is as a blocked one (R379). -/
def playFrame (s : State) (k : Nat) : (Int × Int) × State :=
  match streamOwner s k with
  | none => ((0, 0), s)
  | some sl =>
    let q := streamAt s k
    let size := streamFrames q.ctrl
    if !streamMoves s k then ((0, 0), s)
    else if (q.appPos + size - q.hwPos % size) % size = 0 then ((0, 0), streamMiss s k false)
    else
      let n := streamFrame q.ctrl
      let f := streamFormat q.ctrl
      let b := pcmBytes q.ctrl
      let value := fun (bs : Bytes) => (toRouter f (getLe b bs 0), if streamStereo q.ctrl then toRouter f (getLe b bs b) else 0)
      let (r, s) := sliceRead (countFrame s k) sl (q.base + q.hwPos * n) n false
      match r with
      | .ok bs => (value bs, streamAdvance s k sl)
      | _ => ((0, 0), streamBlocked s k sl)

/-- The bytes of a captured value; bits 31 to 24 of the 24-bit format the manual leaves open: free (log entry 33). -/
def captureBytes (s : State) (fmt i : Nat) (v : Int) : Bytes :=
  let x := fromRouter fmt v
  if fmt = 0 then leBytes 2 (ofSint 16 x)
  else if fmt = 1 then leBytes 3 (ofSint 24 x) ++ [Config.freeByte s.free i]
  else leBytes 4 (ofSint 32 x)

/-- A sample's output captured by stream k. -/
def captureFrame (s : State) (k : Nat) (v0 v1 : Int) : State :=
  match streamOwner s k with
  | none => s
  | some sl =>
    let q := streamAt s k
    let size := streamFrames q.ctrl
    if !streamMoves s k then s
    else if size - 1 - (q.hwPos + size - q.appPos % size) % size = 0 then streamMiss s k true
    else
      let f := streamFormat q.ctrl
      let bs := captureBytes s f 0 v0 ++ if streamStereo q.ctrl then captureBytes s f 1 v1 else []
      let s := { s with free := s.free + 1 }
      let s := countOverload s v0
      let s := if streamStereo q.ctrl then countOverload s v1 else s
      let (ok, s) := sliceWrite (countFrame s k) sl (q.base + q.hwPos * streamFrame q.ctrl) bs false
      if ok then streamAdvance s k sl else streamBlocked s k sl

/-- Whether stream k captures (0x5240 + k:04). -/
def captures (s : State) (k : Nat) : Bool := entryNum s (streamIndex k) 4 = 1

/-- The playback registers of a sample, for streams 0 to n - 1, with the streams advanced. -/
def playInputs : Nat → State → List (Nat × Int) × State
  | 0, s => ([], s)
  | k + 1, s =>
    let (ins, s) := playInputs k s
    let s := streamTick s k
    if captures s k then (ins, s)
    else
      let (v, s) := playFrame s k
      (ins ++ [(0x80 + 2 * k, v.1), (0x81 + 2 * k, v.2)], s)

/-- The position of the first sample of the next reference frame (R74, R75). -/
def firstSample (s : State) : Rrp :=
  let frame : Rrp := ⟨(s.now.frame + 1) % 2 ^ 32, 0, 0⟩
  if s.tb.rate = .hz5994 then
    let begins := (s.tb.cadence + 1) % 5 * frameTicks s.tb.rate
    let sample := (begins * 4004 + rlTicks 11250 - 1) / rlTicks 11250
    rrpAdd s.tb.rate frame (sample * rlTicks 11250 / 4004 - begins)
  else frame

/-- A write of AUD_CTRL with ENABLE 1 (R360): while the stream is enabled nothing changes; else the fields are taken, and the
stream starts where every check passes. -/
def streamEnable (s : State) (sl k value : Nat) : State :=
  if !windowOpen s sl || streamOwner s k ≠ some sl then s
  else if discarding s sl then discardStart s sl
  else if bit (streamAt s k).ctrl 31 then s
  else
    let c := andMask value 0x7800000F
    let lg := c % 16
    let q := streamAt s k
    let last := q.base + streamFrames c * streamFrame c - 1
    let may := fun a => sliceMay s sl (bit c 30) a 1 false
    let ok := bit c 30 = captures s k && streamFormat c ≠ 3 && 6 ≤ lg && q.base % 4096 = 0 && may q.base && may last
    if !ok then updStream s k fun q => { q with ctrl := c }
    else
      let start := firstSample s
      updStream s k fun q => { q with
        ctrl := c + 2 ^ 31, hwPos := 0, startRrp := start, starting := true, running := false, blocked := false,
        episode := false }

def execAudStreamEnable (t : Rrp) (sl : Fin 32) (k : Fin 64) (value : Nat) (s : State) : Out :=
  .next (finish s (streamEnable (atTime s t) sl.val k.val (value % 2 ^ 31 + 2 ^ 31)))

/-- A write of AUD_CTRL with ENABLE 0: the fields are taken where the stream was off; the stream stops at the next
sample. -/
def streamDisable (s : State) (sl k value : Nat) : State :=
  if !windowOpen s sl || streamOwner s k ≠ some sl then s
  else updStream s k fun q =>
    { q with ctrl := if bit q.ctrl 31 then q.ctrl - 2 ^ 31 else andMask value 0x7800000F }

def execAudStreamDisable (t : Rrp) (sl : Fin 32) (k : Fin 64) (value : Nat) (s : State) : Out :=
  .next (finish s (streamDisable (atTime s t) sl.val k.val (value % 2 ^ 31)))

/-- The streams of a slice at the registers' reset values (R419, R420). -/
def resetStreams (s : State) (sl : Nat) : State :=
  each (rangeFrom 0 64) s fun s k => if streamOwner s k = some sl then updStream s k fun _ => resetStream else s

/-- Whether a stream of the slice has ENABLE 1 (Table 15-9). -/
def streamsBusy (s : State) (sl : Nat) : Bool :=
  (rangeFrom 0 64).any fun k => streamOwner s k = some sl && bit (streamAt s k).ctrl 31

/-- A register of stream k read (Table 13-7). -/
def streamReg (s : State) (k off : Nat) : Nat :=
  let q := streamAt s k
  match off with
  | 0x00 => q.base
  | 0x08 => q.ctrl
  | 0x0C => q.hwPos
  | 0x10 => q.appPos
  | 0x14 => q.period
  | 0x18 => rrpNum q.startRrp
  | 0x20 => b2n q.underrun + 2 * b2n q.overrun + 4 * b2n (streamMoves s k) + 8 * b2n q.blocked
  | _ => 0

/-- A register of stream k written by slice sl. -/
def streamRegWrite (s : State) (sl k off v : Nat) : State :=
  if streamOwner s k ≠ some sl then s
  else match off with
    | 0x00 => if bit (streamAt s k).ctrl 31 then s else updStream s k fun q => { q with base := v % 2 ^ 64 }
    | 0x08 => if bit v 31 then streamEnable s sl k v else streamDisable s sl k v
    | 0x10 => updStream s k fun q => { q with appPos := v % 65536 }
    | 0x14 => updStream s k fun q => { q with period := v % 65536 }
    | 0x20 => updStream s k fun q => { q with underrun := q.underrun && !bit v 0, overrun := q.overrun && !bit v 1 }
    | _ => s

/-- Audio Stream k State (Table 13-9). -/
def streamState (s : State) (k : Nat) : Nat :=
  let q := streamAt s k
  if !bit q.ctrl 31 || !domainOn s 14 then 0
  else if q.blocked then 5
  else if s.audio.held then 4
  else if !q.running then 0
  else if q.episode then (if captures s k then 3 else 2)
  else 1

/-! ### Program swap (R364 to R368) -/

/-- A program memory filled from a section: zero registers, filters and delay lines. A last without the section is a program
with no operations and no configuration of its own (R364). -/
def freshMem (p : Option AudioProg) : ProgMem := ⟨p.getD ⟨[], [], []⟩, [], [], [], 0⟩

/-- The TDM configuration of a program taken; one without a configuration keeps what is in force (R364, R366). A port that it disables
stops. -/
def takeTdm (s : State) (m : ProgMem) : State :=
  if m.prog.tdm.isEmpty then s
  else
    let t := updAudio s fun a => { a with tdm := m.prog.tdm }
    each (rangeFrom 0 4) t fun t p =>
      if bit (tdmWord s p) 31 && !bit (tdmWord t p) 31 && domainOn t 14 then emit t (.tdmOff p) else t

/-- The lowest program memory that none of the three roles uses. -/
def freeMem (s : State) : Nat :=
  ((rangeFrom 0 3).find? fun i =>
    [s.audio.running, s.audio.incoming, s.audio.waiting].all fun r => r.map (fun x => x.val) ≠ some i).getD 0

/-- A number below 3 as a program memory. -/
def fin3 (i : Nat) : Fin 3 := ⟨i % 3, Nat.mod_lt _ (by decide)⟩

/-- The only program, alone in memory 0. -/
def onlyProg (s : State) (m : ProgMem) : State :=
  updAudio s fun a => { a with
    mems := (Vector.replicate 3 none).set 0 (some m), running := some 0, incoming := none, waiting := none, fadePos := 0,
    fadeLen := 0, swapAt := none }

/-- The audio side of a last switch at frame f, from the sections of the old last and of the new one (R364, R365, R367). With
AUDIO off nothing runs that could fade: the new program is the one that runs on return (R368). -/
def audioSwitch (s : State) (old new : Option AudioProg) (f : Nat) : State :=
  if old = new then s
  else
    let m := freshMem new
    if !domainOn s 14 then takeTdm (onlyProg s m) m
    else if s.audio.incoming.isNone then
      let i := freeMem s
      updAudio (setMem s i (some m)) fun a =>
        { a with incoming := some (fin3 i), swapAt := some ⟨f, 0, 0⟩, fadePos := 0, fadeLen := 0 }
    else
      let i := match s.audio.waiting with
        | some w => w.val
        | none => freeMem s
      updAudio (setMem s i (some m)) fun a => { a with waiting := some (fin3 i) }

/-- The fade of an incoming program begins at the first sample at or after its switch: s0 (R365, R366). -/
def beginFade (s : State) : State :=
  match s.audio.incoming, s.audio.swapAt with
  | some i, some f =>
    if s.audio.fadeLen ≠ 0 || rrpBefore s.now f then s
    else
      let s := updAudio s fun a => { a with fadePos := 0, fadeLen := 48 * entryNum s 0x5002 0 }
      let s := setNum s 0x5003 0 (rrpNum s.now)
      match memAt s i.val with
      | some m => takeTdm s m
      | none => s
  | _, _ => s

/-- The end of a fade: the outgoing memory is freed, and a waiting program comes in at the next sample (R365, R367). -/
def fadeEnd (s : State) : State :=
  if s.audio.fadeLen = 0 || s.audio.fadePos < s.audio.fadeLen then s
  else
    let s := match s.audio.running with
      | some r => setMem s r.val none
      | none => s
    updAudio s fun a => { a with
      running := a.incoming, incoming := a.waiting, waiting := none, fadePos := 0, fadeLen := 0,
      swapAt := if a.waiting.isSome then some s.now else none }

def execSwapFadeEnd (t : Rrp) (s : State) : Out := .next (finish s (fadeEnd (atTime s t)))

/-- AUDIO goes off (R368): 1 ms of zeros; the program that comes in last is the one that will run. -/
def audioOff (s : State) : State :=
  let s := sendTdmZeros s
  let role := match s.audio.waiting, s.audio.incoming with
    | some w, _ => some w
    | none, some i => some i
    | none, none => s.audio.running
  match role.bind fun r => memAt s r.val with
  | some m => takeTdm (onlyProg s m) m
  | none => s

/-- AUDIO returns (R368): the program starts from nothing at the first sample of the next reference frame. -/
def audioOn (s : State) : State :=
  updAudio s fun a => { a with
    mems := a.mems.map fun m => m.map fun m => freshMem (some m.prog)
    tx := [], restart := some ⟨(s.now.frame + 1) % 2 ^ 32, 0, 0⟩ }

/-- Audio State (Table 13-9). -/
def audioState (s : State) : Nat :=
  if !domainOn s 14 then 0
  else if s.audio.fadeLen = 0 then 1
  else if s.audio.waiting.isSome then 3 else 2

/-! ### One sample (R350) -/

/-- The output of an address after an execution, faded between the two programs during a swap (R365). -/
def outValue (s : State) (a : Nat) : Int :=
  let of := fun (r : Option (Fin 3)) => match r.bind fun r => memAt s r.val with
    | some m => audReg m a
    | none => 0
  if s.audio.fadeLen = 0 then of s.audio.running
  else
    let n : Int := s.audio.fadePos
    let len : Int := s.audio.fadeLen
    (of s.audio.running * (len - n) + of s.audio.incoming * n + len.fdiv 2).fdiv len

/-- The programs that execute: both during a fade. -/
def runningProgs (s : State) : List Nat :=
  [s.audio.running, if s.audio.fadeLen = 0 then none else s.audio.incoming].filterMap fun r => r.map fun x => x.val

/-- Whether a sample is due: AUDIO is on, a sample begins at the present position, and it has not been executed yet. -/
def audioOnRaster (s : State) : Bool :=
  domainOn s 14 && rasterRuns s && (sampleBegins s).isSome && s.audio.lastSample ≠ some s.now

/-- One 48 kHz sample at a sample position of the raster (R74, R75), each once: the frame received is stored, the fade steps, the frame
of the previous execution is sent, gains step, the programs execute, and outputs are taken. -/
def audioSample (s : State) (sdin : List (List Nat)) : State :=
  let waits := match s.audio.restart with
    | some r => rrpBefore s.now r
    | none => false
  if !audioOnRaster s || waits then s
  else
    let tdmIns := tdmInputs s sdin
    let s := updAudio s fun a => { a with restart := none, lastSample := some s.now }
    let s := sendTdm (beginFade (fadeEnd s))
    let (playIns, s) := playInputs 64 s
    let s := updAudio s fun a => { a with gains := a.gains.map stepGain }
    let s := each (runningProgs s) s fun s p => setMem s p ((memAt s p).map (runProg s (tdmIns ++ playIns)))
    let s := updAudio s fun a => { a with tx := (rangeFrom 0x40 64).map (outValue s) }
    let s := each (rangeFrom 0 64) s fun s k =>
      if captures s k then captureFrame s k (outValue s (0x80 + 2 * k)) (outValue s (0x81 + 2 * k)) else s
    updAudio s fun a => { a with fadePos := if a.fadeLen = 0 then 0 else a.fadePos + 1 }

def execAudioSample (t : Rrp) (sdin : List (List Nat)) (s : State) : Out :=
  .next (finish s (audioSample (atTime s t) sdin))

end Sys2Proof.Machine
end

