-- ==== Sys2Proof/Machine/Slices.lean ====
section
/-! DEFINITION. Slices and ports (chapter 15): work in flight, quiesce and resets, QoS registers, BAR4, links and
configuration requests. -/

namespace Sys2Proof.Machine

/-! ### Work in flight (Table 15-9) -/

/-- A check job from slice k's ring is running. -/
def checkRunning (s : State) (k : Nat) : Bool :=
  s.mem.checks.toList.any fun c => match c.job with
    | some j => j.by_ = .ring k
    | none => false

/-- A decoder job of the slice is queued or running (DEC_STATUS.BUSY). -/
def decBusy (s : State) (k : Nat) : Bool :=
  (decRingAt s k).cur.isSome || s.media.captures.toList.any fun c => (c.job.map fun j => j.1) = some k

/-- BUSY_MASK[15:8] of a slice. -/
def busyMask (s : State) (k : Nat) : Nat :=
  let c := ctxAt s k
  let q := sliceAt s k
  let d := decRingAt s k
  let gpu := c.head ≠ c.tail || c.job.isSome || c.preempted
  b2n gpu + 2 * b2n (q.flipHead ≠ q.flipTail || flipPending s k) + 4 * b2n (d.head ≠ d.tail || decBusy s k) +
    8 * b2n (q.chkHead ≠ q.chkTail || checkRunning s k) + 16 * b2n (streamsBusy s k) + 32 * b2n q.call.isSome +
    64 * b2n (!q.waiting.isEmpty)

/-- The code of a slice's state (Table 15-8). -/
def sliceCode : SliceState → Nat
  | .unbound => 0
  | .active => 1
  | .draining => 2
  | .idle => 3
  | .resetting => 4

/-- SLICE_STATUS (Table 15-5). -/
def sliceStatus (s : State) (k : Nat) : Nat :=
  busyMask s k * 256 + (sliceAt s k).result * 16 + sliceCode (sliceAt s k).st

/-- SLICE_ID of a bound slice; 0 of an unbound one. -/
def sliceId (s : State) (k : Nat) : Nat :=
  let q := sliceAt s k
  if q.st = .unbound then 0 else 2 ^ 31 + q.port * 2 ^ 25 + k * 2 ^ 20 + q.pasid

/-! ### QoS registers (R423) -/

/-- The eight QoS registers that a last gives slice k: QOS_GPU, QOS_FRAME_BUDGET, QOS_PB_BUDGET, QOS_DRAM_ALLOT and
QOS_LAYERS0 to 3. -/
def qosOf (l : Last) (k : Nat) : List Nat :=
  let item := fun (i : Nat) => if i = 0 then none else l.items[i - 1]?
  let layers := (rangeFrom 0 4).map fun w =>
    (l.bindings.filter fun b => b.slice = k && b.out / 2 = w).foldl
      (fun a b => setBit a (16 * (b.out % 2) + b.layer) true) 0
  let four := match l.ctxs.find? fun c => c.ctx = k with
    | none => [0, 0, 0, 0]
    | some c =>
      let cls := match item c.dramItem with
        | some i => i.cls
        | none => 0xFF
      let len := (l.rows.flatMap fun r => r.events.filter fun e => e.kind = 2 && e.target = k).foldl
        (fun a e => a + e.arg / 4096) 0
      let frame := match item c.budgetItem with
        | some i => i.frameBudget
        | none => 0
      let allot := if c.dramItem = 0 then 0 else l.sets.foldl (fun a set => Nat.max a (set.getD (c.dramItem - 1) 0)) 0
      [cls * 2 ^ 24 + len / Nat.max 1 l.cycles % 65536, frame, c.pbKiB, allot]
  four ++ layers

/-- The QoS registers of a slice under the active last, at their reset values where no last is active. -/
def qosRegs (s : State) (k : Nat) : List Nat :=
  match activeLast s with
  | some l => qosOf l k
  | none => [0xFF000000, 0, 0, 0, 0, 0, 0, 0]

/-! ### Resets (R419, R420) -/

/-- The registers of the slice window at their reset values, but SLICE_DISCARDS (R419). -/
def clearSregs (s : State) (k : Nat) : State :=
  { s with sregs := SMap.keep (fun key => key / 65536 ≠ k || key % 65536 = 0x18) s.sregs }

/-- What every reset of a slice does (R419): registers, GPU context, decoder contexts, layers, streams; it is counted. -/
def sliceReset (s : State) (k : Nat) (forced : Bool) : State :=
  let s := resetSliceFlips s k
  let s := resetStreams (resetDecoder (resetCtx s k forced) k forced) k
  let s := clearSregs s k
  let s := updSlice s k fun q => { q with
    st := .active, result := 0, forced := false, flipHead := 0, flipTail := 0, flipBells := [], flipcWrite := 0,
    waiting := [], chkHead := 0, chkTail := 0, call := none }
  bump s (0x5410 + k) 5

/-- Offscreen records of a slice that S runs or has waiting, completed ABANDONED; the target of the one that runs is left
undefined (R420). -/
def abandonOffscreen (s : State) (k : Nat) : State :=
  let jobs := s.spare.jobs
  let s := { s with spare := { s.spare with jobs := jobs.filter fun r => r.slice ≠ k } }
  each (enumFrom 0 jobs) s fun s e =>
    if e.2.slice ≠ k then s
    else
      let s := if e.1 = 0 then undefineTarget s e.2 else s
      dropFlip s e.2 4 abSliceReset

/-- A forced reset begins (R420): the window is closed, every piece of work is ended, completions are written while there is
room and the rest are counted lost. -/
def beginForced (s : State) (k : Nat) : State :=
  let s := updSlice s k fun q => { q with st := .resetting, forced := true, flipBells := [], flipHead := 0, flipTail := 0 }
  let s := resetCtx s k true
  let s := abandonOffscreen (resetSliceFlips s k) k
  let s := abortSliceChecks (resetDecoder s k true) k
  let s := updSlice s k fun q => { q with call := none, chkHead := 0, chkTail := 0 }
  let s := drainCompletions k 4096 s
  let s := bumpBy s (0x5410 + k) 6 (sliceAt s k).waiting.length
  updSlice (resetStreams s k) k fun q => { q with waiting := [] }

/-- Slice s Forced Reset written (R420). -/
def forcedReset (s : State) (k value : Nat) : Nat × State :=
  let st := (sliceAt s k).st
  if st = .unbound || st = .resetting then (stState, s)
  else (stOk, if value = 1 then beginForced s k else s)

def execSliceForcedReset (t : Rrp) (o : Origin) (sl : Fin 32) (value : Nat) (s : State) : Out :=
  .next (finish s (rowWriteNum (atTime s t) o (0x5410 + sl.val) 4 value fun s => forcedReset s sl.val value))

/-- A forced reset finishes (R420 step 8). -/
def forcedComplete (s : State) (k : Nat) : State :=
  if (sliceAt s k).st = .resetting && (sliceAt s k).forced then sliceEvent (sliceReset s k false) k 5 else s

def execForcedResetComplete (t : Rrp) (sl : Fin 32) (s : State) : Out :=
  .next (finish s (forcedComplete (atTime s t) sl.val))

/-! ### SLICE_CTRL (R418, R419) -/

/-- The RESULT of a SLICE_CTRL write. -/
def setResult (s : State) (k r : Nat) : State := updSlice s k fun q => { q with result := r }

/-- DRAIN: accepted in ACTIVE. Doorbells are discarded from now on, so the tails stand as latched. -/
def ctrlDrain (s : State) (k : Nat) : State :=
  if (sliceAt s k).st = .active then updSlice (setResult s k 1) k fun q => { q with st := .draining } else setResult s k 3

/-- RESUME: accepted in DRAINING and IDLE. -/
def ctrlResume (s : State) (k : Nat) : State :=
  if discarding s k then updSlice (setResult s k 1) k fun q => { q with st := .active } else setResult s k 3

/-- RESET: accepted of a quiescent slice; else NOT_QUIESCENT, and nothing else changes. -/
def ctrlReset (s : State) (k : Nat) : State :=
  if busyMask s k = 0 then sliceReset s k false else setResult s k 2

/-- A write of SLICE_CTRL: one bit, or REFUSED; a write of no bit asks for nothing. -/
def sliceCtrl (s : State) (k value : Nat) : State :=
  if !windowOpen s k then s
  else match value % 8 with
    | 0 => s
    | 1 => ctrlDrain s k
    | 2 => ctrlReset s k
    | 4 => ctrlResume s k
    | _ => setResult s k 3

/-- A write whose named bit is set: the others may be set too, which refuses it. -/
def withBit (value i : Nat) : Nat := setBit (value % 8) i true

def execDrain (t : Rrp) (sl : Fin 32) (value : Nat) (s : State) : Out :=
  .next (finish s (sliceCtrl (atTime s t) sl.val (withBit value 0)))

def execResume (t : Rrp) (sl : Fin 32) (value : Nat) (s : State) : Out :=
  .next (finish s (sliceCtrl (atTime s t) sl.val (withBit value 2)))

def execReset (t : Rrp) (sl : Fin 32) (value : Nat) (s : State) : Out :=
  .next (finish s (sliceCtrl (atTime s t) sl.val (withBit value 1)))

/-- A draining slice becomes IDLE when its work in flight is over. -/
def drainDone (s : State) (k : Nat) : State :=
  if (sliceAt s k).st = .draining && busyMask s k = 0 then
    sliceEvent (updSlice s k fun q => { q with st := .idle }) k 4
  else s

def execDrainDone (t : Rrp) (sl : Fin 32) (s : State) : Out := .next (finish s (drainDone (atTime s t) sl.val))

/-! ### Ports (R404 to R411, R421) -/

/-- The containment region of a port. -/
def portRegion (p : Nat) : Region := .host ⟨p % 4, Nat.mod_lt _ (by decide)⟩

/-- Whether a port passes requests: HOST on, its link up, its region not isolated. -/
def portUp (s : State) (p : Nat) : Bool := domainOn s 15 && (portAt s p).link = 2 && !isolatedRegion s (portRegion p)

/-- Whether a port trains: HOST on, PERST# deasserted, not disabled by the lock (R405). -/
def mayTrain (s : State) (p : Nat) : Bool := domainOn s 15 && !(portAt s p).perst && !(portAt s p).disabled

/-- A link that starts over, in training or down. -/
def linkTo (s : State) (p : Nat) (train : Bool) : State :=
  updPort s p fun q => { q with link := if q.disabled then 3 else b2n train, speed := 0, width := 0 }

/-- The link state in which a port starts over: training, or down. -/
def relink (s : State) (p : Nat) : State := linkTo s p (mayTrain s p)

def perstDeassert (s : State) (p : Nat) : State :=
  if (portAt s p).perst then relink (updPort s p fun q => { q with perst := false, retryOver := false }) p else s

def execPerstDeassert (t : Rrp) (p : Fin 4) (s : State) : Out := .next (finish s (perstDeassert (atTime s t) p.val))

/-- 900 ms after PERST# was deasserted without a lock (R405). -/
def retryTimeout (s : State) (p : Nat) : State :=
  if s.lasts.lock.isNone && !(portAt s p).perst then updPort s p fun q => { q with retryOver := true } else s

def execConfigRetryTimeout (t : Rrp) (p : Fin 4) (s : State) : Out := .next (finish s (retryTimeout (atTime s t) p.val))

/-- A port's link comes up (Table 15-11: speed 1 to 4, width 1, 2 or 4). -/
def portLinkUp (s : State) (p speed width : Nat) : State :=
  if (portAt s p).link = 1 && mayTrain s p then updPort s p fun q => { q with link := 2, speed := speed, width := width } else s

def execPortLinkUp (t : Rrp) (p : Fin 4) (speed width : Nat) (s : State) : Out :=
  .next (finish s (portLinkUp (atTime s t) p.val speed width))

/-- The path of a port. -/
def portPath (p : Nat) : Path := .pcie ⟨p % 4, Nat.mod_lt _ (by decide)⟩

/-- A port reset (R421): its slices are force-reset, configuration space, MSI-X and the mailbox take their default values,
and the tickets and open DOMAIN writes of its path are retired; accesses behind them run to their end. Causes in R421's
order: 0 PERST#, 1 hot reset, 2 Function Level Reset, 3 the link leaving DL_Active, 4 a return from D3hot, 5 HOST off. A port
that the lock disabled ignores PERST# (R405). -/
def portReset (s : State) (p cause : Nat) : State :=
  if cause = 0 && (portAt s p).disabled then updPort s p fun q => { q with perst := true }
  else
  let s := each (rangeFrom 0 32) s fun s k =>
    let q := sliceAt s k
    if q.port = p && q.st ≠ .unbound && q.st ≠ .resetting then beginForced s k else s
  let s := updPort s p fun q => { q with
    msix := Vector.replicate 64 ⟨0, 0, true⟩, msixPending := [], msixEnable := false, msixMask := false,
    pasidEnable := false, d3hot := false
    perst := q.perst || cause = 0 }
  let mine := fun (o : Origin) => o.path = portPath p
  let s := { s with net := { s.net with
    mailboxes := vecMod s.net.mailboxes p fun _ => resetMailbox
    tickets := (s.net.tickets.filter fun t => !mine t.origin || t.final.isNone).map fun t =>
      if mine t.origin then { t with no := 0 } else t
    forwards := s.net.forwards.filter fun f => !mine f.origin } }
  let s := discardDomains s fun d => mine d.origin
  let s := { s with lasts := { s.lasts with waiting := s.lasts.waiting.filter fun h => !(h.port = some p && h.req.data.isNone) } }
  let s := if cause = 2 || cause = 4 then s else linkTo s p (mayTrain s p && cause ≠ 5)
  bump s (0x5400 + p) 7

def execPortReset (t : Rrp) (p : Fin 4) (cause : Fin 6) (s : State) : Out :=
  .next (finish s (portReset (atTime s t) p.val cause.val))

/-! ### BAR4 (R409, R410) -/

/-- The principal of a BAR4 request: the slice bound to its PASID on the port, or the port. -/
def bar4Who (s : State) (p : Nat) (pasid : Option Nat) : Principal × Nat :=
  let k := pasid.bind fun id => (rangeFrom 0 32).find? fun k =>
    let q := sliceAt s k
    q.st ≠ .unbound && q.port = p && q.pasid = id
  match k with
  | some k => (sliceWho k, 0x20 + k)
  | none => (.port ⟨p % 4, Nat.mod_lt _ (by decide)⟩, 0x41)

/-- A BAR4 access of an offset below 64 GiB: a DRAM request that counts on the item of its slice's context, or of context 33
(R410). -/
def bar4Access (s : State) (p off len : Nat) (data : Option Bytes) (pasid : Option Nat) : State :=
  if !portUp s p || 2 ^ 36 ≤ off then s
  else
    let (who, req) := bar4Who s p pasid
    present (drainWaiting s) ⟨some p, ⟨who, req, off, len, data, 0, false, false⟩⟩

def execBar4Access (t : Rrp) (p : Fin 4) (off len : Nat) (data : Option Bytes) (pasid : Option Nat) (s : State) : Out :=
  .next (finish s (bar4Access (atTime s t) p.val off len data pasid))

/-! ### Configuration requests (R404, R405) -/

/-- A free value in whose bits of a mask a known value stands. -/
def freeBut (s : State) (mask known : Nat) : Nat × State :=
  let (v, s) := takeFree s (2 ^ 32)
  (v - andMask v mask + known, s)

/-- A register of configuration space read (Table 15-1); what the PCIe specification alone decides is free. Device Capabilities:
512-byte payloads, extended tags, Function Level Reset. Link Capabilities: 16.0 GT/s, 4 lanes, ASPM L1 only. PASID: 20 bits,
neither Execute nor Privileged modes. -/
def cfgValue (s : State) (p : Nat) (f : CfgField) : Nat × State :=
  let q := portAt s p
  match f with
  | .vendorDevice => (0x88401F8C, s)
  | .revisionClass => (0x038000B0, s)
  | .subsystem => (p * 65536 + 0x1F8C, s)
  | .deviceSerial => (Config.unitId, s)
  | .msixControl => (63 + 0x4000 * b2n q.msixMask + 0x8000 * b2n q.msixEnable, s)
  | .pasidControl => (b2n q.pasidEnable, s)
  | .powerControl => (if q.d3hot then 3 else 0, s)
  | .deviceControl => takeFree s 65536
  | .deviceCaps => freeBut s 0x10000027 0x10000022
  | .linkCaps => freeBut s 0xFFF 0x844
  | .pasidCaps => freeBut s 0x1F06 0x1400
  | .other _ => takeFree s (2 ^ 32)

/-- The messages of unmasked entries that were pending, and the pending bits left. -/
def releasePending (s : State) (p : Nat) : State :=
  let q := portAt s p
  let go := fun (e : Nat) => q.msixEnable && !q.msixMask && !(vecAt q.msix e ⟨0, 0, true⟩).masked
  let due := q.msixPending.filter go
  each due.reverse (updPort s p fun q => { q with msixPending := q.msixPending.filter fun e => !go e }) fun s e =>
    emit s (.msix p e)

/-- A register of configuration space written: MSI-X Control, PASID Enable and the power state change here; a Function Level
Reset and a return from D3hot are events of their own (PORT_RESET). -/
def cfgWrite (s : State) (p : Nat) (f : CfgField) (v : Nat) : State :=
  match f with
  | .msixControl => releasePending (updPort s p fun q => { q with msixEnable := bit v 15, msixMask := bit v 14 }) p
  | .pasidControl => updPort s p fun q => { q with pasidEnable := bit v 0 }
  | .powerControl => updPort s p fun q => { q with d3hot := v % 4 = 3 }
  | _ => s

def cfgRequest (s : State) (p : Nat) (f : CfgField) (data : Option Nat) : State :=
  if !portUp s p then s
  else if s.lasts.lock.isNone && !(portAt s p).retryOver then emit s (.cfgRetry p)
  else match data with
    | some v => cfgWrite s p f v
    | none => let (v, s) := cfgValue s p f; emit s (.cfgRead p v)

def execPcieConfigRequest (t : Rrp) (p : Fin 4) (field : CfgField) (data : Option Nat) (s : State) : Out :=
  .next (finish s (cfgRequest (atTime s t) p.val field data))

end Sys2Proof.Machine
end

