-- ==== Sys2Proof/Machine/Secure.lean ====
section
/-! DEFINITION. The secure island (chapter 16): measurement, keys and records, secure calls, the division record, debug
unlock, restart of the island, and the wipe of the secure comb (R396). -/

namespace Sys2Proof.Machine

def updSec (s : State) (f : Secure → Secure) : State := { s with sec := f s.sec }

/-! ### Measurement (R428) -/

/-- MR i extended with the digest of an item. -/
def extendMr (s : State) (i : Nat) (digest : Bytes) : State :=
  updSec s fun q => { q with mrs := vecMod q.mrs i fun m => sha256 (m ++ digest) }

/-- MR i extended with an item. -/
def measure (s : State) (i : Nat) (item : Bytes) : State := extendMr s i (sha256 item)

/-- MR i. -/
def mrAt (s : State) (i : Nat) : Bytes := vecAt s.sec.mrs i (zeroBytes 32)

/-! ### Keys (R430 to R433) -/

/-- Whether the key area and the owner key can be used: not after Field-return or Decommissioned (Table 16-3). -/
def keysUsable (s : State) : Bool := s.sec.lifeCycle < 3

/-- The material of the installation key of a kind and number. -/
def keyOf (s : State) (kind id : Nat) : Option Bytes :=
  if keysUsable s then (s.sec.keys.find? fun k => k.kind = kind && k.id = id).map fun k => k.material else none

/-- The installation key of datagrams (R33). -/
def datagramKey (s : State) : Option Bytes :=
  if keysUsable s then (s.sec.keys.find? fun k => k.kind = 3).map fun k => k.material else none

/-- Whether a signature verifies under the owner key. -/
def ownerSigned (s : State) (msg sig : Bytes) : Bool :=
  match s.sec.ownerHash with
  | some h => keysUsable s && Config.ecdsaVerify (Config.ownerKey h) msg sig
  | none => false

/-- Unit Hash: the first 8 bytes of the SHA-256 of the unit ID (R433). -/
def unitHash : Bytes := (sha256 (leBytes 8 Config.unitId)).take 8

/-- Whether a record's UNIT_HASH names any unit, or this one. -/
def unitOk (h : Bytes) : Bool := h = zeroBytes 8 || h = unitHash

/-- The format of a key record (Table 16-5). -/
def keyRecordForm (r : Bytes) : Bool :=
  let kind := u8 r 4
  let id := u16 r 6
  r.length = 296 && r.take 4 = ascii "KEY1" && kind ≤ 4 && u8 r 5 ≤ 1 && zeros r 12 4 &&
    (if kind = 0 then id = 0 else 1 ≤ id && id ≤ 0x7FFF) && (if kind = 3 then zeros r 180 20 else zeros r 120 80) &&
    unitOk (sub r 16 8) && (kind ≠ 3 || sub r 16 8 ≠ zeroBytes 8)

/-- The key that a record brings: the public key, or the installation key that the island recovers (R433). -/
def keyMaterial (r : Bytes) : Option Bytes :=
  if u8 r 4 = 3 then Config.recoverKey (r.take 24) (sub r 24 156) else some (sub r 24 96)

/-- Whether a key record is accepted (R432); a KIND 0 record cannot revoke fuses, and a new key needs a free place (log
entry 34). -/
def keyRecordOk (s : State) (r : Bytes) : Bool :=
  let kind := u8 r 4
  let revoke := bit (u8 r 5) 0
  let sig := sub r 200 96
  let msg := r.take 200
  let there := s.sec.keys.any fun k => k.kind = kind && (kind = 3 || k.id = u16 r 6)
  keyRecordForm r && s.sec.counter < u32 r 8 && (keyMaterial r).isSome &&
    (if kind = 0 then !revoke && s.sec.ownerHash.isNone && s.sec.lifeCycle < 3 && Config.ecdsaVerify (sub r 24 96) msg sig
     else ownerSigned s msg sig && (revoke || there || s.sec.keys.length < 16))

/-- A key record: whether it is accepted, and its effect (R432). -/
def keyRecord (s : State) (r : Bytes) : Bool × State :=
  if !keyRecordOk s r then (false, s)
  else
    let kind := u8 r 4
    let id := u16 r 6
    let revoke := bit (u8 r 5) 0
    let key : Key := ⟨kind, id, (keyMaterial r).getD []⟩
    let others := s.sec.keys.filter fun k => !(k.kind = kind && (kind = 3 || k.id = id))
    let pos := s.sec.keys.findIdx fun k => k.kind = kind && (kind = 3 || k.id = id)
    let keys := if revoke then others else others.take pos ++ [key] ++ others.drop pos
    let s := if kind = 0 then updSec s fun q => { q with ownerHash := some (sha384 (sub r 24 96)) }
      else updSec s fun q => { q with keys := keys }
    let s := if kind = 3 then setNum s 0x1D08 0 (if revoke then 0 else id) else s
    (true, measure (updSec s fun q => { q with counter := u32 r 8 }) 11 r)

/-! ### Division records (R442) -/

/-- A grant (16 bytes). -/
def grantRec (b : Bytes) : Grant := ⟨u64 b 0, u32 b 8, u32 b 12⟩

/-- The form of an owner word (Table 16-11). -/
def ownerForm (w : Nat) : Bool :=
  bits w 16 0 = 0 && bits w 29 28 ≠ 3 && (!bit w 30 || bits w 29 0 = 0) && (bits w 29 28 = 0 || bits w 25 21 = 0) &&
    (bits w 29 28 ≠ 2 || bits w 27 26 = 0)

/-- A grant's fields stand in their ranges (R442, Table 16-11). -/
def grantOk (g : Grant) : Bool := g.base % 4096 = 0 && g.base < 2 ^ 40 && 1 ≤ g.pages && ownerForm g.word

/-- Whether a division record is accepted. -/
def divisionOk (s : State) (r : Bytes) : Bool :=
  let n := u16 r 4
  let body := 20 + 16 * n
  20 ≤ r.length && r.take 4 = ascii "DIV1" && 1 ≤ n && n ≤ 64 && 64 ≤ u16 r 6 && u16 r 6 ≤ 4096 && r.length = body + 96 &&
    s.sec.counter < u32 r 8 && unitOk (sub r 12 8) && ((records r 20 16 n).map grantRec).all grantOk &&
    ownerSigned s (r.take body) (sub r body 96)

/-- A division record: stored, and in force from the next Bring-up. -/
def divisionRecord (s : State) (r : Bytes) : Bool × State :=
  if !divisionOk s r then (false, s)
  else
    let s := updSec s fun q => { q with
      grants := (records r 20 16 (u16 r 4)).map grantRec, reserve := u16 r 6, counter := u32 r 8 }
    (true, measure s 11 r)

/-! ### Debug (R449 to R451) -/

/-- A new challenge of 32 random bytes. -/
def newChallenge (s : State) : State :=
  let (c, s) := takeBytes s 32
  updSec s fun q => { q with challenge := c, holdoff := false }

/-- The challenge renewed by a response: at once after an accepted one, 1 s later after a refused one (R451). -/
def renewChallenge (s : State) (ok : Bool) : State :=
  if ok then newChallenge s else updSec s fun q => { q with holdoff := true, refusedAt := s.now }

def execChallengeHoldoffExpire (t : Rrp) (s : State) : Out :=
  let s' := atTime s t
  .next (finish s (if s'.sec.holdoff && waited s' s'.sec.refusedAt 1000 then newChallenge s' else s'))

/-- The key that a response names: Otmoell's from 0x8000, the owner's for 0, else a debug key (Table 16-8, R430). -/
def responseKey (s : State) (id : Nat) : Option Bytes :=
  if 0x8000 ≤ id then Config.romDebugKey id
  else if id = 0 then (if keysUsable s then s.sec.ownerHash.map Config.ownerKey else none)
  else keyOf s 4 id

/-- Whether a response is well formed and signed over the standing challenge. -/
def responseSigned (s : State) (r : Bytes) : Bool :=
  r.length = 104 && zeros r 1 1 && zeros r 4 4 && !s.sec.holdoff &&
    match responseKey s (u16 r 2) with
    | some k => Config.ecdsaVerify k (s.sec.challenge ++ leBytes 8 Config.unitId ++ r.take 8) (sub r 8 96)
    | none => false

/-- The enables that an unlock may set, by life-cycle state and by whether the key is Otmoell's (Table 16-13). -/
def unlockable (s : State) (otmoell : Bool) : Nat :=
  match s.sec.lifeCycle with
  | 1 => 15
  | 2 => 3
  | 3 => if otmoell then 15 else 0
  | _ => 0

/-- An unlock (R451), limited to the enables of a mask: whether it is accepted, and its effect. -/
def debugResponse (s : State) (r : Bytes) (mask : Nat) : Bool × State :=
  let want := u8 r 0
  let id := u16 r 2
  let may := andMask (unlockable s (0x8000 ≤ id)) mask
  if id ≠ 0 && want < 16 && andMask want may = want && responseSigned s r then
    let s := updSec s fun q => { q with debug := Nat.lor q.debug want }
    let s := updInsp (measure s 10 r) fun d => { d with debugUnlocks := sat255 d.debugUnlocks }
    (true, renewChallenge s true)
  else (false, renewChallenge s false)

/-- Whether the debug mailbox can judge a record: the island is neither restarting nor stopped (R447, R448). -/
def islandJudges (s : State) : Bool := s.sec.island ≠ 2 && s.sec.island ≠ 3

/-- A message of the debug mailbox: answered in every mode in which MGMT is on (R449), and where the boot has stopped (R427). -/
def debugMailbox (s : State) (f : State → Bool × State) : State :=
  if !domainOn s 2 && !s.sec.bootStopped then s
  else if !islandJudges s then emit s (.debugReply false)
  else let (ok, s) := f s; emit s (.debugReply ok)

def execMailboxKeyRecord (t : Rrp) (rec : Bytes) (s : State) : Out :=
  .next (finish s (debugMailbox (atTime s t) fun s => keyRecord s rec))

def execMailboxDivisionRecord (t : Rrp) (rec : Bytes) (s : State) : Out :=
  .next (finish s (debugMailbox (atTime s t) fun s => divisionRecord s rec))

def execMailboxDebugResponse (t : Rrp) (resp : Bytes) (s : State) : Out :=
  .next (finish s (debugMailbox (atTime s t) fun s => debugResponse s resp 15))

/-! ### Secure calls (R434 to R438) -/

/-- The call descriptor in a slice's registers: 252 bytes. -/
def callDesc (s : State) (k : Nat) : Bytes := (rangeFrom 0 63).flatMap fun i => leBytes 4 (sreg s k (0x700 + 4 * i))

/-- CALL, and the arguments: the bytes up to ARG_LENGTH. -/
def callNo (d : Bytes) : Nat := u16 d 0
def callArgs (d : Bytes) : Bytes := sub d 8 (Nat.min 244 (u16 d 2))

/-- The statuses of Table 16-10. -/
def csOk : Nat := 0
def csNotOwner : Nat := 3
def csBadArgs : Nat := 4
def csAccess : Nat := 5
def csBusy : Nat := 6
def csUnknown : Nat := 7
def csNotSupported : Nat := 8
def csRefused : Nat := 9

/-- A post that was not accepted counted at the surface that its arguments name, configured or not (R202). -/
def countReject (s : State) (d : Bytes) (st : Nat) : State :=
  let n := u8 (callArgs d) 0
  let k := u8 (callArgs d) 1
  if callNo d = 1 && st ≠ csOk && 2 ≤ (callArgs d).length && n < 8 && k < 2 then bump s (0x3037 + 0x100 * n) (k + 1) else s

/-- A reply prepared for a slice's call. -/
def prepare (s : State) (k : Nat) (r : Nat × Bytes) : State :=
  match (sliceAt s k).call with
  | some c => updSlice (countReject s c.desc r.1) k fun q => { q with call := some { c with taken := true, reply := some r } }
  | none => s

/-- A write of SECURE_CALL (R416, R435): discarded while the slice drains or a call has no reply; else the descriptor is
copied and the island has the call. A call that is unknown, or that finds the island restarting or stopped, is answered at
once. -/
def secureCall (s : State) (k : Nat) : State :=
  if !windowOpen s k then s
  else if discarding s k || (sliceAt s k).call.isSome then discardStart s k
  else
    let d := callDesc s k
    let s := setSreg s k 0x1000 (sreg s k 0x1000 % 2 ^ 31)
    let s := updSlice s k fun q => { q with call := some ⟨d, false, none⟩ }
    if s.sec.island ≠ 1 then prepare s k (csBusy, [])
    else if callNo d = 0 || 9 < callNo d then prepare s k (csUnknown, [])
    else s

/-- The island takes a slice's call of one kind: BUSY while it cannot, BAD_ARGS for a wrong ARG_LENGTH, else what the call
answers (R437). -/
def takeCall (s : State) (k call need : Nat) (f : State → Bytes → (Nat × Bytes) × State) : State :=
  match (sliceAt s k).call with
  | some c =>
    if c.taken || callNo c.desc ≠ call then s
    else if s.sec.island ≠ 1 then prepare s k (csBusy, [])
    else if 244 < u16 c.desc 2 || u16 c.desc 2 < need then prepare s k (csBadArgs, [])
    else let (r, s) := f s (callArgs c.desc); prepare s k r
  | none => s

/-- The reply written to the secure mailbox (R435, Table 16-7). -/
def callReply (s : State) (k : Nat) : State :=
  match (sliceAt s k).call with
  | some c =>
    match c.reply with
    | some (st, data) =>
      let words := rangeFrom 0 ((data.length + 3) / 4)
      let s := each words s fun s i => setSreg s k (0x1010 + 4 * i) (u32 data (4 * i))
      let s := setSreg (setSreg s k 0x1004 (u32 c.desc 4)) k 0x1008 (st * 2 ^ 24 + data.length)
      let s := setSreg s k 0x1000 (2 ^ 31 + callNo c.desc)
      raiseCause (updSlice s k fun q => { q with call := none }) k 6
    | none => s
  | none => s

def execSecureCallReply (t : Rrp) (sl : Fin 32) (s : State) : Out := .next (finish s (callReply (atTime s t) sl.val))

/-! ### VS_POST (R200, R201) -/

/-- Bytes in one pixel of a surface's format. -/
def surfaceBpp (c : SurfaceCfg) : Nat := if c.fmt = 1 then 4 else 2

/-- The bytes that the two buffers of a surface take. -/
def surfaceBytes (c : SurfaceCfg) : Nat := 2 * c.width * c.height * surfaceBpp c

/-- Whether surface k of output n fits in the secure area, buffers being placed output by output and surface by surface
(R441; log entry 35). -/
def surfaceFits (s : State) (n k : Nat) : Bool :=
  match s.sentinel.atlas with
  | none => false
  | some a =>
    let all := a.outs.flatMap fun o => (enumFrom 0 o.surfaces).map fun e => (o.out, e.1, surfaceBytes e.2)
    let upTo := all.filter fun e => e.1 < n || (e.1 = n && e.2.1 ≤ k)
    (upTo.map fun e => e.2.2).sum ≤ s.sec.reserveInForce * 2 ^ 20

/-- The lines of a staging buffer read through the slice's translation, and counted on the item of requester 0x18 (R201 step 3):
none where a read is blocked. -/
def readStaging (sl addr pitch len : Nat) : Nat → State → Option Bytes × State
  | 0, s => (some [], s)
  | h + 1, s =>
    match readStaging sl addr pitch len h s with
    | (some bs, s) =>
      match sliceRead s sl (addr + h * pitch) len false with
      | (.ok l, s) => (some (bs ++ l), noteBytes s 0x18 ((len + 63) / 64 * 64))
      | (_, s) => (none, s)
    | (none, s) => (none, s)

/-- The copy and its check (R201 steps 2 to 4). -/
def postCopy (s : State) (sl n k : Nat) (c : SurfaceCfg) (a : Bytes) : (Nat × Bytes) × State :=
  let s := updSurface s n k fun v => { v with eligible := none }
  match readStaging sl (u64 a 8) (u32 a 16) (c.width * surfaceBpp c) c.height s with
  | (none, s) => ((csAccess, []), s)
  | (some bs, s) =>
    let s := noteBytes s 0x18 ((bs.length + 63) / 64 * 64)
    if crcOf crc32c bs ≠ u32 a 20 then ((1, []), report s 0x24 n effNone)
    else
      let free := match (surfaceAt s n k).shown with
        | some b => b2n !b
        | none => 0
      let s := updSurface s n k fun v => { v with
        bufs := vecMod v.bufs free fun _ => bs, eligible := some s.now, eligibleTag := u32 a 4, lastTag := some (u32 a 4),
        age := 0 }
      ((csOk, leBytes 8 (rrpNum s.now)), clearFault s 0x24 n)

/-- The VS_POST call, checked in the order of R201. -/
def vsPostCall (s : State) (sl : Nat) (a : Bytes) : (Nat × Bytes) × State :=
  let n := u8 a 0
  let k := u8 a 1
  match (if n < 8 && k < 2 then surfaceCfg s n k else none) with
  | none => ((csBadArgs, []), s)
  | some c =>
    let pitch := u32 a 16
    let late := match (surfaceAt s n k).lastTag with
      | some t => frameLater (u32 a 4) t
      | none => true
    if !zeros a 2 2 || u64 a 8 % 256 ≠ 0 || pitch % 64 ≠ 0 || pitch < c.width * surfaceBpp c || !surfaceFits s n k then
      ((csBadArgs, []), s)
    else if c.slice ≠ sl || !safetySlice s sl then ((csNotOwner, []), s)
    else if !late then ((2, []), s)
    else postCopy s sl n k c a

def execVsPost (t : Rrp) (sl : Fin 32) (s : State) : Out :=
  .next (finish s (takeCall (atTime s t) sl.val 1 24 fun s a => vsPostCall s sl.val a))

/-! ### PAGE_TRANSFER and PAGE_QUERY (R444) -/

/-- Whether an owner word gives a page to slice sl, or to its port with KIND 1. -/
def wordMine (s : State) (sl w : Nat) : Bool :=
  let p := (sliceAt s sl).port
  bit w 31 && !bit w 30 && bits w 27 26 = p && ((bits w 29 28 = 0 && bits w 25 21 = sl) || bits w 29 28 = 1)

/-- Whether slice sl is its port's host slice. -/
def hostSlice (s : State) (sl : Nat) : Bool := (sliceAt s sl).pasid = 0

/-- Whether slice sl may transfer a page with the word w to the owner word o. -/
def mayTransfer (s : State) (sl o w : Nat) : Bool :=
  let p := (sliceAt s sl).port
  let guest := bit w 31 && !bit w 30 && bits w 29 28 = 0 && bits w 27 26 = p
  let keeps := fun (i : Nat) => !bit o i || bit w i
  (wordMine s sl w || (hostSlice s sl && guest)) && bit o 31 && !bit o 30 && bits o 29 28 ≤ 1 && bits o 27 26 = p &&
    keeps 17 && keeps 18 && (hostSlice s sl || (keeps 19 && keeps 20))

/-- The PAGE_TRANSFER call: the owner words of every page change together, or none does. -/
def pageTransferCall (s : State) (sl : Nat) (a : Bytes) : (Nat × Bytes) × State :=
  let first := u64 a 0
  let n := u32 a 8
  let o := u32 a 12
  let pages := rangeFrom (first / 4096) n
  if first % 4096 ≠ 0 || n = 0 || 262144 < n || !ownerForm o then ((csBadArgs, []), s)
  else if s.sec.divMode ≠ 2 then ((csNotSupported, []), s)
  else if !pages.all fun p => mayTransfer s sl o (ownerWord s (p * 4096)) then ((csNotOwner, []), s)
  else ((csOk, []), updSec s fun q => { q with owners := pages.foldl (fun m p => SMap.set (fun _ => none) m p (some o)) q.owners })

def execPageTransfer (t : Rrp) (sl : Fin 32) (s : State) : Out :=
  .next (finish s (takeCall (atTime s t) sl.val 2 16 fun s a => pageTransferCall s sl.val a))

/-- The PAGE_QUERY call. -/
def pageQueryCall (s : State) (sl : Nat) (a : Bytes) : (Nat × Bytes) × State :=
  let w := ownerWord s (u64 a 0)
  ((csOk, leBytes 4 (if wordMine s sl w then w else andMask w 0xC0000000)), s)

def execPageQuery (t : Rrp) (sl : Fin 32) (s : State) : Out :=
  .next (finish s (takeCall (atTime s t) sl.val 3 8 fun s a => pageQueryCall s sl.val a))

/-! ### The other calls (Table 16-9) -/

/-- A secure variable that nothing has written is 0. -/
def zeroVar : Nat → Nat := fun _ => 0

/-- The SVAR_WRITE call. -/
def svarCall (s : State) (sl : Nat) (a : Bytes) : (Nat × Bytes) × State :=
  if !zeros a 1 3 then ((csBadArgs, []), s)
  else if !safetySlice s sl then ((csNotOwner, []), s)
  else ((csOk, []), { s with sentinel := { s.sentinel with vars := SMap.set zeroVar s.sentinel.vars (u8 a 0) (u32 a 4) } })

def execSvarWrite (t : Rrp) (sl : Fin 32) (s : State) : Out :=
  .next (finish s (takeCall (atTime s t) sl.val 4 8 fun s a => svarCall s sl.val a))

/-- The MEASURE_EXTEND call. -/
def extendCall (s : State) (a : Bytes) : (Nat × Bytes) × State :=
  let r := u8 a 0
  if r < 12 || 15 < r || !zeros a 1 3 then ((csBadArgs, []), s)
  else let s := extendMr s r (sub a 4 32); ((csOk, mrAt s r), s)

def execMeasureExtend (t : Rrp) (sl : Fin 32) (s : State) : Out :=
  .next (finish s (takeCall (atTime s t) sl.val 5 36 fun s a => extendCall s a))

/-- The QUOTE call (R429). -/
def quoteCall (s : State) (a : Bytes) : (Nat × Bytes) × State :=
  let m := sha384 (s.sec.mrs.toList.flatMap id)
  let state := leBytes 1 s.sec.lifeCycle
  let sig := padTo 96 (Config.ecdsaSign (a.take 32 ++ m ++ state))
  ((csOk, state ++ zeroBytes 3 ++ leBytes 4 (entryNum s 0x5E03 0) ++ m ++ sig), s)

def execQuote (t : Rrp) (sl : Fin 32) (s : State) : Out :=
  .next (finish s (takeCall (atTime s t) sl.val 6 32 fun s a => quoteCall s a))

/-- A call that hands the island a record in the slice's memory: ACCESS where it cannot be read, REFUSED where the record
fails its checks. -/
def recordCall (s : State) (sl addr len : Nat) (f : State → Bytes → Bool × State) : (Nat × Bytes) × State :=
  match sliceRead s sl addr len false with
  | (.ok bs, s) => let (ok, s) := f s bs; ((if ok then csOk else csRefused, []), s)
  | (_, s) => ((csAccess, []), s)

def execKeyProvision (t : Rrp) (sl : Fin 32) (s : State) : Out :=
  .next (finish s (takeCall (atTime s t) sl.val 7 8 fun s a => recordCall s sl.val (u64 a 0) 296 keyRecord))

/-- The DIVISION_SET call; a LENGTH that no division record has is refused unread. -/
def divisionCall (s : State) (sl : Nat) (a : Bytes) : (Nat × Bytes) × State :=
  let n := u32 a 8
  if !safetySlice s sl then ((csNotOwner, []), s)
  else if n < 132 || 1140 < n then ((csRefused, []), s)
  else recordCall s sl (u64 a 0) n divisionRecord

def execDivisionSet (t : Rrp) (sl : Fin 32) (s : State) : Out :=
  .next (finish s (takeCall (atTime s t) sl.val 8 12 fun s a => divisionCall s sl.val a))

/-- The DEBUG_UNLOCK call: bits 0 and 1 only (R451). -/
def execDebugUnlock (t : Rrp) (sl : Fin 32) (s : State) : Out :=
  .next (finish s (takeCall (atTime s t) sl.val 9 8 fun s a =>
    recordCall s sl.val (u64 a 0) 104 fun s r => debugResponse s r 3))

/-! ### Restart of the island (R447, R448) -/

/-- Every call without a reply answered BUSY. -/
def busyCalls (s : State) : State :=
  each (rangeFrom 0 32) s fun s k =>
    match (sliceAt s k).call with
    | some c => if c.reply.isNone then prepare s k (csBusy, []) else s
    | none => s

/-- The island hangs: it is restarted, or stopped at the third restart within an hour. -/
def islandHang (s : State) : State :=
  if s.sec.island ≠ 1 || !domainOn s 3 then s
  else
    let recent := s.sec.restartTimes.filter fun x => elapsed s.tb.rate x s.now < 3600 * msTicks s.tb.rate 1000
    let stop := 2 ≤ recent.length
    let s := updSec s fun q => { q with island := if stop then 3 else 2, restartTimes := recent ++ [s.now] }
    let s := updInsp (bump s 0x5E03 0) fun d => { d with islandRestarts := sat255 d.islandRestarts }
    busyCalls (report s 0x50 0 (if stop then effProtected else effCovered))

def execIslandWatchdogExpire (t : Rrp) (s : State) : Out := .next (finish s (islandHang (atTime s t)))

/-- The island resumes where its firmware verified and its digest is that of boot; else it is stopped. -/
def islandReturn (s : State) (verified : Bool) (digest : Bytes) : State :=
  if s.sec.island ≠ 2 then s
  else if verified && digest = s.sec.mr1Digest then
    signWaiting (clearFault (updSec s fun q => { q with island := 1 }) 0x50 0)
  else report (updSec s fun q => { q with island := 3 }) 0x50 0 effProtected

def execIslandRestartComplete (t : Rrp) (verified : Bool) (digest : Bytes) (s : State) : Out :=
  .next (finish s (islandReturn (atTime s t) verified digest))

/-! ### The wipe of the secure comb (R396, R397, R517) -/

/-- The secure comb wiped: every word zero, so that layer P has no atlas; the cause is recorded (1 tamper, 2 supply, 3 clock,
4 life cycle). -/
def secureWipe (s : State) (cause : Nat) : State :=
  let s := setNum (setNum s 0x5E04 1 cause) 0x5E04 2 (rrpNum s.now)
  emptyLayerP (report s 0x34 0 effProtected)

def execSecureCombWipe (t : Rrp) (cause : Nat) (s : State) : Out :=
  let s' := atTime s t
  .next (finish s (if domainOn s' 3 && 1 ≤ cause && cause ≤ 4 then secureWipe s' cause else s'))

/-- TAMPER_N asserted: a wipe while SEC is on, else latched in AON for the next Bring-up. -/
def tamper (s : State) : State :=
  if domainOn s 3 then secureWipe s 1 else updSec s fun q => { q with tamperLatched := true }

def execTamperAssert (t : Rrp) (s : State) : Out := .next (finish s (tamper (atTime s t)))

end Sys2Proof.Machine
end

