-- ==== Sys2Proof/Machine/Lasts.lean ====
section
/-! DEFINITION. Loading a last, the assumptions under which it holds, the assignment lock, and the switch from one last to
another (R107 to R119, R141, R146, R445, R511). -/

namespace Sys2Proof.Machine

def updLasts (s : State) (f : Lasts → Lasts) : State := { s with lasts := f s.lasts }

/-! ### Assumptions (R107, R108, R127) -/

/-- Two lasts are linked: either lists the other. -/
def linked (a b : Last) : Bool := a.links.contains b.identity || b.links.contains a.identity

/-- The valid last of slot i (0 to 3). -/
def resident (s : State) (i : Nat) : Option Last :=
  let q := slotAt s i
  if q.st = .valid then q.last else none

/-- The resident lasts that the last of slot i must be linked to: the reserve and hold lasts for a main slot, every main last
for the others. -/
def linkPeers (s : State) (i : Nat) : List Last :=
  (if i < 2 then [2, 3] else [0, 1]).filterMap (resident s)

/-- The margin class in force (0x5A00), 1 to 4. -/
def marginClass (s : State) : Nat := entryNum s 0x5A00 0

/-- The DRAM speed assumption: every declared rate was trained, and the populated DRAM covers HIGHEST_ADDRESS. -/
def dramHolds (s : State) (l : Last) : Bool :=
  (l.rates.isEmpty && l.highest = 0) ||
    (s.mem.bitsN ≠ 0 && l.rates.all (fun r => s.mem.trained.contains r) && l.highest < 2 ^ s.mem.bitsN)

/-- R127 and the slot role of Table 4-7. -/
def roleHolds (s : State) (i : Nat) (l : Last) : Bool :=
  if i < 2 then l.role = 1 && (match resident s 2 with
    | some r => l.margin ≤ r.margin
    | none => true)
  else if i = 2 then l.role = 2 && ([0, 1].filterMap (resident s)).all fun m => m.margin ≤ l.margin
  else
    l.role = 3 && l.rates.isEmpty && !(l.items.any fun x => x.resource = 0) && l.margin = 4 &&
      !(l.rows.any fun r => r.events.any fun e => e.kind = 2 && e.target < 32)

/-- The section 0x0C is that of the lock, where the assignment is locked. -/
def assignHolds (s : State) (l : Last) : Bool :=
  match s.lasts.lock with
  | some a => l.assign.raw = a.raw
  | none => true

/-- A plan without the WALL and RECORDED bits of FLAGS. -/
def planCore (p : OutPlan) : OutPlan := { p with flags := p.flags / 4 }

/-- R108 for two lasts. -/
def sameTiming (a b : Last) : Bool :=
  a.plans.all fun p => match planOf b p.out with
    | some q => planCore p = planCore q
    | none => true

/-- The assumptions that load and arming share, each with its load error code (Table 5-18). -/
def assumptions (s : State) (i : Nat) (l : Last) (dram : Bool) : List (Nat × Bool) :=
  [(0x0401, l.family = entryNum s 0x2000 1), (0x0402, bit l.steppings (entryNum s 0x2000 2)),
   (0x0403, l.rateCode = rateCode s.tb.rate && l.lRef = lrefOf s), (0x0404, dram),
   (0x0405, marginClass s ≤ l.margin), (0x0406, l.opPoint = l.margin), (0x0407, roleHolds s i l),
   (0x0409, assignHolds s l), (0x040A, (linkPeers s i).all (linked l))]

/-- Whether the last of slot i holds; without margin where the margin switch asks (R110). -/
def slotHolds (s : State) (i : Nat) (margin : Bool) : Bool :=
  match resident s i with
  | some l => !(slotAt s i).dramPending &&
      (assumptions s i l (dramHolds s l)).all fun c => c.2 || (c.1 = 0x0405 && !margin)
  | none => false

/-- Margin Beyond Lasts set while no resident main or reserve last holds for the class in force (R111); not judged while Bring-up
has still to place the lasts and train DRAM. -/
def updateBeyond (s : State) : State :=
  if (s.mode = .bringup && s.power.step < 8) || (rangeFrom 0 3).any fun i => slotHolds s i true then s else updLasts s fun l => { l with marginBeyond := true }

/-! ### Checks of an image (R146) -/

/-- The provisioned key that signs a last (R145, R431). -/
def lastKey (s : State) (id : Nat) : Option Bytes := keyOf s 1 id

/-- Stage 2: 0, 0x0201 or 0x0202. -/
def stage2 (s : State) (img : Bytes) : Nat :=
  let g := sect img 0x0F
  if s.sec.island = 3 then 0x0201
  else match lastKey s (u32 g 0) with
    | none => 0x0201
    | some k => if Config.ecdsaVerify k (img.take (sectOff img 0x0F)) (sub g 16 96) then 0 else 0x0202

/-- Section 0x0C: its form (R141, R142, R408) and its countersignature. -/
def countersigned (s : State) (l : Last) : Bool :=
  let raw := l.assign.raw
  assignmentOk l.assign && l.assign.keyId ≠ 0 && match keyOf s 2 l.assign.keyId with
    | some k => s.sec.island ≠ 3 && Config.ecdsaVerify k (raw.take (raw.length - 96)) (raw.drop (raw.length - 96))
    | none => false

/-- Stage 4, in the order of its codes. pending: the DRAM assumption waits for the end of training (R114). -/
def stage4 (s : State) (i : Nat) (l : Last) (pending : Bool) : Nat :=
  let cs := assumptions s i l (pending || dramHolds s l)
  let others := ((rangeFrom 0 4).filter fun j => j ≠ i).filterMap (resident s)
  let timing := (0x040B, (others.filter (linked l)).all (sameTiming l))
  firstFail (cs.take 7 ++ [(0x0408, countersigned s l)] ++ cs.drop 7 ++ [timing])

/-- Every stage: 0, or the code of the first check that fails. -/
def loadCheck (s : State) (i : Nat) (img : Bytes) (pending : Bool) : Nat :=
  let a := stage1 img
  if a ≠ 0 then a
  else
    let b := stage2 s img
    if b ≠ 0 then b
    else
      let l := parseLast img
      let c := stage3 s img l
      if c ≠ 0 then c else stage4 s i l pending

/-! ### The assignment lock (R114, R445) -/

/-- A port that the lock disables stops its link and holds its lanes idle (R405): a link that was up leaves DL_Active, which is a
port reset (R421). -/
def disablePort (s : State) (p : Nat) : State :=
  let up := (portAt s p).link = 2
  let s := updPort s p fun q => { q with link := 3, disabled := true }
  if up then portReset s p 3 else s

/-- Slices bound and ports disabled as the assignment says (R405, R408). -/
def bindSlices (s : State) (a : Assignment) : State :=
  let s := each (enumFrom 0 a.portFlags) s fun s e => if bit e.2 0 then s else disablePort s e.1
  each a.slices s fun s e => updSlice s e.1 fun q => { q with st := .active, port := e.2.1, pasid := e.2.2 }

/-- Surfaces that no safety slice of the assignment supplies, or that do not fit, are reported (R199, R441). -/
def judgeSurfaces (s : State) : State :=
  match s.sentinel.atlas with
  | none => s
  | some a =>
    each a.outs s fun s o =>
      each (enumFrom 0 o.surfaces) s fun s e =>
        if safetySlice s e.2.slice && surfaceFits s o.out e.1 then s else report s 0x12 o.out effNone

/-- The assignment applied and locked. -/
def lockAssignment (s : State) (a : Assignment) : State :=
  let s := updSec (updLasts s fun l => { l with lock := some a }) fun q => { q with lockAt := some s.now }
  measure (judgeSurfaces (bindSlices s a)) 8 a.raw

/-- An accepted last: the first one locks the assignment; a later one that the dictionary loaded is measured in MR 9 (R428). -/
def acceptLast (s : State) (i : Nat) (img : Bytes) (pending byImage : Bool) : State :=
  let l := parseLast img
  let s := updSlot s i fun q => { q with st := .valid, last := some l, status := 0, image := img, dramPending := pending }
  if s.lasts.lock.isNone then lockAssignment s l.assign else if byImage then s else measure s 9 img

/-- A refused last (R113, R146). -/
def refuseLast (s : State) (i code : Nat) : State :=
  report (updSlot s i fun q => { q with st := .refused, last := none, status := code, image := [], dramPending := false })
    0x11 0 effNone

/-- A last of the running Plovram image placed in slot i at Bring-up (R114): judged at once but for the DRAM assumption of one
that declares a rate or an address. -/
def placeLast (s : State) (i : Nat) (img : Bytes) : State :=
  let l := parseLast img
  let pending := !(l.rates.isEmpty && l.highest = 0)
  let c := loadCheck s i img pending
  if c = 0 then acceptLast s i img pending true else refuseLast s i c

/-- Training has ended: the lasts that waited for it are judged (R114). -/
def judgeDram (s : State) : State :=
  each (rangeFrom 0 4) s fun s i =>
    let q := slotAt s i
    match q.dramPending, q.last with
    | true, some l =>
      if dramHolds s l then updSlot s i fun q => { q with dramPending := false } else refuseLast s i 0x0404
    | _, _ => s

/-- The key of Last Image. -/
def imageKey (i : Nat) : Nat := dkey 0x2211 (i + 1)

/-- A load through the dictionary ends (R113); the island's restart holds it back once the island has to verify. -/
def loadComplete (s : State) (i : Nat) : State :=
  let q := slotAt s i
  if q.st ≠ .loading || !writePending s (imageKey i) then s
  else if s.sec.island = 2 && stage1 q.image = 0 then s
  else
    let c := loadCheck s i q.image false
    let s := if c = 0 then acceptLast s i q.image false false else refuseLast s i c
    updateBeyond (finalResult s (imageKey i) (if c = 0 then stOk else stState) [])

def execLastLoadComplete (t : Rrp) (slot : Fin 4) (s : State) : Out := .next (finish s (loadComplete (atTime s t) slot.val))

/-! ### The first segment of a load and its loss (R113) -/

/-- Whether slot i runs. -/
def slotRuns (s : State) (i : Nat) : Bool := s.lasts.active = i + 1

/-- Whether a pending or armed switch names slot i; a scheduled margin switch names slot 3. -/
def switchNames (s : State) (i : Nat) : Bool :=
  (match s.lasts.request with
    | some q => q.slot = i
    | none => false) || (i = 2 && s.lasts.marginAt.isSome)

/-- Judged at the first WRITE_SEG: 0 where the load may begin. -/
def loadStatus (s : State) (i : Nat) : Nat := if slotRuns s i then stState else if switchNames s i then stBusy else stOk

/-- The first WRITE_SEG empties the slot. -/
def beginLoad (s : State) (i : Nat) : State :=
  updateBeyond (updSlot s i fun _ => { resetSlot with st := .loading })

/-! ### The operating point (R109, R511) -/

/-- VDD_CORE in mV and the shader clock in MHz of an operating point (Table 4-8, R511). -/
def pointMv (p : Nat) : Nat := if p = 1 then 800 else if p = 2 then 780 else if p = 3 then 760 else 740
def pointMhz (p : Nat) : Nat := if p = 1 then 1200 else if p = 2 then 1100 else if p = 3 then 1000 else 900

/-- The operating point of a last taken: a rail that has to rise and has not reached its target keeps the lower clock and is
recorded. -/
def takePoint (s : State) (p : Nat) (reached : Bool) : State :=
  let late := s.power.vcore < pointMv p && !reached
  let s := updPower s fun w => { w with vcore := pointMv p, vcorePending := late, clusterMHz := if late then w.clusterMHz else pointMhz p }
  if late then reportWith s 0x71 0 effNone 0x3200 else s

/-- The rail has reached its target: the shader clock rises. -/
def railArrives (s : State) (reached : Bool) : State :=
  if s.power.vcorePending && reached then
    match activeLast s with
    | some l => updPower s fun w => { w with vcorePending := false, clusterMHz := pointMhz l.margin }
    | none => updPower s fun w => { w with vcorePending := false }
  else s

/-! ### The changeover at (F, 0, 0) (R97, R115, R118, R167, R225, R236, R289) -/

/-- Every GPU window of the running last closes. -/
def closeWindows (s : State) : State :=
  each (rangeFrom 0 34) s fun s k =>
    closeWindow (updCtx s k fun c => { c with window := c.window.map fun w => { w with closes := s.now } }) k

/-- Whether a last binds a layer of an output to a slice. -/
def lastBinds (l : Last) (n k slice : Nat) : Bool := l.bindings.any fun b => b.out = n && b.layer = k && b.slice = slice

/-- What the new last does not carry ends: records that name an unbound layer, layers whose binding is gone. -/
def dropUnbound (s : State) (l : Last) : State :=
  each (rangeFrom 0 8) s fun s n =>
    let s := abandonFlips s n abUnbound fun r => r.descs.any fun d => !lastBinds l n d.layer r.slice
    emptyLayers s n fun k c => c.by_ = .flip && !lastBinds l n k c.slice

/-- Feeds suspended and resumed by the new last. -/
def suspendFeeds (s : State) (l : Last) : State :=
  each (rangeFrom 0 32) s fun s f =>
    if !(feedAt s f).joined then s
    else
      let n := feedOut s f
      let k := feedLayer s f
      let off := (planOf l n).isNone || l.bindings.any fun b => b.out = n && b.layer = k && b.slice ≠ 0xFF
      let s := updFeed s f fun q => { q with suspended := off }
      if off then emptyLayers s n fun j c => j = k && c.by_ = .feed f else s

/-- Outputs that only the old last runs stop, before the change. -/
def stopOutputs (s : State) (l : Last) : State :=
  each (rangeFrom 0 8) s fun s n =>
    match activePlan s n, planOf l n with
    | some p, none => stopOutput s n p
    | _, _ => s

/-- Outputs that only the new last runs start. -/
def startOutputs (s : State) (old : Option Last) (l : Last) : State :=
  each l.plans s fun s p =>
    if (old.bind fun o => planOf o p.out).isSome then s else startOutput s p.out p

/-- Touch channels whose plans the new last drops stop (R316); those that had none in the previous last start (R297). -/
def touchSwitch (s : State) (old : Option Last) : State :=
  each (rangeFrom 0 8) s fun s n =>
    if (burstPlans s n).isEmpty then loseTouch s n .notRunning false
    else if old.any fun l => l.bursts.any fun p => p.ch = n then s
    else startTouch s n

/-- The inactive timing set takes the rate of the next FREQ_CHANGE of the active last (R385), the present row's among them where they
are still to come; the rows come round with the cycle. -/
def prepareRate (s : State) (present : Bool) : State :=
  match activeLast s with
  | none => s
  | some l =>
    if s.mem.changing.isSome then s
    else
      let c := cycleAt s l s.now.frame
      let rows := l.rows.filter fun r => r.events.any fun e => e.kind = 5
      let later := fun (r : LastRow) => c < r.cycle || (r.cycle = c && (s.now.line < r.line || (present && r.line = s.now.line)))
      match (rows.find? later <|> rows.head?).bind fun r => r.events.find? fun e => e.kind = 5 with
      | some e => loadInactive s (l.rates.getD e.arg 0)
      | none => s

/-- QOS_CHANGED for every bound slice whose registers of QoS change (Table 15-5). -/
def qosEvents (s : State) (old : List (List Nat)) : State :=
  each (enumFrom 0 old) s fun s e =>
    if (sliceAt s e.1).st ≠ .unbound && qosRegs s e.1 ≠ e.2 then sliceEvent s e.1 6 else s

/-- Slot i (0 to 3) becomes the running slot at the present frame boundary. -/
def switchTo (s : State) (i : Nat) (reached : Bool) : State :=
  match resident s i with
  | none => s
  | some l =>
    let old := activeLast s
    let qos := (rangeFrom 0 32).map (qosRegs s)
    let s := stopOutputs (dropUnbound (closeWindows (closeSlots s)) l) l
    let f := s.now.frame
    let runs := (rangeFrom 0 8).map (staticRun s)
    let s := updLasts s fun q => { q with
      active := i + 1, lastService := if i < 3 then i + 1 else q.lastService, cycle := 0, cycleFrame := f, switchFrame := f,
      monitors := l.items.map (fun _ => freshMonitor), windowOpen := false, row := none }
    let s := each (enumFrom 0 runs) s fun s e => if staticRun s e.1 = e.2 then s else dropBase s e.1
    let s := outsideFaults (suspendFeeds (startOutputs s old l) l)
    let s := takePoint (setClusters s) l.margin reached
    let s := each (rangeFrom 0 32) s fun s k => if (ctxRecOf s k).isNone then takeGpuJobs k 4096 s else s
    let s := touchSwitch (hapticSwitch s) old
    let s := audioSwitch s (old.bind fun o => o.audio) l.audio f
    let s := qosEvents (prepareRate (lastRate s l) true) qos
    if i < 3 && slotHolds s i true then
      clearFault (updLasts s fun q => { q with marginBeyond := false }) 0x11 0
    else updateBeyond (if slotHolds s i true then clearFault s 0x11 0 else s)

/-- A device-initiated switch at frame f supersedes a requested switch for f or a later frame (R119). -/
def supersede (s : State) (f : Nat) : State :=
  match s.lasts.request with
  | some q =>
    if frameLater f q.frame then s
    else finalResult (updLasts s fun l => { l with request := none, result := 7 }) (dkey 0x2216 0) stState []
  | none => s

/-- Entry into Hold or Quiet (R115, R167, R289): every pending display record ends with MODE, every guest and feed layer is
emptied, and slot 4 runs. -/
def switchToHold (s : State) : State :=
  let s := each (rangeFrom 0 8) s fun s n => emptyLayers (abandonFlips s n abMode fun _ => true) n fun _ _ => true
  let s := switchTo (supersede s s.now.frame) 3 true
  let s := updLasts s fun l => { l with holdClass := marginClass s }
  each (rangeFrom 0 32) s fun s f => updFeed s f fun q =>
    { q with scaling := [], newest := none, shown := none, emptied := q.joined }

/-- The mode of a running slot (Table 4-9). -/
def slotMode (i : Nat) : Mode := if i = 3 then .hold else if i = 2 then .degraded else .run

/-- The mode that follows a switch in service: between Run and Degraded (R14). -/
def serviceMode (s : State) (i : Nat) : State :=
  if s.mode = .run || s.mode = .degraded then { s with mode := slotMode i } else s

/-! ### Requested switches (R116 to R119) -/

/-- A switch refused or not carried out. -/
def endRequest (s : State) (result : Nat) : State :=
  finalResult (updLasts s fun l => { l with request := none, result := result }) (dkey 0x2216 0) stState []

/-- A target frame that is neither in the past (R61) nor more than 2^24 frames ahead. -/
def frameReachable (s : State) (f : Nat) : Bool := frameLater f s.now.frame && frameDiff f s.now.frame ≤ 2 ^ 24

/-- The refusals of R116 that do not look at the time of arrival: a status, 0 where none applies. -/
def switchStatus (s : State) (v : Nat) : Nat :=
  let slot := bits v 7 0
  let f := bits v 63 32
  if s.mode ≠ .run && s.mode ≠ .degraded then stMode
  else if slot < 1 || 3 < slot || s.lasts.active = slot || bits v 31 8 ≠ 0 then stRange
  else if frameReachable s f then stOk else stRange

/-- (f - 1) mod 2^32. -/
def frameBefore (f : Nat) : Nat := (f + 2 ^ 32 - 1) % 2 ^ 32

/-- A request for this node (R116): pending until its outcome, or refused as too late after (F - 1, 0, 0). A request counts as passed
to the last executor at once, so a restart of the management core loses none (R13, log entry 195). -/
def switchRequest (s : State) (o : Origin) (v : Nat) : Nat × State :=
  let st := switchStatus s v
  let f := bits v 63 32
  if st ≠ 0 then (st, s)
  else if rrpBefore ⟨frameBefore f, 0, 0⟩ s.now then (stState, updLasts s fun l => { l with result := 3 })
  else
    let s := updLasts s fun l => { l with request := some ⟨f, bits v 7 0 - 1, false, false⟩ }
    let (_, s) := openTicket s o noMsg (dkey 0x2216 0) false
    (stPending, s)

def execLastSwitchRequest (t : Rrp) (o : Origin) (value : Nat) (s : State) : Out :=
  .next (finish s (rowWriteNum (atTime s t) o 0x2216 0 value fun s => switchRequest s o value))

/-- The frames of the device-initiated switches that are scheduled (R110, R115): the margin switch and an entry into Hold or
Quiet. -/
def deviceSwitchAt (s : State) : List Nat :=
  s.lasts.marginAt.toList ++ ((s.power.transition.filter fun t => !t.committed && (t.target = .hold || t.target = .quiet)).map
    fun t => t.frame).toList

/-- Why a requested switch cannot arm (R117): 0 where it can. -/
def armResult (s : State) (q : SwitchReq) : Nat :=
  let links := match resident s q.slot, activeLast s with
    | some a, some b => linked a b
    | _, _ => false
  if (resident s q.slot).isNone then 4
  else if !slotHolds s q.slot true then 5
  else if !links then 6
  else if (deviceSwitchAt s).any fun f => !frameLater f q.frame then 7 else 0

/-- A single node arms at (F - 1, 0, 0), or the switch is not carried out (R117). -/
def switchArm (s : State) : State :=
  match s.lasts.request with
  | some q =>
    if q.broadcast || q.armed || s.now ≠ ⟨frameBefore q.frame, 0, 0⟩ then s
    else
      let r := armResult s q
      if r = 0 then updLasts s fun l => { l with request := some { q with armed := true } }
      else report (endRequest s r) 0x11 0 effNone
  | none => s

def execLastSwitchArm (t : Rrp) (s : State) : Out := .next (finish s (switchArm (atTime s t)))

/-- An armed switch takes place at (F, 0, 0) (R118). -/
def switchExecute (s : State) (reached : Bool) : State :=
  match s.lasts.request with
  | some q =>
    if !q.armed || s.now ≠ ⟨q.frame, 0, 0⟩ then s
    else
      let s := updLasts (switchTo s q.slot reached) fun l => { l with request := none, result := 1 }
      finalResult (serviceMode s q.slot) (dkey 0x2216 0) stOk []
  | none => s

def execLastSwitchExecute (t : Rrp) (railReached : Bool) (s : State) : Out :=
  .next (finish s (switchExecute (atTime s t) railReached))

/-! ### The margin switch (R110, R111, R119) -/

/-- The margin switch is not made: EMCY 0xFF21, and Margin Beyond Lasts. -/
def noMarginSwitch (s : State) : State :=
  report (updLasts s fun l => { l with marginBeyond := true, marginAt := none }) 0x11 0 effNone

/-- Whether the reserve slot holds a valid last that is linked to the active one. -/
def reserveLinked (s : State) : Bool :=
  match resident s 2, activeLast s with
  | some r, some a => linked r a
  | _, _ => false

/-- The margin class has changed at the present frame: beyond the class of the active main last, the switch to the reserve is
scheduled for frame f + 2, or not made. -/
def marginChanged (s : State) : State :=
  let s := updateBeyond s
  match activeLast s with
  | some l =>
    if s.lasts.active = 4 || s.lasts.active = 3 || marginClass s ≤ l.margin || s.lasts.marginAt.isSome then s
    else if !reserveLinked s then noMarginSwitch s
    else
      let f := (s.now.frame + 2) % 2 ^ 32
      supersede (updLasts s fun q => { q with marginAt := some f }) f
  | none => s

/-- The frame before the margin switch (R111): the reserve's assumptions but for the margin class. -/
def judgeMargin (s : State) : State :=
  match s.lasts.marginAt with
  | some f =>
    if s.now.frame = frameBefore f && s.lasts.active ≠ 3 && s.lasts.active ≠ 4 && !(slotHolds s 2 false && reserveLinked s) then
      noMarginSwitch s
    else s
  | none => s

/-- The margin switch at its frame; it supersedes a request for that frame or a later one (R119). -/
def marginSwitch (s : State) (reached : Bool) : State :=
  match s.lasts.marginAt with
  | some f =>
    if s.now ≠ ⟨f, 0, 0⟩ then s
    else if s.lasts.active = 3 || s.lasts.active = 4 then updLasts s fun l => { l with marginAt := none }
    else
      let s := updLasts (switchTo (supersede s f) 2 reached) fun l => { l with marginAt := none, result := 8 }
      serviceMode s 2
  | none => s

def execMarginSwitch (t : Rrp) (railReached : Bool) (s : State) : Out :=
  .next (finish s (marginSwitch (atTime s t) railReached))

end Sys2Proof.Machine
end

