-- ==== Sys2Proof/Machine/Domains.lean ====
section
/-! DEFINITION. Power domains as a whole: what the blocks of a domain end before it goes off, what they start when it is
raised, and the isolation of a containment region (R16, R227, R230, R263, R283, R288, R316, R339, R368, R402, R421, R456,
R461). -/

namespace Sys2Proof.Machine

/-- Every touch channel lost (R316). -/
def loseAllTouch (s : State) : State := each (rangeFrom 0 8) s fun s n => loseTouch s n .lost true

/-- Every touch channel that can starts (R297). -/
def startAllTouch (s : State) : State := each (rangeFrom 0 8) s startTouch

/-- Both banks of a pair are lost: no last and no effect is valid, and every output stops with its timing kept (R394). -/
def pairLost (s : State) : State :=
  let s := updMem s fun m => { m with pairLost := true }
  let s := updLasts s fun l => { l with
    request := none, marginAt := none, slots := l.slots.map fun q => if q.last.isSome then { q with st := .refused } else q }
  let s := finalResult s (dkey 0x2216 0) stState []
  let s := each (rangeFrom 0 8) s fun s n =>
    let s := emptyLayers (abandonFlips s n abOutputStopped fun _ => true) n fun _ _ => true
    pairTrigger (updOut s n fun o => { o with lead := [], sealed := [], missing := [] }) n
  assertFault { s with spare := { s.spare with lead := [] } } 2

/-- The main die's view of the field die without its service: inputs, touch and haptic channels unknown (R11, Table 1-6). -/
def fieldUnknown (s : State) : State := { loseAllTouch (hapticsSafe s) with fioUnknown := true }

/-- FIELD goes off or is isolated: the VT40 links go with it (R316). -/
def fieldEnd (s : State) : State :=
  each (rangeFrom 2 6) (fieldUnknown s) fun s n => updTouch s n fun c => { c with linkUp := false, crcFails := [] }

/-- FIELD comes up: the links of the VT40s start with IDENTIFY (R322), and the channels that can start. -/
def fieldBegin (s : State) : State := startAllTouch (each (rangeFrom 2 6) s fun s n => vt40Send s n 0x04 [])

/-- The field inputs known again: the die link is up and FIELD in service. -/
def fieldKnown (s : State) : State := { s with fioUnknown := !s.dieLink || !domainOn s 1 || isolatedRegion s .field }

/-- What leaves the Ethernet ports and the hive link on its own way in: fragments of messages go. -/
def netEnd (s : State) : State := { s with net := { s.net with fragments := [] } }

/-- The part that the Ethernet ports take in 802.1AS when they come up (R65): the domain of PTP Domain, and priority1 255, which no
grandmaster-capable device has. -/
def ptpAnnounce (s : State) : State := each [0, 1] s fun s p => emit s (.ptp p (entryNum s 0x2204 0) 255)

/-- The work that the blocks of a domain end before it goes off. -/
def domainEnd (s : State) (d : Nat) : State :=
  match d with
  | 1 => fieldEnd s
  | 2 => fioDrive (abortChecks s false) true
  | 12 => endGpuJobs s
  | 13 => endMediaJobs s
  | 14 => audioOff s
  | 15 => each (rangeFrom 0 32) (each (rangeFrom 0 4) s fun s p => portReset s p 5) forcedComplete
  | 16 => abortChecks s true
  | 17 => netEnd s
  | _ => if 4 ≤ d && d < 12 then holdOutput s (d - 4) else s

/-- A domain lowered: its blocks end their work, its pads latch, its switches open. -/
def lowerDomain (s : State) (d : Nat) : State :=
  if vecAt s.power.domains d 0 = 1 || vecAt s.power.domains d 0 = 2 then dropDomain (domainEnd s d) d else s

/-- The output of a DISPn that is to go off stops under R225 first, where it still runs (R227). -/
def stopFor (s : State) (d : Nat) : State :=
  if d < 4 || 12 ≤ d || (outAt s (d - 4)).stopping.isSome then s
  else match activePlan s (d - 4) with
    | some p => stopOutput s (d - 4) p
    | none => s

/-- Domains asked for power by a transition: those whose blocks delay stay on for now. A DISPn whose output still sends its
last composed frame delays until the output has stopped (R225, R227). -/
def lowerAll (s : State) (ds : List Nat) (delaying : List (Fin 18)) : State :=
  each ds s fun s d =>
    let s := if domainOn s d then stopFor s d else s
    if !domainOn s d then s
    else if (delaying.any fun x => x.val = d) || outputStopping s d then
      askDomain s d true
    else lowerDomain s d

/-- What a domain that has come up starts. A DISPn's output starts at the next frame boundary (R227). -/
def domainBegin (s : State) (d : Nat) : State :=
  match d with
  | 1 => fieldBegin (hapticsReturn (fieldKnown s))
  | 2 => fioDrive s !s.dieLink
  | 12 => setClusters s
  | 13 => mediaOnBegin s
  | 14 => audioOn s
  | 15 => each (rangeFrom 0 4) s relink
  | 17 => ptpAnnounce s
  | _ => s

/-- A domain raised with its blocks started; one that is on, or left isolated, stays as it is. -/
def bringDomain (s : State) (d : Nat) : State :=
  if domainOn s d then s
  else
    let s := raiseDomain s d
    if domainOn s d then domainBegin s d else s

/-! ### Region isolation (R16) -/

/-- The regions that a domain's blocks stand in (Table 1-6). -/
def domainRegions (d : Nat) : List Region :=
  match d with
  | 0 => [.aon]
  | 1 => [.field]
  | 2 => [.mgmt, .time, .comb]
  | 3 => [.secure]
  | 12 => [.gpu]
  | 13 => [.media]
  | 14 => [.audio]
  | 15 => [.host 0, .host 1, .host 2, .host 3]
  | 16 => [.grp 0, .grp 1, .grp 2, .grp 3]
  | 17 => [.net]
  | _ => [outRegion (d - 4)]

/-- The domain whose state shows a region's isolation; none where the region is only a part of one. -/
def regionDomain : Region → Option Nat
  | .out n => some (4 + n.val)
  | .secure => some 3
  | .mgmt => some 2
  | .gpu => some 12
  | .media => some 13
  | .net => some 17
  | .audio => some 14
  | .field => some 1
  | _ => none

/-- The work inside a region ends, its pins go to their held or safe values. TIME stops where it stands (`timebaseOn`); a lost
COMB is lost as both banks of every pair; a group is lost by `loseGroup`. -/
def regionEnd (s : State) : Region → State
  | .out n => holdOutput s n.val
  | .spare => match s.spare.output with
    | some n => freeSpare s n
    | none => s
  | .secure => emptyLayerP (busyCalls (updSec s fun q => { q with island := 3 }))
  | .mgmt => domainEnd s 2
  | .gpu => endGpuJobs s
  | .media => endMediaJobs s
  | .host p => portReset s p.val 5
  | .audio => audioOff s
  | .field => fieldEnd s
  | .comb => pairLost s
  | .net => netEnd s
  | .aon => fioDrive { s with fioUnknown := true } true
  | .time => s
  | .grp _ => s

/-- The fault of a region whose isolation is a fault of its own (class 0x53): GUEST for MEDIA, else SERVICE. -/
def regionFault (s : State) : Region → State
  | .media => report s 0x53 0 effGuest
  | .audio => report s 0x53 0 effService
  | .net => report s 0x53 0 effService
  | .host p => report s 0x53 p.val effService
  | _ => s

end Sys2Proof.Machine
end

