-- ==== Sys2Proof/Machine/Transitions.lean ====
section
/-! DEFINITION. Mode transitions: their start, abort and end, the pending slot, the entry into Hold that the device makes by
itself, and what causes it (R14, R462 to R465, R484; R17, R377, R386, R388); the isolation of a region (R16). -/

namespace Sys2Proof.Machine

/-- Whether Mode Request may ask for a transition (Table 1-5). -/
def validTransition (a b : Mode) : Bool :=
  match a, b with
  | .run, .hold | .run, .quiet | .run, .service => true
  | .degraded, .hold | .degraded, .quiet | .degraded, .service => true
  | .hold, .run | .hold, .service => true
  | .quiet, .run | .quiet, .watch => true
  | .bringup, .service => true
  | .service, .bringup => true
  | _, _ => false

/-- Whether the margin class has worsened in Quiet or Hold beyond the last that ran before (R110, R465). -/
def worsened (s : State) : Bool :=
  s.lasts.holdClass < marginClass s && match resident s (s.lasts.lastService - 1) with
    | some l => l.margin < marginClass s
    | none => false

/-- The slot (0 to 3) that a return to service switches to (R115, R465): the one that ran last before, or the reserve. Where none
ran before, as after a failed training of DRAM, it is slot 1 (log entry 202). -/
def returnSlot (s : State) : Nat := if worsened s then 2 else s.lasts.lastService - 1

/-- The slot (0 to 3) that a transition switches to. -/
def transitionSlot (s : State) (target : Mode) : Nat := if target = .run then returnSlot s else 3

/-- R107 for the slot of a transition: the margin class is not asked of the reserve where R110 sends the device to it. -/
def transitionHolds (s : State) (target : Mode) : Bool :=
  slotHolds s (transitionSlot s target) !(target = .run && worsened s)

/-- The slot of a running transition judged at a frame boundary for the next frame. -/
def judgeTransition (s : State) : State :=
  match s.power.transition with
  | some tr => updLasts s fun l =>
      { l with verdict := { frame := s.now.frame, holds := transitionHolds s tr.target, before := l.verdict.holds } }
  | none => s

/-- What the frame before the present boundary found. -/
def switchJudged (s : State) : Bool :=
  if s.lasts.verdict.frame = s.now.frame then s.lasts.verdict.before else s.lasts.verdict.holds

/-- The outputs of the last of slot i. -/
def slotOutputs (s : State) (i : Nat) : List Nat :=
  match resident s i with
  | some l => l.plans.map fun p => p.out
  | none => []

/-- The domains that a return to service raises before its commit point (Table 17-7). -/
def returnDomains (s : State) : List Nat := [14, 13, 12] ++ (slotOutputs s (returnSlot s)).map dispDomain

/-- A return to service. -/
def isReturn (s : State) (target : Mode) : Bool := target = .run && (s.mode = .quiet || s.mode = .hold)

/-- DDR as Hold leaves it: in self-refresh, or off with its supply group (Hold DRAM Policy 1). -/
def parkDram (s : State) (off : Bool) : State :=
  if off then
    let s := updMem (lowerDomain s 16) fun m => { m with selfRefresh := false, off := true }
    let s := updMem { s with dramLost := true } fun m => { m with poisoned := [] }
    updPower s fun p => { p with enables := vecMod p.enables 5 fun _ => false, goods := vecMod p.goods 5 fun _ => false }
  else updMem s fun m => { m with selfRefresh := true }

/-- DDR taken out of self-refresh, or its group raised; after it was off, the first trained rate is in force (R386). -/
def wakeDram (s : State) : State :=
  let s := updPower s fun p => { p with enables := vecMod p.enables 5 fun _ => true, goods := vecMod p.goods 5 fun _ => true }
  updMem (bringDomain s 16) fun m => { m with
    selfRefresh := false, off := false, rate := if m.off then m.trained.headD 0 else m.rate }

/-- The steps of a transition before its commit point. -/
def preCommit (s : State) (target : Mode) : State :=
  if isReturn s target then each (returnDomains s) (wakeDram s) bringDomain
  else if target = .watch then each (rangeFrom 0 8) s pairTrigger
  else s

/-- Output n is configured as dimmed (Table 1-4). -/
def dimmed (s : State) (n : Nat) : Bool := entryNum s (0x304E + 0x100 * n) 0 = 1

/-- Those steps undone in reverse order (R462): what Hold or Quiet keeps on stays (Table 8-5). -/
def undoPreCommit (s : State) (target : Mode) : State :=
  if isReturn s target then
    let keep := if s.mode = .hold then 14 :: (slotOutputs s 3).map dispDomain
      else ((slotOutputs s 3).filter (dimmed s)).map dispDomain
    let s := each ((returnDomains s).reverse.filter fun d => !keep.contains d) s lowerDomain
    parkDram s (s.mode = .hold && entryNum s 0x210A 0 = 1)
  else s

/-- The domains that leaving Service lowers first, in order: the blocks that still write DRAM (R283, R421), and the DISPn, whose
outputs stop on a running raster. DDR and MGMT follow when these are off. -/
def serviceOrder : List Nat := [12, 13, 14, 15, 17] ++ rangeFrom 4 8

/-- A transition begins (R462): its frame is the first boundary at least 4 RL later. A switch to slot 4 supersedes a requested
one (R119). Leaving Service is committed at acceptance: every domain but AON, FIELD and SEC is lowered. -/
def startTransition (s : State) (target : Mode) (byDevice : Bool) : State :=
  let tr : Transition :=
    { origin := s.mode, target := target, committed := s.mode = .service,
      frame := nextBoundary s.tb.rate s.now 4 }
  let s := updPower (preCommit s target) fun p => { p with
    transition := some tr, result := if byDevice then p.result else 1, resultOf := if byDevice then p.resultOf else 1 }
  let ok := transitionHolds s target
  let s := updLasts s fun l => { l with verdict := { frame := s.now.frame, holds := ok, before := ok } }
  if target = .hold || target = .quiet then supersede s tr.frame
  else if tr.committed then lowerAll s serviceOrder []
  else s

/-- The request of the pending slot, judged against the mode in force (R463). -/
def takeSlot (s : State) : State :=
  match s.power.slot with
  | none => s
  | some (m, dev) =>
    let s := updPower s fun p => { p with slot := none }
    if validTransition s.mode m then startTransition s m dev
    else if s.power.resultOf = 2 then updPower s fun p => { p with result := 6, resultOf := 0 } else s

/-- The running transition ends with a result, and the slot's request is next. -/
def endTransition (s : State) (result : Nat) : State :=
  takeSlot (updPower s fun p => { p with
    transition := none, result := if p.resultOf = 1 then result else p.result,
    resultOf := if p.resultOf = 1 then 0 else p.resultOf })

/-- A running transition stopped before its commit point: the device stays in its origin mode (R462). -/
def stopTransition (s : State) (result : Nat) : State :=
  match s.power.transition with
  | some tr => endTransition (undoPreCommit s tr.target) result
  | none => s

/-- A request in the slot gives way to the device's own (R465). -/
def preemptSlot (s : State) : State :=
  updPower s fun p => { p with
    slot := none, result := if p.resultOf = 2 then 10 else p.result, resultOf := if p.resultOf = 2 then 0 else p.resultOf }

/-- The device enters Hold by itself (R465): at once where no transition runs, in place of one before its commit point, after
one past it, from the pending slot. In a mode that has no transition to Hold, nothing changes. -/
def deviceHold (s : State) : State :=
  let begin_ := fun (s : State) => if validTransition s.mode .hold then startTransition s .hold true else s
  match s.power.transition with
  | some tr =>
    if tr.target = .hold then s
    else
      let s := preemptSlot s
      if tr.committed then updPower s fun p => { p with slot := some (.hold, true) }
      else begin_ (stopTransition s 3)
  | none => begin_ s

/-- DRAM service is lost (R484): class 0x32, and Hold. -/
def loseDram (s : State) : State := deviceHold (report s 0x32 0 effDevice)

/-- One copy of the last executor outvoted (R17); a second fault before repair causes Hold. A mode without a way to Hold in Table 1-5
is kept (log entry 194). -/
def copyFault (s : State) : State :=
  let n := s.tb.copyFaults + 1
  let s := report (updTb s fun t => { t with copyFaults := n }) 0x05 0 (if n ≥ 2 then effDevice else effCovered)
  if n ≥ 2 then deviceHold s else s

def execTimebaseCopyFault (t : Rrp) (s : State) : Out := .next (finish s (copyFault (atTime s t)))

/-! ### Channel groups and rates (R377, R385, R386, R388, R484) -/

/-- A channel group is lost until the next Bring-up (R377, R484). -/
def loseGroup (s : State) (g : Nat) : State :=
  if groupLost s g || s.mem.bitsN = 0 then s
  else
    let s := updMem s fun m => { m with groups := vecMod m.groups g fun _ => 2 }
    let s := report s 0x31 g (if layersMirrored s then effCovered else effGuest)
    if serviceLost s then loseDram s else s

/-- A mirrored read repeated from the shadow; 16 late reads of a group within 1 ms lose it (R376, R377). -/
def mirrorReread (s : State) (addr : Nat) (cause : Fin 3) (secondFails : Bool) : State :=
  let s := rereadShadow s addr cause secondFails
  let g := groupOf s addr
  if 16 ≤ (s.mem.late.filter fun e => e.1 = g).length then loseGroup s g else s

def execMirrorReread (t : Rrp) (addr : Nat) (cause : Fin 3) (secondFails : Bool) (s : State) : Out :=
  .next (finish s (mirrorReread (atTime s t) addr cause secondFails))

def execChannelGroupLost (t : Rrp) (g : Fin 4) (s : State) : Out := .next (finish s (loseGroup (atTime s t) g.val))

/-- Oscillator compensation of a channel (R388): one that does not converge loses the group. -/
def compensation (s : State) (ch : Fin 16) (converged : Bool) : State :=
  if converged || !dramServing s then s else loseGroup s (ch.val / 4)

def execWckDqCompensation (t : Rrp) (ch : Fin 16) (converged : Bool) (s : State) : Out :=
  .next (finish s (compensation (atTime s t) ch converged))

/-- A change of rate ends: at the new rate with the other timing set in use, or back at the previous rate, recorded and
counted (R385, R386). A return to the previous rate that fails too loses DRAM service (R484). -/
def freqComplete (s : State) (ok back : Bool) : State :=
  match s.mem.changing with
  | none => s
  | some r =>
    let s := updMem s fun m => { m with changing := none }
    if ok then
      prepareRate (bump (updMem s fun m => { m with rate := r, setInUse := !m.setInUse }) 0x560C 0) false
    else
      let s := bump s 0x560D 0
      if back then prepareRate s false else loseDram s

def execFreqChangeComplete (t : Rrp) (ok back : Bool) (s : State) : Out :=
  .next (finish s (freqComplete (atTime s t) ok back))

/-! ### Region isolation (R16) -/

/-- A region isolated until the next Bring-up. -/
def isolate (s : State) (g : Region) : State :=
  if isolatedRegion s g then s
  else
    let s := regionFault (regionEnd s g) g
    let s := { s with isolated := g :: s.isolated }
    let s := match regionDomain g with
      | some d => if vecAt s.power.domains d 0 = 1 then isolateDomain s d else s
      | none => s
    match g with
    | .grp k => loseGroup s k.val
    | _ => s

def execRegionIsolate (t : Rrp) (g : Region) (s : State) : Out := .next (finish s (isolate (atTime s t) g))

end Sys2Proof.Machine
end

