-- ==== Sys2Proof/Machine/Ageing.lean ====
section
/-! DEFINITION. The ageing ledger: the four monitors, their grades, the margin class and its prediction (R486 to R489), and
the eye-margin steps of the DRAM channels (R388). -/

namespace Sys2Proof.Machine

/-- A Stored entry that the device itself sets: in force and committed (R21). -/
def setStored (s : State) (ix sub n : Nat) : State :=
  let s := setNum s ix sub n
  { s with store := SMap.set unsetVal s.store (dkey ix sub) (.num n) }

/-- The limits of classes A to D of monitor m (Table 18-5), in the units of MONITORS: path slack in 0.1 %, SRAM margin in mV,
eye width in 0.001 UI, drift in 0.01 ppm. -/
def classLimits (m : Nat) : List Int :=
  if m = 0 then [120, 80, 50, 20] else if m = 1 then [90, 70, 50, 30] else if m = 2 then [350, 300, 250, 200]
  else [200, 400, 600, 1000]

/-- Whether a value of monitor m meets a limit: drift lies below its limits, the others above theirs. -/
def meets (m : Nat) (v limit : Int) : Bool := if m = 3 then decide (v ≤ limit) else decide (limit ≤ v)

/-- The grade of a value: 1 to 4, or 5 beyond D (R486). -/
def gradeOf (m : Nat) (v : Int) : Nat :=
  match (enumFrom 1 (classLimits m)).find? fun e => meets m v e.2 with
  | some e => e.1
  | none => 5

/-- The worse of two values of monitor m. -/
def worseOf (m : Nat) (a b : Int) : Int := if m = 3 then (if a ≤ b then b else a) else if a ≤ b then a else b

/-- The evaluations for which a grade must hold (R488): 2 for the SRAM monitor, else 3. -/
def holdCount (m : Nat) : Nat := if m = 1 then 2 else 3

/-- The grade that has held for the latest evaluations of monitor m: the best of them; class A while there are fewer. -/
def heldGrade (m : Nat) (grades : List Nat) : Nat :=
  let latest := grades.take (holdCount m)
  if latest.length < holdCount m then 1 else latest.foldl Nat.min 4

/-- A worse margin class committed (R488). -/
def commitClass (s : State) (g : Nat) : State :=
  if g ≤ marginClass s then s else marginChanged (report (setStored s 0x5A00 0 g) 0x60 0 effNone)

/-- One evaluation of monitor m (0 path delay, 1 SRAM, 2 eye, 3 oscillator). -/
def evaluateMonitor (s : State) (m : Nat) (v : Int) : State :=
  let g := gradeOf m v
  let s := setStored (setNum s 0x5A02 (m + 1) (ofSint 16 v)) 0x5A03 (m + 1) g
  let s := if g = 5 then report s 0x61 0 effNone else s
  let worst := fun (x : Option Int) => match x with
    | some w => some (worseOf m w v)
    | none => some v
  let s := updInsp s fun d => { d with monitors := vecMod d.monitors m worst }
  let led := s.health.ledger
  let grades := (g :: vecAt led.grades m []).take 3
  let s := { s with health := { s.health with ledger := { led with
    today := vecMod led.today m worst, grades := vecMod led.grades m fun _ => grades } } }
  commitClass s (heldGrade m grades)

/-- The 64 path-delay monitors, in 0.1 % of 833 ps. -/
def pathDelay (s : State) (slacks : Vector Int 64) : State :=
  let s := each (enumFrom 1 slacks.toList) s fun s e => setNum s 0x5A04 e.1 (ofSint 16 e.2)
  evaluateMonitor s 0 (slacks.toList.foldl (fun a b => if b ≤ a then b else a) (slacks.toList.headD 0))

def execPathDelayEval (t : Rrp) (slacks : Vector Int 64) (s : State) : Out := .next (finish s (pathDelay (atTime s t) slacks))

/-- Oscillator drift in 0.01 ppm, measured while LOCKED. -/
def oscDrift (s : State) (drift : Int) : State :=
  if s.tb.st = .locked then evaluateMonitor s 3 (if drift < 0 then -drift else drift) else s

def execOscDriftEval (t : Rrp) (drift : Int) (s : State) : Out := .next (finish s (oscDrift (atTime s t) drift))

/-- One step of eye-margin measurement of a channel (R388): below the minimum of R487 the group is lost; the end of a full
sweep grades the worst width of the 16 channels. -/
def eyeMarginStep (s : State) (ch width height : Nat) (sweepEnd : Bool) : State :=
  if !dramServing s then s
  else
    let s := setNum s 0x5A05 (ch + 1) width
    let s := if width < 150 || height < 35 then loseGroup s (ch / 4) else s
    if sweepEnd then
      let ws := (rangeFrom 1 16).map fun i => entryNum s 0x5A05 i
      evaluateMonitor s 2 ((ws.foldl Nat.min (ws.headD 0) : Nat) : Int)
    else s

def execEyeMarginStep (t : Rrp) (ch : Fin 16) (width height : Nat) (sweepEnd : Bool) (s : State) : Out :=
  .next (finish s (eyeMarginStep (atTime s t) ch.val width height sweepEnd))

/-! ### Prediction (R489) -/

/-- The months until the least-squares line through daily values (oldest first) crosses a limit; none with fewer than 30
days, or where the line does not trend toward it. A line already past the limit gives 0. -/
def monthsTo (m : Nat) (ys : List Int) (limit : Int) : Option Nat :=
  let n : Int := ys.length
  let xy := enumFrom 0 ys
  let sx : Int := (xy.map fun e => (e.1 : Int)).sum
  let sxx : Int := (xy.map fun e => (e.1 : Int) * e.1).sum
  let sy : Int := ys.sum
  let sxy : Int := (xy.map fun e => (e.1 : Int) * e.2).sum
  -- slope b / d, and the line today y / (n d)
  let d := n * sxx - sx * sx
  let b := n * sxy - sx * sy
  let y := sy * d + b * (n * (n - 1) - sx)
  let toward := if m = 3 then decide (0 < b) else decide (b < 0)
  if ys.length < 30 || !toward then none
  else
    -- days = (limit - y / (n d)) / (b / d) = (limit n d - y) / (n b)
    let num := (limit * n * d - y) * (if b < 0 then -1 else 1)
    let den := n * (if b < 0 then -b else b)
    some ((num * 100).fdiv (den * 3044)).toNat

/-- The day's worst values join the ledger, and Predicted Months is computed: the limit is that of the class after the current
one, or of D in class D. -/
def predictDaily (s : State) : State :=
  let led := s.health.ledger
  let daily := vecMap led.daily fun m ds => match vecAt led.today m none with
    | some v => (v :: ds).take 90
    | none => ds
  let next := Nat.min 3 (marginClass s)
  let months := (rangeFrom 0 4).filterMap fun m =>
    monthsTo m (vecAt daily m []).reverse ((classLimits m).getD next 0)
  let s := { s with health := { s.health with ledger := { led with daily := daily, today := Vector.replicate 4 none } } }
  setStored s 0x5A01 0 (months.foldl Nat.min 0xFFFF)

def execPredictionDaily (t : Rrp) (s : State) : Out := .next (finish s (predictDaily (atTime s t)))

end Sys2Proof.Machine
end

