-- ==== Sys2Proof/Machine/Plovram.lean ====
section
/-! DEFINITION. Plovram images (R495 to R501, Tables 19-1 to 19-4): layout and checks, the components of a bank, guard tables
(R469) and configuration-store components. -/

namespace Sys2Proof.Machine

def updUpdate (s : State) (f : Update → Update) : State := { s with update := f s.update }

/-- A frame of the current Bring-up counted (R506). -/
def countBootFrame (s : State) : State := updUpdate s fun u => { u with bootFrames := u.bootFrames + 1 }

/-- Bank b (0 A, 1 B). -/
def bankAt (s : State) (b : Nat) : Bank := vecAt s.update.banks b ⟨0, [], []⟩
def updBank (s : State) (b : Nat) (f : Bank → Bank) : State := updUpdate s fun u => { u with banks := vecMod u.banks b f }

/-- A component of a bank: its data and the digest that the directory gives. -/
def bankComp (s : State) (b ty inst : Nat) : Option (Bytes × Bytes) :=
  ((bankAt s b).comps.find? fun c => c.1 = ty && c.2.1 = inst).map fun c => c.2.2

/-! ### The boot state (R504) -/

/-- The copy of the boot state in use: the one with the higher counter. -/
def bootCopy (s : State) : Nat :=
  let c := fun i => (vecAt s.update.boot i ⟨0, 0, false, 0⟩).counter
  if c 0 < c 1 then 1 else 0

def bootState (s : State) : BootState := vecAt s.update.boot (bootCopy s) ⟨0, 0, false, 0⟩

/-- A change of the boot state, written to the other copy. -/
def setBoot (s : State) (f : BootState → BootState) : State :=
  let b := f (bootState s)
  updUpdate s fun u => { u with boot := vecMod u.boot (1 - bootCopy s) fun _ => { b with counter := (bootState s).counter + 1 } }

/-- The confirmed bank and the other one. -/
def confirmedBank (s : State) : Nat := (bootState s).confirmed.val
def inactiveBank (s : State) : Nat := 1 - confirmedBank s

/-! ### Directory (Tables 19-1, 19-2) -/

/-- A directory entry: type, instance, offset, length, digest. -/
structure CompEntry where
  ty : Nat
  inst : Nat
  off : Nat
  len : Nat
  digest : Bytes
  deriving DecidableEq, Repr

/-- The directory of an image. -/
def compDir (img : Bytes) : List CompEntry :=
  (records img 64 48 (u16 img 6)).map fun r => ⟨u8 r 0, u8 r 1, u32 r 8, u32 r 12, sub r 16 32⟩

/-- The components that an image carries. -/
def compsOf (img : Bytes) : List (Nat × Nat × Bytes × Bytes) :=
  (compDir img).map fun e => (e.ty, e.inst, sub img e.off e.len, e.digest)

/-- A full image carries a firmware component (R497). -/
def fullImage (img : Bytes) : Bool := (compDir img).any fun e => e.ty ≤ 3

/-- The components lie one after another from position p to the signature at position z, with zero padding between them. -/
def compPlaces (img : Bytes) (z : Nat) : Nat → List CompEntry → Bool
  | p, [] => p ≤ z && zeros img p (z - p)
  | p, e :: es => p ≤ e.off && zeros img p (e.off - p) && compPlaces img z (e.off + e.len) es

/-- BAD_LAYOUT: R495 and R496. -/
def layoutOk (img : Bytes) : Bool :=
  let d := compDir img
  let n := u16 img 6
  let z := img.length - 96
  zeros img 36 28 && u16 img 30 ≤ 1 && 1 ≤ n && n ≤ 16 && 64 + 48 * n + 96 ≤ img.length &&
    (rangeFrom 0 n).all (fun i => zeros img (66 + 48 * i) 6) && rising (d.map fun e => e.ty * 256 + e.inst) &&
    d.all (fun e =>
      1 ≤ e.ty && e.ty ≤ 7 && (if e.ty = 5 then 1 ≤ e.inst && e.inst ≤ 4 else e.inst = 0) && e.off % 64 = 0 && 1 ≤ e.len &&
        e.off + e.len ≤ z) &&
    compPlaces img z (64 + 48 * n) (sortBy (fun e => e.off) d)

/-- BINDING: family, stepping, unit. -/
def bindingHolds (s : State) (img : Bytes) : Bool :=
  u16 img 12 = entryNum s 0x2000 1 && bit (u16 img 14) (entryNum s 0x2000 2) && unitOk (sub img 16 8)

/-- The key that KEY_ID names, of a kind that the image allows (R497); a full image carries all three firmware components. -/
def imageKeyOf (s : State) (img : Bytes) : Option Bytes :=
  let id := u32 img 32
  let all := [1, 2, 3].all fun t => (compDir img).any fun e => e.ty = t
  if fullImage img then if all && 0x8000 ≤ id then Config.romKey id else none
  else if id < 0x8000 then keyOf s 1 id else Config.romKey id

/-- The components that a partial image inherits from the confirmed bank (R497). -/
def inherited (s : State) (img : Bytes) : List (Nat × Nat × Bytes × Bytes) :=
  (bankAt s (confirmedBank s)).comps.filter fun c => !((compDir img).any fun e => e.ty = c.1 && e.inst = c.2.1)

/-- The components that the bank holds once the image is valid. -/
def fullComps (s : State) (img : Bytes) : List (Nat × Nat × Bytes × Bytes) :=
  compsOf img ++ (if fullImage img then [] else inherited s img)

/-! ### Component formats -/

/-- A guard step (Table 17-10). -/
def guardStepOf (r : Bytes) : GuardStep :=
  { source := u8 r 0, index := u8 r 1, compare := u8 r 2, count := u8 r 3, threshold := sint 32 (u32 r 4), action := u8 r 8,
    next := u8 r 9 }

/-- The steps of a guard table. -/
def guardSteps (b : Bytes) : List GuardStep := (records b 16 16 (u8 b 5)).map guardStepOf

/-- The largest INDEX of a source, which is 0 for a source without one. -/
def indexLimit (source : Nat) : Nat :=
  if source = 3 || source = 4 then 15 else if source = 5 then 7 else if source = 6 then 3 else 0

/-- The rules of R469 for a guard table. -/
def guardTableOk (b : Bytes) : Bool :=
  let n := u8 b 5
  16 ≤ b.length && b.take 4 = ascii "GRD1" && u8 b 4 = 1 && 1 ≤ n && n ≤ 32 && 10 ≤ u16 b 6 && u16 b 6 ≤ 10000 &&
    b.length = 16 + 16 * n && u32 b 8 = crcOf crc32c (b.drop 16) && zeros b 12 4 &&
    (rangeFrom 0 n).all (fun i => zeros b (26 + 16 * i) 6) &&
    (guardSteps b).all fun g =>
      g.source ≤ 7 && g.index ≤ indexLimit g.source && g.compare ≤ 5 && 1 ≤ g.count && g.action ≤ 3 &&
        (if g.action = 2 then g.next < n else g.next = 0)

/-- The code of a data type (Table 2-1). -/
def typeCode : DType → Nat
  | .bool => 0x01
  | .i8 => 0x02
  | .i16 => 0x03
  | .i32 => 0x04
  | .u8 => 0x05
  | .u16 => 0x06
  | .u32 => 0x07
  | .str => 0x09
  | .oct => 0x0A
  | .dom => 0x0F
  | .u64 => 0x1B

/-- The size of a fixed-size type of Table 2-1; 0 for one of variable size, none for no code. -/
def codeSize (c : Nat) : Option Nat :=
  if c = 1 || c = 2 || c = 5 then some 1 else if c = 3 || c = 6 then some 2 else if c = 4 || c = 7 || c = 8 then some 4
  else if c = 0x15 || c = 0x1B then some 8 else if c = 9 || c = 0x0A || c = 0x0F then some 0 else none

/-- A record of a configuration-store component (R501): entry, type, FORCE, value. -/
structure StoreRec where
  ix : Nat
  sub : Nat
  ty : Nat
  force : Bool
  value : Bytes
  deriving DecidableEq, Repr

/-- One record; none where its form is wrong. Variable-size values always stand by offset and length (log entry 36). -/
def storeRecOf (b r : Bytes) : Option StoreRec :=
  match codeSize (u8 r 3) with
  | none => none
  | some k =>
    let v := if k = 0 then sub b (u32 r 8) (u32 r 12) else sub r 8 k
    let ok := if k = 0 then u32 r 8 + u32 r 12 ≤ b.length else zeros r (8 + k) (8 - k)
    if ok && u8 r 4 ≤ 1 && zeros r 5 3 && r.length = 16 then some ⟨u16 r 0, u8 r 2, u8 r 3, bit (u8 r 4) 0, v⟩ else none

/-- The records of a component from position p: they end where the first longer value stands, or at the end (log entry 36);
none where one has a wrong form. n bounds their number. -/
def storeRecs (b : Bytes) : Nat → Nat → Nat → Option (List StoreRec)
  | 0, _, _ => some []
  | n + 1, p, stop =>
    if stop ≤ p then some []
    else
      let r := sub b p 16
      match storeRecOf b r with
      | none => none
      | some q =>
        let stop := if codeSize (u8 r 3) = some 0 then Nat.min stop (u32 r 8) else stop
        (storeRecs b n (p + 16) stop).map fun qs => q :: qs

/-- The records of a configuration-store component. -/
def storeComp (b : Bytes) : Option (List StoreRec) := storeRecs b (b.length / 16 + 1) 0 b.length

/-- Whether a component passes its own format checks (0x0C0A). -/
def compOk (s : State) (c : Nat × Nat × Bytes × Bytes) : Bool :=
  let b := c.2.2.1
  match c.1 with
  | 4 => guardTableOk b
  | 5 => stage1 b = 0 && stage2 s b = 0 && stage3 s b (parseLast b) = 0
  | 6 => atlasCheck b = 0
  | 7 => (storeComp b).isSome
  | _ => true

/-- The checks of Table 19-4: 0, or the code of the first that fails. -/
def imageCheck (s : State) (img : Bytes) : Nat :=
  let key := imageKeyOf s img
  let signed := match key with
    | some k => Config.ecdsaVerify k (img.take (img.length - 96)) (img.drop (img.length - 96))
    | none => false
  firstFail
    [(0x0C01, img.take 4 = ascii "PLV1"), (0x0C02, sub img 4 2 = [1, 0]),
     (0x0C03, 64 ≤ img.length && u32 img 8 = img.length && img.length ≤ 0x2000000), (0x0C04, layoutOk img),
     (0x0C05, bindingHolds s img), (0x0C06, s.sec.island ≠ 3 && key.isSome), (0x0C07, signed),
     (0x0C08, !fullImage img || s.update.floor ≤ u16 img 28),
     (0x0C09, (fullComps s img).all fun c => sha256 c.2.2.1 = c.2.2.2), (0x0C0A, (fullComps s img).all (compOk s))]

/-! ### The configuration store of an image on trial (R500, R501) -/

/-- Entries kept outside the configuration store. -/
def outsideStore (ix : Nat) : Bool := (0x5A00 ≤ ix && ix ≤ 0x5BFF) || (0x5E00 ≤ ix && ix ≤ 0x5EFF)

/-- Whether a record names a Stored entry of its type with a value in its range. -/
def recFits (s : State) (q : StoreRec) : Bool :=
  match rowOf q.ix q.sub with
  | some r => r.per = .stored && typeCode r.ty = q.ty && !outsideStore q.ix && lengthOk r q.value.length &&
      (!isNum r || rangeOk s r (leNat q.value))
  | none => false

/-- The new copy of the store: FORCE records, then what the old copy holds, then the other records. -/
def trialStore (s : State) (recs : List StoreRec) : SMap DVal :=
  recs.foldl (fun m q =>
    let key := dkey q.ix q.sub
    let held := SMap.get unsetVal s.store key ≠ .unset
    match rowOf q.ix q.sub with
    | some r => if recFits s q && (q.force || !held) then SMap.set unsetVal m key (valueOf r q.value) else m
    | none => m) s.store

end Sys2Proof.Machine
end

