-- ==== Sys2Proof/Machine/Power.lean ====
section
/-! DEFINITION. The power controller (chapter 17; R512 to R517, R522): supplies, resets, the steps of Bring-up, mode requests and
transitions, the domain handshake. -/

namespace Sys2Proof.Machine

/-! ### Resets and supplies (R454, R460, R503, R512, R514) -/

/-- The key of the wake-failure record, which outlives a reset: it clears when Bring-up reaches service (Table 18-4). -/
def wakeKey : Nat := causeKey 0x70 0

/-- The health monitor after a reset: open records close into the history. Where the supplies were lost, records and history are
gone, and the day's record is what the latest checkpoint holds. -/
def healthReset (s : State) (supplied : Bool) : Health :=
  let h := s.health
  let wake := (openRecords s).find? fun r => r.key = wakeKey
  let closed := ((openRecords s).filter fun r => r.key ≠ wakeKey).map fun r => { r with st := .closed }
  { resetHealth with
    slots := vecMod resetHealth.slots 0 fun _ => wake
    history := if supplied then (closed ++ h.history).take 256 else []
    insp := if supplied || s.mode = .watch then h.insp else h.checkpoint.getD { resetInspection with day := h.insp.day }
    checkpoint := h.checkpoint, records := h.records, unsigned := h.unsigned, ledger := h.ledger
    supplyLost := h.supplyLost || (!supplied && h.checkpoint.isSome) }

/-- The secure side after a reset: fuses, key area, grants and a latched tamper stay (R430 to R432, R442, R450). -/
def secureReset (q : Secure) : Secure :=
  { resetSecure with
    lifeCycle := q.lifeCycle, divFuse := q.divFuse, ownerHash := q.ownerHash, keys := q.keys, counter := q.counter,
    grants := q.grants, reserve := q.reserve, tamperLatched := q.tamperLatched, debug := if q.lifeCycle = 1 then 15 else 0 }

/-- The power controller's own state after a reset: AON keeps running. FAULT_N stays asserted for a failed wake. -/
def powerReset (p : Power) : Power :=
  { p with
    transition := none, slot := none, result := 0, resultOf := 0, domains := vecMod (Vector.replicate 18 0) 0 fun _ => 1
    asking := [], heldPads := 0, offAnswer := 0, switchTries := Vector.replicate 18 0, step := 0, vcore := 800,
    vcorePending := false, clusterMHz := 0, fioSafe := true, faultN := p.faultN.filter fun r => r = 1 }

/-- Boot flash after a reset: a load under way leaves its bank refused, a scheduled activation is gone (R499). -/
def updateReset (u : Update) : Update :=
  { u with
    banks := u.banks.map fun b => if b.st = 1 then { b with st := 3 } else b
    activation := none, status := 0, st := 0, bootFrames := 0 }

/-- The configuration store that a restart takes: a restore of defaults asked for at 0x1011 leaves only what no store component
may set (Table 2-11, R501). -/
def restoredStore (m : SMap DVal) : SMap DVal :=
  if SMap.get unsetVal m (dkey 0x1011 1) = .unset then m else m.filter fun e => outsideStore (e.1 / 256)

/-- Every domain but AON reset (R503, R514): Stored entries hold their committed values, every other entry its default; input
pins keep their levels, and the FIO bank is safe. supplied: the supplies stayed. -/
def resetDomains (s : State) (m : Mode) (supplied : Bool) : State :=
  let s := fioDrive s true
  let store := restoredStore s.store
  let rate := rateOf (match SMap.get unsetVal store (dkey 0x2200 0) with
    | .num n => n
    | _ => 1)
  driveAllGates { State.reset with
    haptics := vecMap State.reset.haptics fun h q => { q with gates := (hapticAt s h).gates, trig := (hapticAt s h).trig }
    pending := s.pending, mode := m, dieLink := s.dieLink, dict := store, store := store, dram := s.dram, dramLost := true
    emitted := s.emitted, free := s.free, net := { resetNet with syncStopped := s.net.syncStopped }
    tb := { resetTimebase with rate := rate }, fio := s.fio, fioUnknown := s.fioUnknown
    outs := vecMap State.reset.outs fun n o => { o with hpd := (outAt s n).hpd }
    media := { resetMedia with captures := s.media.captures.map fun c => { c with hpdHold := false, job := none, toFeeds := false } }
    ports := vecMap State.reset.ports fun p q => { q with perst := (portAt s p).perst }
    sec := secureReset s.sec, power := powerReset s.power, update := updateReset s.update, health := healthReset s supplied }

/-- Every enable dropped (R460, R467). -/
def dropEnables (s : State) : State :=
  driveAllGates (updPower s fun p => { p with
    enables := Vector.replicate 6 false, goods := Vector.replicate 6 false, oscEnable := false, oscReady := false,
    waking := false })

/-- The device is Off (R460): a transition and the pending request are discarded. -/
def goOff (s : State) : State := dropEnables (resetDomains s .off false)

/-- Every supply group is good and the oscillator ready. -/
def supplied (s : State) : Bool := s.power.goods.toList.all id && s.power.oscReady

/-- Bring-up begins once the groups are good and RESET_N is released (R457, R512); its step 1 may have to wait (R522). -/
def beginBringup (s : State) : State :=
  if supplied s && !s.power.resetN && (s.mode = .off || s.mode = .watch) then { s with mode := .bringup } else s

/-- The raising of the groups begins with FLD (R454). -/
def raiseGroups (s : State) (tries : Nat) : State :=
  updPower (dropEnables s) fun p => { p with
    waking := true, wakeTries := tries, enables := vecMod p.enables 0 fun _ => true }

/-- The next group's enable, once what it waits for is there: HV after FLD, CORE after HV and the oscillator, and so on. -/
def nextGroup (s : State) : State :=
  if !s.power.waking then s
  else match (rangeFrom 0 6).find? fun g => !vecAt s.power.enables g false with
    | some g =>
      let before := g = 0 || vecAt s.power.goods (g - 1) false
      if before && (g ≠ 2 || s.power.oscReady) then
        updPower s fun p => { p with enables := vecMod p.enables g fun _ => true }
      else s
    | none => if supplied s then beginBringup (updPower s fun p => { p with waking := false }) else s

/-- A group's power-good rises. OSC_EN follows FLD. -/
def groupGood (s : State) (g : Nat) : State :=
  if !vecAt s.power.enables g false then s
  else
    nextGroup (driveAllGates (updPower s fun p => { p with
      goods := vecMod p.goods g fun _ => true, oscEnable := p.oscEnable || g = 0 }))

def execPowerGood (g : Fin 6) (s : State) : Out := .next (finish s (groupGood s g.val))

/-- The oscillator is ready. -/
def oscillatorReady (s : State) : State :=
  if s.power.oscEnable then nextGroup (updPower s fun p => { p with oscReady := true }) else s

def execOscReady (s : State) : Out := .next (finish s (oscillatorReady s))

/-- What the wait that ran out was for: 1 to 6 the groups FLD to DRAM, 7 the oscillator. -/
def waitCause (s : State) : Nat :=
  match (rangeFrom 0 6).find? fun g => vecAt s.power.enables g false && !vecAt s.power.goods g false with
  | some g => g + 1
  | none => 7

/-- A frame of the guard's responder on CAN0 (R471). -/
def guardSend (s : State) (cob : Nat) (data : Bytes) : State := emit s (.can 0 cob data)

/-- The last attempt has failed (R467): Watch, FAULT_N, the cause, EMCY 0xFF71 once, and the holdoff. -/
def wakeFailed (s : State) : State :=
  let cause := waitCause s
  let s := { dropEnables s with mode := .watch }
  let s := updPower s fun p => { p with
    wakeFailCause := cause, wakeHoldoff := true, faultN := if p.faultN.contains 1 then p.faultN else 1 :: p.faultN
    guard := { p.guard with wakeFailures := p.guard.wakeFailures + 1 } }
  let r : FaultRec :=
    { key := wakeKey, effect := effDevice, st := .active, reporter := s.power.nodeId, devices := 1, first := s.now,
      latest := s.now, echoes := 0, code := 0xFF71, decided := true, clearedAt := s.now }
  let s := match findRecord s wakeKey with
    | some (i, r) => putRecord s i (some { r with st := .active, echoes := r.echoes + 1 })
    | none => putRecord s 0 (some r)
  guardSend s (0x80 + s.power.nodeId) (emcyBytes s ⟨0xFF71, wakeKey, effDevice, s.now, s.power.nodeId, none⟩)

/-- A group or the oscillator is not ready in time: the sequence is repeated from FLD, or fails. -/
def waitRanOut (s : State) : State :=
  if !s.power.waking then s
  else if s.power.wakeTries < entryNum s 0x2109 3 then raiseGroups s (s.power.wakeTries + 1)
  else wakeFailed s

def execPowerGoodTimeout (s : State) : Out := .next (finish s (waitRanOut s))

def execWakeHoldoffExpire (s : State) : Out :=
  .next (finish s (updPower s fun p => { p with wakeHoldoff := false }))

/-- AON leaves its power-on reset (R512). -/
def aonReset (s : State) (epoHigh : Bool) : State :=
  if vecAt s.power.domains 0 0 = 1 then s
  else
    let s := setDomain s 0 1
    if epoHigh then raiseGroups s 0 else s

def execAonPowerOnReset (epoHigh : Bool) (s : State) : Out := .next (finish s (aonReset s epoHigh))

def aonOn (s : State) : Bool := vecAt s.power.domains 0 0 = 1

/-- EPO_N asserted, or a thermal trip: the island has closed its journals, every enable drops (R460, R522). -/
def execEpoAssert (s : State) : Out := .next (finish s (if aonOn s then goOff s else s))

def thermalTrip (s : State) : State := updPower (goOff s) fun p => { p with tripped := true }

def execThermalTrip (s : State) : Out := .next (finish s (if aonOn s then thermalTrip s else s))

def execTripCoolDown (s : State) : Out := .next (finish s (updPower s fun p => { p with tripped := false }))

/-- A supply group fails (R460): 0 is AON, 1 to 6 the groups FLD to DRAM. Without AON nothing of the device is left but its
flash and fuses. -/
def groupFails (s : State) (g : Nat) : State :=
  if g = 0 then
    let s := goOff s
    updPower s fun _ => { resetPower with tripped := s.power.tripped }
  else if vecAt s.power.goods (g - 1) false then goOff s else s

def execSupplyGroupFail (g : Fin 7) (s : State) : Out := .next (finish s (groupFails s g.val))

/-- RESET_N low: every domain but AON is reset, in any mode (R514). -/
def resetAssert (s : State) : State :=
  if !aonOn s || s.power.resetN then s
  else updPower (resetDomains s .off true) fun p => { p with resetN := true, wakeCause := 0, waking := false }

def execResetAssert (s : State) : Out := .next (finish s (resetAssert s))

/-- RESET_N released (R512): the groups are raised where they are off, or Bring-up begins. -/
def resetRelease (s : State) (epoHigh : Bool) : State :=
  if !aonOn s || !s.power.resetN then s
  else
    let s := updPower s fun p => { p with resetN := false }
    if supplied s then beginBringup s else if epoHigh && !s.power.waking then raiseGroups s 0 else s

def execResetRelease (epoHigh : Bool) (s : State) : Out := .next (finish s (resetRelease s epoHigh))

/-- A reset that the device makes itself: a full Bring-up follows, as from a reset release (R430, R503, R506). -/
def deviceReset (s : State) : State := resetDomains s .bringup true

/-! ### Bring-up (R457, Tables 16-2 and 17-4) -/

/-- The boot stops: every output stays dark until the next reset (R427). -/
def stopBoot (s : State) : State := assertFault (updSec s fun q => { q with bootStopped := true }) 0

/-- An image on trial falls back (R504, R506): the confirmed bank with the old store. -/
def fallBack (s : State) (cause : Nat) : State :=
  let old := s.update.oldStore.getD s.store
  let s := updBank (setBoot s fun b => { b with trial := false }) (inactiveBank s) fun b => { b with st := 2 }
  let s := updUpdate s fun u => { u with fallbackCause := cause, fallbackReport := true, oldStore := none, st := 6 }
  updInsp { s with store := old } fun d => { d with updates := sat255 d.updates }

/-- A firmware component of a bank verifies: it is there and has its digest. -/
def firmwareOk (s : State) (b ty : Nat) : Bool :=
  match bankComp s b ty 0 with
  | some (data, digest) => sha256 data = digest
  | none => false

/-- The bank that the ROM selects (R504). -/
def selectBank (s : State) : State :=
  let b := bootState s
  let booted := fun (s : State) (k : Nat) => updUpdate s fun u => { u with booted := if k = 0 then 0 else 1 }
  let back := fun (s : State) (cause : Nat) =>
    let s := fallBack s cause
    booted { s with dict := s.store } (confirmedBank s)
  if !b.trial then booted s (confirmedBank s)
  else if b.trialBoots < 3 then
    let s := setBoot s fun b => { b with trialBoots := b.trialBoots + 1 }
    if firmwareOk s (inactiveBank s) 2 then
      updUpdate (booted s (inactiveBank s)) fun u => { u with st := 5 }
    else back s 4
  else back s 3

/-- A firmware component that verifies: of the booted bank, else of the other one; the boot stops where it fails in both banks
(R427). -/
def goodFirmware (s : State) (ty : Nat) : Option Bytes :=
  let b := s.update.booted.val
  [b, 1 - b].findSome? fun k => if firmwareOk s k ty then (bankComp s k ty 0).map fun c => c.1 else none

/-- A component of the booted image. -/
def runningComp (s : State) (ty inst : Nat) : Option Bytes := (bankComp s s.update.booted.val ty inst).map fun c => c.1

/-- A component measured; nothing where the image has none. -/
def measureComp (s : State) (mr ty inst : Nat) : State :=
  match runningComp s ty inst with
  | some b => measure s mr b
  | none => s

/-- Step 1: the straps, the ROM, the fuses, the bank, the island; a latched tamper's wipe. -/
def bringSec (s : State) (straps : Nat) : State :=
  let s := updPower s fun p => { p with sampled := ⟨straps % 64, bit straps 6, bit straps 7⟩ }
  let s := measure (measure (bringDomain s 3) 0 (Config.bootItem 0)) 0 (Config.bootItem 1)
  let mode := if s.sec.divFuse = 1 then 1 else if s.sec.divFuse = 2 then 2 else if s.power.sampled.division then 2 else 1
  let s := updSec s fun q => { q with divMode := mode }
  let s := if s.sec.tamperLatched then secureWipe (updSec s fun q => { q with tamperLatched := false }) 1 else s
  if s.sec.lifeCycle = 4 then stopBoot s
  else
    let s := selectBank s
    match goodFirmware s 2 with
    | none => stopBoot s
    | some b =>
      let s := measure s 1 b
      let s := updSec s fun q => { q with island := 1, mr1Digest := sha256 b }
      let (e, s) := takeFree (newChallenge s) 65536
      setNum s 0x1D09 0 e

/-- A guard table taken (R469); a refused one leaves no steps and a period of 100 ms. -/
def takeGuard (s : State) (b : Option Bytes) : State :=
  updPower s fun p => { p with guard := match b with
    | some b =>
      if guardTableOk b then { p.guard with tableState := 1, period := u16 b 6, steps := guardSteps b }
      else { p.guard with tableState := 2, period := 100, steps := [] }
    | none => { p.guard with tableState := 0, period := 100, steps := [] } }

/-- Step 2: the field-die firmware and the guard table, FIELD. -/
def bringField (s : State) : State :=
  match goodFirmware s 3 with
  | none => stopBoot s
  | some b => takeGuard (measureComp (measure (bringDomain s 1) 3 b) 4 4 0) (runningComp s 4 0)

/-- The store of an image's first trial boot (R501). -/
def trialBegin (s : State) : State :=
  if (bootState s).trial && s.update.oldStore.isNone then
    let new := match (runningComp s 7 0).bind storeComp with
      | some rs => trialStore s rs
      | none => s.store
    let keep := s.dict.filter fun e => SMap.get unsetVal s.store e.1 = .unset
    { updUpdate s fun u => { u with oldStore := some s.store } with
      store := new, dict := new.foldl (fun m e => SMap.set unsetVal m e.1 e.2) keep }
  else s

/-- The stored gamma tables and matrices in force before the first latch (R153, R157). -/
def takeTables (s : State) : State :=
  each (rangeFrom 0 8) s fun s n =>
    let mats := (rangeFrom 0 16).map fun k => (k, stagedMatrix s n k)
    let gamma := if SMap.get unsetVal s.dict (dkey (0x3006 + 0x100 * n) 0) = .unset then none else some (entryBytes s (0x3006 + 0x100 * n) 0)
    updOut s n fun o => { o with
      gammaForce := gamma,
      matForce := (mats.filter fun e => e.2 ≠ identityMatrix).foldl (fun v e => vecMod v e.1 fun _ => some e.2) o.matForce }

/-- What the entries written before Bring-up put in force (R62, R374, R375, R378). -/
def takeConfig (s : State) : State :=
  let ranges := fun (ix n : Nat) => ((rangeFrom 1 n).map fun i => declaredRange (entryNum s ix i)).filter fun r => r.2 ≠ 0
  let s := updMem s fun m => { m with
    masks := (rangeFrom 1 8).map fun i => entryNum s 0x5603 i, mirrors := ranges 0x5604 16, eccs := ranges 0x5605 8 }
  takeTables (updTb s fun t => { t with rate := rateOf (entryNum s 0x2200 0) })

/-- The timebase looks for a source (Table 3-5): ACQUIRING, the cadence that of the frame where the raster stands (R75). -/
def timebaseBegins (s : State) : State :=
  updTb s fun t => { t with st := .acquiring, active := 0, stepDue := false, expected := none, cadence := cadenceOf s s.now.frame }

/-- The inspection record at Bring-up (R490): a day lost with the supplies is closed from its checkpoint; time in Watch and wake
failures enter the open record. -/
def inspectionBringup (s : State) : State :=
  let s := if s.health.supplyLost then closeInspection s 4 0 else s
  let s := { s with health := { s.health with supplyLost := false } }
  let g := s.power.guard
  let s := updInsp s fun d => { d with
    modeCounts := vecMod d.modeCounts 0 fun n => n + g.watchMs, wakeFailures := Nat.min 255 (d.wakeFailures + g.wakeFailures) }
  updPower s fun p => { p with guard := { p.guard with watchMs := 0, wakeFailures := 0 } }

/-- The CANopen boot-up message on each enabled bus (R47). -/
def bootUp (s : State) : State :=
  canSend { s with net := { s.net with nmt := .preOperational } } (0x700 + nodeIdOf s) [0]

/-- Step 3: the configuration store, the division, MGMT and its firmware; the SRAM monitor (Table 18-5). A rate that makes 0x1006
invalid stops SYNC (R46). -/
def bringMgmt (s : State) (sramMv : Int) : State :=
  match goodFirmware s 1 with
  | none => stopBoot s
  | some b =>
    let s := measure (trialBegin s) 6 (Config.bootItem 6)
    let s := updSec s fun q => if keysUsable s then { q with grantsInForce := q.grants, reserveInForce := q.reserve } else q
    let s := timebaseBegins (takeConfig (bringDomain (measure s 2 b) 2))
    let period := entryNum s 0x1006 0
    let s := { s with net := { s.net with
      syncStopped := s.net.syncStopped || (period ≠ 0 && syncFrames s.tb.rate period = 0) } }
    sendDeferred (bootUp (evaluateMonitor (inspectionBringup s) 1 sramMv))

/-- A last of the image placed in slot i, measured (Table 16-2, steps 7 and 8). -/
def bringLast (s : State) (i : Nat) : State :=
  match runningComp s 5 (i + 1) with
  | some b => placeLast (measure s 7 b) i b
  | none => s

/-- Engines that fail the band test of Bring-up (R525): the lowest-numbered is replaced by S. -/
def engineTests (s : State) (fails : List (Fin 8)) : State :=
  let ns := (rangeFrom 0 8).filter fun n => fails.any fun f => f.val = n
  let s := each ns s fun s n => report s 0x20 n effCovered
  match ns with
  | n :: _ => updOut { s with spare := { s.spare with output := some n } } n fun o => { o with takeover := .selfTest }
  | [] => s

/-- Step 4: the atlas, the lasts in the order of R114, the gains, the hold last's outputs and AUDIO. -/
def bringPicture (s : State) (fails : List (Fin 8)) : State :=
  let s := match runningComp s 6 0 with
    | some b => placeAtlas (measure s 5 b) b
    | none => s
  let s := gainsBringup (each [3, 0, 1, 2] (engineTests s fails) bringLast)
  each (14 :: (slotOutputs s 3).map dispDomain) s bringDomain

/-- The hold last becomes active at the first frame boundary after it is accepted (R114). -/
def holdStart (s : State) : State :=
  if s.mode = .bringup && 4 ≤ s.power.step && s.lasts.active = 0 && slotHolds s 3 true then switchTo s 3 true else s

/-- The slot that Bring-up ends in (R114): slot 1 if it holds, else slot 3, else slot 2. -/
def bringupSlot (s : State) : Option Nat := [0, 2, 1].find? fun i => slotHolds s i true

/-- Step 8: MEDIA, GFX and the DISPn of the last to come; the cluster test (R263). -/
def bringGuests (s : State) (fails : List (Fin 12)) : State :=
  let i := (bringupSlot s).getD 3
  let s := each ([13, 12] ++ (slotOutputs s i).map dispDomain) s bringDomain
  let m := match resident s i with
    | some l => namedClusters l
    | none => 0
  let s := each (rangeFrom 0 12) s fun s c => updCluster s c fun q => { q with on := bit m c }
  each fails s fun s c =>
    if bit m c.val then report (updCluster s c.val fun q => { q with isolated := true }) 0x52 c.val effGuest else s

/-- Bring-up has reached Run, Degraded or Hold (R467, R506). -/
def reachService (s : State) : State :=
  let s := clearFault (updPower s fun p => { p with faultN := p.faultN.filter fun r => r ≠ 1 }) 0x70 0
  if s.update.fallbackReport then
    report (updUpdate s fun u => { u with fallbackReport := false }) 0x80 0 effNone
  else s

/-- Step 9: the switch to the main or reserve last at a frame boundary; where none holds, the device stays in Bring-up until a
load brings one. -/
def bringService (s : State) (reached : Bool) : State :=
  if s.mem.bitsN = 0 || rrpPos s.now ≠ 0 then s
  else
    let first := s.power.step = 8
    let s := updPower s fun p => { p with step := 9 }
    match bringupSlot s with
    | some i => reachService { switchTo s i reached with mode := slotMode i }
    | none => if first then updateBeyond (report s 0x11 0 effNone) else s

/-- A step of Bring-up, once the step before it is done. -/
def bringupStep (s : State) (k straps : Nat) (selfTestFails : List (Fin 8)) (clusterFails : List (Fin 12)) (sramMv : Int)
    (reached : Bool) : State :=
  let p := s.power
  if s.mode ≠ .bringup || s.sec.bootStopped || p.transition.isSome || !(k = p.step + 1 || (k = 9 && p.step = 9)) then s
  else
    let done := fun (s : State) => updPower s fun p => { p with step := k }
    match k with
    | 1 => if p.tripped then s else done (bringSec s straps)
    | 2 => done (bringField s)
    | 3 => done (bringMgmt s sramMv)
    | 4 => done (bringPicture s selfTestFails)
    | 5 => done s
    | 6 => done (bringDomain s 16)
    | 7 => done (bringDomain (bringDomain s 15) 17)
    | 8 => if s.mem.bitsN = 0 then s else done (bringGuests s clusterFails)
    | 9 => bringService s reached
    | _ => s

def execBringupStep (t : Rrp) (step straps : Nat) (selfTestFails : List (Fin 8)) (clusterFails : List (Fin 12))
    (sramMv : Int) (railReached : Bool) (s : State) : Out :=
  .next (finish s (bringupStep (atTime s t) step straps selfTestFails clusterFails sramMv railReached))

/-- N of a density in GiB per package (Table 14-1); 0 for any other. -/
def densityBits (d : Nat) : Nat := if d = 4 then 34 else if d = 8 then 35 else if d = 16 then 36 else 0

/-- DRAM training ends (R114, R371): the waiting lasts are judged, and a failure takes the device to Hold where the hold last was
accepted. -/
def dramTraining (s : State) (density : Vector Nat 4) (allPass : Bool) : State :=
  if s.mode ≠ .bringup || s.power.step < 6 || s.mem.bitsN ≠ 0 || !domainOn s 16 then s
  else
    let d := vecAt density 0 0
    let ok := allPass && densityBits d ≠ 0 && density.toList.all fun x => x = d
    if ok then
      let rates := listedRates s
      let s := setNum s 0x5600 0 (4 * d)
      judgeDram (updMem s fun m => { m with
        bitsN := densityBits d, trained := rates, rate := rates.headD 0, groups := Vector.replicate 4 1 })
    else
      let s := judgeDram s
      if slotHolds s 3 true then
        let s := reachService { report s 0x11 0 effDevice with mode := .hold }
        parkDram (updAudio s fun a => { a with held := true }) (entryNum s 0x210A 0 = 1)
      else s

def execDramTrainingComplete (t : Rrp) (density : Vector Nat 4) (allPass : Bool) (s : State) : Out :=
  .next (finish s (dramTraining (atTime s t) density allPass))

/-! ### Mode requests (R462, R463, R465) -/

/-- The mode that a value of Mode Request asks for. -/
def requestedMode (v : Nat) : Option Mode :=
  if v = 1 then some .watch else if v = 2 then some .quiet else if v = 3 then some .bringup else if v = 4 then some .run
  else if v = 6 then some .hold else if v = 7 then some .service else none

/-- The result of the latest write, settled at once. -/
def settle (s : State) (r : Nat) : State := updPower s fun p => { p with result := r, resultOf := 0 }

/-- A write of Mode Request: its status and effect. auth: the path is set in Service Paths. -/
def modeRequest (s : State) (v : Nat) (auth : Bool) : Nat × State :=
  let ref := match s.power.transition with
    | some tr => tr.target
    | none => s.mode
  let held := match s.power.slot with
    | some (_, dev) => dev
    | none => false
  match requestedMode v with
  | none => (stMode, settle s 7)
  | some m =>
    if held then (stState, settle s 10)
    else if (s.power.transition.any fun tr => tr.target = m) && (v ≠ 3 || s.mode = .service) then
      (stOk, updPower s fun p => { p with result := 1, resultOf := 1 })
    else if !validTransition ref m || (v = 3 && s.mode ≠ .service) then (stMode, settle s 7)
    else if m = .service && !(bit s.sec.debug 0 || auth) then (stState, settle s 8)
    else match s.power.transition with
      | none => (stOk, startTransition s m false)
      | some tr =>
        if !tr.committed && (tr.origin = m || (m = .run && tr.origin = .degraded)) then
          (stOk, settle (stopTransition (settle s 3) 3) 3)
        else (stOk, updPower s fun p => { p with slot := some (m, false), result := 4, resultOf := 2 })

/-- A write of Mode Request through a path; the power controller isolated answers an error (R16, log entry 198). -/
def modeWrite (s : State) (p : Path) (v : Nat) : Nat × State :=
  if isolatedRegion s .aon then (stState, s) else modeRequest s v (bit (entryNum s 0x2005 0) (pathBit p))

def execModeRequest (t : Rrp) (path : Path) (value : Nat) (s : State) : Out :=
  .next (finish s (rowWriteNum (atTime s t) ⟨path, 0, 0, 0⟩ 0x2002 0 value fun s => modeWrite s path value))

/-! ### Commit and end of a transition (R115, R464, Table 17-7) -/

/-- The transition is past its commit point. -/
def committed (s : State) : State :=
  updPower s fun p => { p with transition := p.transition.map fun tr => { tr with committed := true } }

/-- HEALTHY_N is released on every paired output (R210). -/
def releaseHealthy (s : State) : State := each (rangeFrom 0 8) s pairTrigger

/-- The latest switch was device-initiated. -/
def deviceSwitched (s : State) : State := updLasts s fun l => { l with result := 8 }

/-- DISPn whose output does not satisfy p. -/
def otherDisps (p : Nat → Bool) : List Nat := ((rangeFrom 0 8).filter fun n => !p n).map dispDomain

/-- The switch to slot 4 of an entry into Quiet or Hold; it fails where slot 4 does not hold. -/
def commitHold (s : State) (hold : Bool) (delaying : List (Fin 18)) : State :=
  if !switchJudged s || (resident s 3).isNone then stopTransition (report s 0x11 0 effNone) 9
  else
    let s := committed (deviceSwitched (switchToHold s))
    if hold then
      let s := updAudio { s with mode := .hold } fun a => { a with held := true }
      lowerAll s ([12, 13] ++ otherDisps fun n => (slotOutputs s 3).contains n) delaying
    else lowerAll (releaseHealthy s) ([12, 13, 14] ++ otherDisps fun n => dimmed s n && (slotOutputs s 3).contains n) delaying

/-- The switch out of slot 4; it fails where retraining failed or the slot does not hold. -/
def commitReturn (s : State) (reached trained : Bool) : State :=
  let i := returnSlot s
  if !trained then stopTransition (report s 0x32 0 effDevice) 9
  else if !switchJudged s || (resident s i).isNone then stopTransition (report s 0x11 0 effNone) 9
  else
    let s := committed (deviceSwitched (switchTo s i reached))
    updAudio { s with mode := slotMode i } fun a => { a with held := false }

/-- Service is entered: every domain is on (Table 1-4). -/
def commitService (s : State) : State :=
  let s := committed { releaseHealthy s with mode := .service }
  each (rangeFrom 1 17) (wakeDram s) bringDomain

/-- The first handshake request of the way into Watch: the day's record closes, the node ID and the heartbeat time stand in AON
retention, and the domains are lowered in the order of Table 17-7. -/
def commitWatch (s : State) (delaying : List (Fin 18)) : State :=
  let s := committed (closeInspection s 2 0)
  let s := updPower s fun p => { p with nodeId := nodeIdOf s, heartbeatMs := entryNum s 0x1017 0 }
  let s := if s.update.activation.isSome then updUpdate s fun u => { u with activation := none, result := 4, st := 2 } else s
  lowerAll s ([17, 15] ++ (rangeFrom 4 8) ++ [16, 2, 3, 1]) delaying

/-- The commit point of the running transition: a frame boundary not before its frame, but for the way into Watch. -/
def transitionCommit (s : State) (reached trained : Bool) (delaying : List (Fin 18)) : State :=
  match s.power.transition with
  | none => s
  | some tr =>
    if tr.committed then s
    else if tr.target = .watch then commitWatch s delaying
    else if rrpPos s.now ≠ 0 || frameLater tr.frame s.now.frame then s
    else match tr.target with
      | .quiet => commitHold s false delaying
      | .hold => commitHold s true delaying
      | .run => commitReturn s reached trained
      | .service => commitService s
      | _ => s

def execTransitionCommit (t : Rrp) (railReached trained : Bool) (delaying : List (Fin 18)) (s : State) : Out :=
  .next (finish s (transitionCommit (atTime s t) railReached trained delaying))

/-- Watch is entered: EN5 to EN0 drop, and the guard starts (R464, R469, R470). -/
def enterWatch (s : State) : State :=
  let s := dropEnables (resetDomains { s with mode := .watch } .watch false)
  updPower s fun p => { p with
    result := 2, guard := { p.guard with
      hits := p.guard.steps.map fun _ => 0, prev := p.guard.steps.map fun _ => none, baselines := Vector.replicate 2 none,
      cycles := 0 } }

/-- Service is left: a full Bring-up, with FIELD and SEC still on. The request of the slot is kept. -/
def leaveService (s : State) : State :=
  let t := deviceReset (each [16, 2] s lowerDomain)
  updPower t fun p => { p with
    domains := vecMod (vecMod p.domains 1 fun _ => 1) 3 fun _ => 1, slot := s.power.slot, result := s.power.result,
    resultOf := s.power.resultOf }

/-- A transition ends, once no block delays it: DDR is parked on the way to Quiet or Hold, and the slot is next (R463). -/
def transitionComplete (s : State) : State :=
  match s.power.transition with
  | none => s
  | some tr =>
    if !tr.committed || s.power.asking.any fun a => a.2 then s
    else match tr.target with
      | .quiet => endTransition { parkDram s false with mode := .quiet } 2
      | .hold => endTransition (parkDram s (entryNum s 0x210A 0 = 1)) 2
      | .watch => enterWatch s
      | .bringup => endTransition (leaveService s) 2
      | _ => endTransition s 2

def execTransitionComplete (t : Rrp) (s : State) : Out := .next (finish s (transitionComplete (atTime s t)))

/-! ### The handshake (R458, R459, R468) -/

/-- Secure Claims: the domains that hold a claimed block (Table 17-6). -/
def claimed (s : State) (d : Nat) : Bool :=
  d = 0 || d = 3 || (d = 16 && dramServing s) ||
    (4 ≤ d && d < 12 && match s.sentinel.atlas with
      | some a => a.outs.any fun o => o.out = d - 4 && !(o.cells.isEmpty && o.surfaces.isEmpty)
      | none => false)

/-- Whether the active last uses a block of a domain (REFUSE_REQUIRED). MGMT holds the last executor (Table 1-1), which runs it. -/
def required (s : State) (d : Nat) : Bool :=
  match activeLast s with
  | none => false
  | some l =>
    match d with
    | 2 => true
    | 1 => !l.bursts.isEmpty || l.haptics.any fun h => h.enabled
    | 12 => namedClusters l ≠ 0
    | 13 => l.items.any fun i => i.requester = 0x48 || i.requester = 0x49
    | 14 => l.audio.isSome
    | 16 => !l.rates.isEmpty
    | _ => 4 ≤ d && d < 12 && (planOf l (d - 4)).isSome

/-- The answer of a request of the normal world shown at 0x2105. -/
def answerOff (s : State) (a : Nat) : State := updPower s fun p => { p with offAnswer := a }

/-- A write of Domain Off Request in Service. -/
def domainOff (s : State) (d : Nat) (ready : Bool) : Nat × State :=
  if s.mode ≠ .service then (stMode, s)
  else if isolatedRegion s .aon then (stState, s)
  else if 17 < d then (stRange, s)
  else if claimed s d then (stState, answerOff s 3)
  else if required s d then (stState, answerOff s 2)
  else if !domainOn s d then (stOk, answerOff s 0)
  else if ready then (stOk, answerOff (lowerDomain s d) 0)
  else (stOk, answerOff (askDomain s d false) 1)

def execDomainOffRequest (t : Rrp) (path : Path) (d : Nat) (ready : Bool) (s : State) : Out :=
  .next (finish s (rowWriteNum (atTime s t) ⟨path, 0, 0, 0⟩ 0x2104 0 d fun s => domainOff s d ready))

/-- A domain no longer asked. -/
def notAsked (s : State) (d : Nat) : State := updPower s fun p => { p with asking := p.asking.filter fun a => a.1 ≠ d }

def asked (s : State) (d : Nat) : Bool := s.power.asking.any fun a => a.1 = d

/-- A block that answered DELAY asked again. -/
def handshakeRetry (s : State) (d : Nat) (ready : Bool) : State :=
  if asked s d && ready && !outputStopping s d then answerOff (notAsked (lowerDomain s d) d) 0 else s

def execHandshakeRetry (t : Rrp) (d : Fin 18) (ready : Bool) (s : State) : Out :=
  .next (finish s (handshakeRetry (atTime s t) d.val ready))

/-- Delay Limit reached (R458): the block is forced, its region isolated and the fault recorded as the isolation's, and the domain
is lowered. -/
def delayLimit (s : State) (d : Nat) : State :=
  if !asked s d || !waited s (vecAt s.power.askedAt d zeroRrp) (entryNum s 0x2101 (d + 1)) then s
  else setDomain (dropDomain (each (domainRegions d) (notAsked s d) isolate) d) d 3

def execDelayLimitExpire (t : Rrp) (d : Fin 18) (s : State) : Out := .next (finish s (delayLimit (atTime s t) d.val))

/-- Switch-good of a domain does not arrive in time (R468): retried, or the domain stays off with its regions isolated; without
DDR, DRAM service is lost. -/
def switchGoodTimeout (s : State) (d : Nat) : State :=
  if s.mode = .watch || s.mode = .off || d = 0 || !domainOn s d then s
  else
    let n := vecAt s.power.switchTries d 0
    let tries := fun (s : State) (k : Nat) => updPower s fun p => { p with switchTries := vecMod p.switchTries d fun _ => k }
    if n < entryNum s 0x2109 3 then tries s (n + 1)
    else
      let s := isolateDomain (each (domainRegions d) (tries s 0) isolate) d
      if d = 16 then loseDram s else s

def execSwitchGoodTimeout (t : Rrp) (d : Fin 18) (s : State) : Out :=
  .next (finish s (switchGoodTimeout (atTime s t) d.val))

end Sys2Proof.Machine
end

