-- ==== Sys2Proof/Machine/Guard.lean ====
section
/-! DEFINITION. The guard (R466, R469 to R471): wake sources, the table that runs each period in Watch, and the responder on
CAN0. -/

namespace Sys2Proof.Machine

/-! ### Wake (R466, R467) -/

/-- A wake: from Watch the supply groups are raised; from Quiet, Run is requested. -/
def wake (s : State) (cause : Nat) : State :=
  let noted := updPower s fun p => { p with wakeCause := cause }
  if s.mode = .watch then
    if s.power.waking || s.power.wakeHoldoff then s else raiseGroups noted 0
  else if s.mode = .quiet then (modeRequest noted 4 false).2
  else s

/-- Wake pin p has held a level for 1 ms. -/
def wakePin (s : State) (p : Nat) (level : Bool) : State :=
  let s := updPower s fun q => { q with wakePins := vecMod q.wakePins p fun _ => level }
  let cfg := entryNum s 0x2106 (p + 1)
  if level ≠ bit cfg 1 then s
  else if s.mode = .watch then if bit cfg 0 then wake s (p + 1) else s
  else if s.mode = .quiet then if bit (entryNum s 0x2107 0) p then wake s (p + 1) else s
  else s

def execWakePin (p : Fin 4) (level : Bool) (s : State) : Out := .next (finish s (wakePin s p.val level))

/-- The node ID that a wake frame may name: the one kept in AON retention. -/
def wakeNode (s : State) : Nat := if s.mode = .watch then s.power.nodeId else nodeIdOf s

/-- A data frame on CAN0. -/
def wakeFrame (s : State) (cob : Nat) (data : Bytes) : State :=
  let named := u8 data 0 = 0 || u8 data 0 = wakeNode s
  if cob ≠ entryNum s 0x2108 2 || data.isEmpty || !named then s
  else if s.mode = .watch then if entryNum s 0x2108 1 = 1 then wake s 5 else s
  else if s.mode = .quiet then if bit (entryNum s 0x2107 0) 4 then wake s 5 else s
  else s

def execCan0WakeFrame (cob : Nat) (data : Bytes) (s : State) : Out := .next (finish s (wakeFrame s cob data))

/-! ### The table (R470) -/

def updGuard (s : State) (f : Guard → Guard) : State := updPower s fun p => { p with guard := f p.guard }

/-- The comparison of a step. The first cycle has no previous value, so nothing has changed. -/
def guardHolds (g : GuardStep) (prev : Option Int) (v : Int) : Bool :=
  match g.compare with
  | 0 => true
  | 1 => g.threshold < v
  | 2 => v < g.threshold
  | 3 => v = g.threshold
  | 4 => v ≠ g.threshold
  | 5 => match prev with
    | some p => g.threshold < (if p ≤ v then v - p else p - v)
    | none => false
  | _ => false

/-- The coarse scan of a panel: its value against the baseline, which the first cycle takes and which follows while the value
is below half of every threshold that names the panel. -/
def coarse (s : State) (panel : Nat) (r : Int) : Int × State :=
  let set := fun (s : State) (b : Int) => updGuard s fun g => { g with baselines := vecMod g.baselines panel fun _ => some b }
  match vecAt s.power.guard.baselines panel none with
  | none => (0, set s r)
  | some b =>
    let v := r - b
    let low := (s.power.guard.steps.filter fun g => g.source = panel + 1).all fun g => 2 * v < g.threshold
    (v, if low then set s (b + Config.guardTrack (r - b)) else s)

/-- The value of a step's source, from the samples of the period, and the samples left; one that was not given is free. -/
def guardSample (s : State) (g : GuardStep) (xs : List Int) : Int × State × List Int :=
  if g.source = 0 then (0, s, xs)
  else if g.source = 7 then (Int.ofNat s.power.guard.cycles, s, xs)
  else
    let (r, s) := match xs with
      | x :: _ => (x, s)
      | [] => let (n, s) := takeFree s (2 ^ 32); (sint 32 n, s)
    if g.source = 1 || g.source = 2 then
      let (v, s) := coarse s (g.source - 1) r
      (v, s, xs.drop 1)
    else (r, s, xs.drop 1)

/-- A step's count of consecutive hits. -/
def setHits (s : State) (i n : Nat) : State := updGuard s fun g => { g with hits := listUpd g.hits i fun _ => n }

/-- Steps from i on; n bounds the executions of a period, prev are the previous cycle's values. -/
def guardRun (prev : List (Option Int)) : Nat → Nat → List Int → State → State
  | 0, _, _, s => s
  | n + 1, i, xs, s =>
    match s.power.guard.steps[i]? with
    | none => s
    | some g =>
      let (v, s, xs) := guardSample s g xs
      let s := updGuard s fun q => { q with prev := listUpd q.prev i fun _ => some v }
      if guardHolds g ((prev[i]?).getD none) v then
        let k := Nat.min g.count ((s.power.guard.hits[i]?).getD 0 + 1)
        let s := setHits s i k
        if k < g.count then guardRun prev n (i + 1) xs s
        else match g.action with
          | 0 => guardRun prev n (i + 1) xs s
          | 1 => wake s (0x20 + i)
          | 2 => guardRun prev n g.next xs s
          | _ => s
      else guardRun prev n (i + 1) xs (setHits s i 0)

/-- A guard period in Watch. -/
def guardPeriod (s : State) (samples : List Int) : State :=
  if s.mode ≠ .watch || isolatedRegion s .aon then s
  else
    let s := guardRun s.power.guard.prev 32 0 samples s
    let (f, s) := if s.power.guard.cycles + 1 < 2 ^ 32 then (s.power.guard.cycles + 1, s) else takeFree s (2 ^ 32)
    updGuard s fun g => { g with cycles := f, watchMs := g.watchMs + g.period }

def execGuardPeriod (samples : List Int) (s : State) : Out := .next (finish s (guardPeriod s samples))

/-! ### The responder (R471) -/

/-- The input levels as one word (0x5F01). -/
def fioWord (s : State) : Nat :=
  (rangeFrom 0 16).foldl (fun a i => setBit a i (vecAt s.fio i ⟨false, zeroRrp⟩).level) 0

/-- The entries of Table 17-11 and their bytes. -/
def guardEntry (s : State) (ix sub : Nat) : Option Bytes :=
  let e := fun k => some (leBytes k (entryNum s ix sub))
  if ix = 0x1000 && sub = 0 then e 4
  else if ix = 0x1001 && sub = 0 then some (leBytes 1 (errorRegister s))
  else if ix = 0x1018 && 1 ≤ sub && sub ≤ 3 then e 4
  else if ix = 0x1018 && sub = 4 then some (leBytes 4 (Config.serialNumber % 2 ^ 32))
  else if ix = 0x2000 && sub = 1 then e 2
  else if ix = 0x2000 && sub = 2 then e 1
  else if ix = 0x2000 && sub = 3 then some (entryBytes s ix sub)
  else if ix = 0x2001 && sub = 0 then some (leBytes 1 (modeCode s.mode))
  else if ix = 0x2007 && sub = 0 then some (leBytes 1 s.power.wakeCause)
  else if ix = 0x2120 && sub = 0 then some (leBytes 1 s.power.wakeFailCause)
  else if ix = 0x2121 && sub = 0 then some (leBytes 4 s.power.guard.cycles)
  else if ix = 0x5F01 && sub = 0 then some (leBytes 2 (fioWord s))
  else none

/-- A USDO transfer in Watch, addressed to the node kept in AON retention. -/
def guardUsdo (s : State) (u : Usdo) : State :=
  if s.mode ≠ .watch || u.bus.val ≠ 0 || u.node ≠ s.power.nodeId then s
  else match if u.write then none else guardEntry s u.index u.sub with
    | some b => emit s (.usdo 0 u.index u.sub b)
    | none => emit s (.usdoAbort 0 u.index u.sub stMode)

def execGuardUsdoRead (u : Usdo) (s : State) : Out := .next (finish s (guardUsdo s u))

/-- The heartbeat of the responder, with NMT state stopped. -/
def guardHeartbeat (s : State) : State :=
  if s.mode ≠ .watch || s.power.heartbeatMs = 0 then s else guardSend s (0x700 + s.power.nodeId) [4]

def execGuardHeartbeat (s : State) : Out := .next (finish s (guardHeartbeat s))

end Sys2Proof.Machine
end

