-- ==== Sys2Proof/Machine/Update.lean ====
section
/-! DEFINITION. Firmware and configuration update (R499, R502 to R507): loading an image, activation, confirmation, fall-back. -/

namespace Sys2Proof.Machine

/-- The key of Update Image. -/
def updateKey : Nat := dkey 0x5C01 0

/-- An image is on trial. -/
def onTrial (s : State) : Bool := (bootState s).trial

/-- A bank's state (Table 19-6). -/
def setBank (s : State) (b st : Nat) : State := updBank s b fun q => { q with st := st }

/-! ### Loading (R499) -/

/-- Judged at the first WRITE_SEG: 0 where the load may begin. -/
def updateStatus (s : State) : Nat :=
  if s.update.activation.isSome then stBusy
  else if onTrial s then stState
  else if s.mode = .bringup then stMode else stOk

/-- The first WRITE_SEG marks the inactive bank as loading. -/
def beginUpdate (s : State) : State :=
  let s := updBank s (inactiveBank s) fun _ => ⟨1, [], []⟩
  updUpdate s fun u => { u with st := 1, status := 0 }

/-- The image is checked; the island's restart holds back the checks that it makes. -/
def updateComplete (s : State) : State :=
  let b := inactiveBank s
  let q := bankAt s b
  if q.st ≠ 1 || !writePending s updateKey then s
  else
    let c := imageCheck s q.image
    if s.sec.island = 2 && (c = 0 || 0x0C05 < c) then s
    else
      let ok := c = 0
      let comps := if ok then fullComps s q.image else []
      let s := updBank s b fun q => { q with st := if ok then 2 else 3, comps := comps }
      finalResult (updUpdate s fun u => { u with st := if ok then 2 else 3, status := c }) updateKey (if ok then stOk else stState) []

def execUpdateLoadComplete (t : Rrp) (s : State) : Out := .next (finish s (updateComplete (atTime s t)))

/-! ### Activation (R502, R503) -/

/-- Activation Result. -/
def activationResult (s : State) (r : Nat) : State := updUpdate s fun u => { u with result := r }

/-- The modes in which an activation is accepted. -/
def activationMode (s : State) : Bool := s.mode = .run || s.mode = .degraded || s.mode = .hold || s.mode = .quiet

/-- The refusals that do not look at the time of arrival: a status, 0 where none applies. -/
def activationStatus (s : State) (f : Nat) : Nat :=
  if !activationMode s then stMode
  else if s.update.activation.isSome then stBusy
  else if !frameReachable s f then stRange
  else if (bankAt s (inactiveBank s)).st ≠ 2 then stState
  else stOk

/-- A refusal for the state of the bank shows NO_IMAGE. -/
def noImage (s : State) (st : Nat) : State := if st = stState then activationResult s 5 else s

/-- An activation scheduled for frame f. -/
def schedule (s : State) (f : Nat) (broadcast : Bool) : State :=
  updUpdate s fun u => { u with activation := some (f, broadcast), st := 4 }

/-- A request for this node. -/
def activationRequest (s : State) (f : Nat) : Nat × State :=
  let st := activationStatus s f
  if st ≠ 0 then (st, noImage s st)
  else if rrpBefore ⟨frameBefore f, 0, 0⟩ s.now then (stState, activationResult s 3)
  else (stOk, schedule s f false)

def execUpdateActivationFrame (t : Rrp) (o : Origin) (value : Nat) (s : State) : Out :=
  .next (finish s (rowWriteNum (atTime s t) o 0x5C05 0 value fun s => activationRequest s value))

/-- The first reference frame boundary at or after a gPTP time in ns. Where the raster follows another source than 802.1AS, where
its boundaries lie against gPTP's is not known here: the frame before, the frame, or the next. -/
def frameAt (s : State) (ns : Nat) : Nat × State :=
  let (num, den) := frameRate s.tb.rate
  let n := (ns * num + den * 1000000000 - 1) / (den * 1000000000)
  let own := ofSint 32 ((n : Int) - s.tb.mismatch)
  if s.tb.active = 2 then (own, s)
  else
    let (k, s) := takeFree s 3
    ((own + 2 ^ 32 + k - 1) % 2 ^ 32, s)

/-- A request by time, which needs 802.1AS to be qualified. -/
def activationTime (s : State) (ns : Nat) : Nat × State :=
  if vecAt s.tb.status 1 .absent ≠ .qualified then (stMode, s)
  else
    let (f, s) := frameAt s ns
    activationRequest s f

def execUpdateActivationTime (t : Rrp) (o : Origin) (value : Nat) (s : State) : Out :=
  .next (finish s (rowWriteNum (atTime s t) o 0x5C06 0 value fun s => activationTime s value))

/-- An activation not carried out. -/
def dropActivation (s : State) (r : Nat) : State := updUpdate s fun u => { u with activation := none, result := r, st := 2 }

/-- The reset of a bank change (R503, R506); a fall-back still shows in Update State. -/
def bankReset (s : State) : State :=
  let t := deviceReset s
  updUpdate t fun u => { u with st := if s.update.st = 6 then 6 else u.st }

/-- An activation at (F, 0, 0): the inactive bank goes on trial, and the device resets. -/
def activate (s : State) : State :=
  match s.update.activation with
  | some (f, false) =>
    if s.now ≠ ⟨f, 0, 0⟩ then s
    else if s.power.transition.any fun tr => tr.committed && tr.target = .watch then dropActivation s 4
    else
      let b := inactiveBank s
      let s := setBoot (setBank s b 5) fun q => { q with trial := true, trialBoots := 0 }
      bankReset (updInsp (activationResult s 1) fun d => { d with updates := sat255 d.updates })
  | _ => s

def execUpdateActivate (t : Rrp) (s : State) : Out := .next (finish s (activate (atTime s t)))

/-! ### Confirmation and fall-back (R498, R505, R506) -/

/-- The floor after a confirmation: ROLLBACK of a full image that raises it. -/
def newFloor (s : State) (img : Bytes) : Nat :=
  if fullImage img && bit (u16 img 30) 0 then u16 img 28 else s.update.floor

/-- A write of Update Confirm. -/
def confirm (s : State) (value : Nat) : Nat × State :=
  if value ≠ 1 then (stRange, s)
  else if !onTrial s || !(s.mode = .run || s.mode = .degraded) then (stMode, s)
  else
    let b := inactiveBank s
    let s := setBank (setBank s (confirmedBank s) 2) b 4
    let s := setBoot s fun q => { q with confirmed := if b = 0 then 0 else 1, trial := false, trialBoots := 0 }
    (stOk, updUpdate s fun u => { u with oldStore := none, floor := newFloor s (bankAt s b).image, st := 0 })

def execUpdateConfirm (t : Rrp) (o : Origin) (value : Nat) (s : State) : Out :=
  .next (finish s (rowWriteNum (atTime s t) o 0x5C08 0 value fun s => confirm s value))

/-- Confirmation Frames have passed since the reset of the current Bring-up without a confirmation. -/
def confirmationTimeout (s : State) : State :=
  if onTrial s && entryNum s 0x5C09 0 ≤ s.update.bootFrames then bankReset (fallBack s 1) else s

def execConfirmationTimeout (t : Rrp) (s : State) : Out := .next (finish s (confirmationTimeout (atTime s t)))

/-- Bring-up of an image on trial does not reach service in 10 s. -/
def noServiceTimeout (s : State) : State := if onTrial s && s.mode = .bringup then bankReset (fallBack s 2) else s

def execNoServiceTimeout (s : State) : Out := .next (finish s (noServiceTimeout s))

end Sys2Proof.Machine
end

