-- ==== Sys2Proof/Machine/Outage.lean ====
section
/-! DEFINITION. What a part of the device loses and gets back: life-cycle changes and the atlas placed again (R397, R430), comb
banks (R390 to R395), the die link (R10, R11, R297), the management core (R12, R13, R52, R53). -/

namespace Sys2Proof.Machine

/-! ### Life cycle (R430) -/

/-- Whether a token's target may be entered, by the key that signs it (Table 16-3). -/
def tokenAllowed (s : State) (target keyId : Nat) : Bool :=
  (target = 3 && s.sec.lifeCycle = 2 && 0x8000 ≤ keyId) ||
    (target = 4 && (s.sec.lifeCycle = 2 || s.sec.lifeCycle = 3) && (0x8000 ≤ keyId || keyId = 0))

/-- A life-cycle token: the fuses are written, the secure comb wiped, and the device resets. Entry into Decommissioned erases
the key area and the inspection records (R493). -/
def lifeCycleToken (s : State) (r : Bytes) : Bool × State :=
  let target := u8 r 0 % 128
  if 128 ≤ u8 r 0 && tokenAllowed s target (u16 r 2) && responseSigned s r then
    let s := secureWipe (updSec s fun q => { q with lifeCycle := target, keys := if target = 4 then [] else q.keys }) 4
    let s := if target = 4 then { s with health := { s.health with records := [], unsigned := 0 } } else s
    (true, deviceReset s)
  else (false, renewChallenge s false)

def execLifeCycleToken (t : Rrp) (resp : Bytes) (s : State) : Out :=
  .next (finish s (debugMailbox (atTime s t) fun s => lifeCycleToken s resp))

/-! ### The atlas placed again (R397) -/

/-- After a wipe for a supply or clock glitch the island places the running image's atlas again. -/
def atlasReplace (s : State) : State :=
  let cause := entryNum s 0x5E04 1
  if !(cause = 2 || cause = 3) || s.sentinel.state ≠ 0 || !domainOn s 3 || s.sec.island ≠ 1 then s
  else match runningComp s 6 0 with
    | some b => clearFault (placeAtlas s b) 0x34 0
    | none => s

def execAtlasReplaceComplete (t : Rrp) (s : State) : Out := .next (finish s (atlasReplace (atTime s t)))

/-! ### The management core (R12, R13, R52, R53) -/

/-- The reply UNAVAILABLE to a request, by its header. -/
def unavailableReply (head : Bytes) (node : Nat) : Bytes :=
  head.take 1 ++ leBytes 1 (u8 head 1 % 128 + 128) ++ leBytes 1 node ++ sub head 3 3 ++ leBytes 2 0 ++ sub head 8 4 ++
    leBytes 4 stUnavailable

/-- A mailbox as the restart leaves it: a request that was BUSY is answered UNAVAILABLE. -/
def restartMailbox (s : State) (m : Mailbox) : Mailbox :=
  if m.busy then { m with ready := some (unavailableReply m.sent (nodeIdOf s)) } else m

/-- The loads of lasts and of an image that are open or not yet judged are lost. -/
def abortLoads (s : State) : State := abortUpdate (each (rangeFrom 0 4) s abortLoad)

/-- The management core restarts. Tickets, kept replies and open DOMAIN writes go. -/
def mgmtRestart (s : State) : State :=
  if !domainOn s 2 || s.net.restarting then s
  else
    let n := s.net
    let n := { n with
      restarting := true, tickets := [], sources := n.sources.map (fun q => { q with kept := [], openSeqs := [] })
      domains := [], mailboxes := n.mailboxes.map (restartMailbox s), forwards := [], fragments := [], canResult := none }
    let s := updInsp (abortLoads { s with net := n }) fun d => { d with mgmtRestarts := sat255 d.mgmtRestarts }
    report s 0x51 0 effService

def execMgmtCoreRestart (t : Rrp) (s : State) : Out := .next (finish s (mgmtRestart (atTime s t)))

/-- The restart completes: the boot-up message, then the EMCYs that fell due meanwhile, 0xFF61 among them. -/
def mgmtReturn (s : State) : State :=
  if !s.net.restarting then s
  else clearFault (sendDeferred (bootUp { s with net := { s.net with restarting := false } })) 0x51 0

def execMgmtRestartComplete (t : Rrp) (s : State) : Out := .next (finish s (mgmtReturn (atTime s t)))

/-! ### Comb banks (R390 to R395) -/

/-- A comb bank becomes faulty. Every bank holds words of the management core's region (R389, R390), so the core restarts. -/
def combFault (s : State) (b : Nat) : State :=
  if vecAt s.mem.banks b true then s
  else
    let s := updMem s fun m => { m with banks := vecMod m.banks b fun _ => true }
    let lost := vecAt s.mem.banks ((b + 32) % 64) false
    let s := report s 0x33 b (if lost then effDevice else effService)
    mgmtRestart (if lost then pairLost s else s)

/-- A bank of the secure comb: a lost pair b and b + 4 loses the atlas. -/
def secureBankFault (s : State) (b : Nat) : State :=
  if 8 ≤ b || vecAt s.mem.secBanks b true then s
  else
    let s := updMem s fun m => { m with secBanks := vecMod m.secBanks b fun _ => true }
    let lost := vecAt s.mem.secBanks ((b + 4) % 8) false
    let s := report s 0x33 (64 + b) (if lost then effProtected else effCovered)
    if lost then emptyLayerP s else s

/-- The corrected errors counted (R390), and the fault of a bank. -/
def combBank (s : State) (secureComb : Bool) (b corrected : Nat) : State :=
  if secureComb then if domainOn s 3 then secureBankFault s b else s
  else if domainOn s 2 then combFault (bumpBy s 0x5641 0 corrected) b else s

def execCombBankFault (t : Rrp) (secureComb : Bool) (b : Fin 64) (corrected : Nat) (s : State) : Out :=
  .next (finish s (combBank (atTime s t) secureComb b.val corrected))

/-! ### The die link (R10, R11, R297, R340) -/

/-- A transfer that still fails after three retries is a die-link fault. -/
def linkTransfer (s : State) (crcFails : Nat) : State :=
  if 3 < crcFails && s.dieLink && s.mode ≠ .off && s.mode ≠ .watch then report s 0x42 0 effService else s

def execDieLinkTransfer (t : Rrp) (crcFails : Nat) (s : State) : Out :=
  .next (finish s (linkTransfer (atTime s t) crcFails))

/-- The die link is lost: the field die's outputs are safe and its bursts stop; the main die marks its inputs unknown. The FIO bank
is of AON, so that this holds whether FIELD is on or not. In Off and Watch the main die has no power, and no link. -/
def dieLinkLost (s : State) : State :=
  if !s.dieLink || s.mode = .off || s.mode = .watch then s
  else
    let s := fieldUnknown { s with dieLink := false }
    report (fioDrive s true) 0x42 0 effService

def execDieLinkLoss (t : Rrp) (s : State) : Out := .next (finish s (dieLinkLost (atTime s t)))

/-- The die link is back: inputs are known, channels start again. -/
def dieLinkBack (s : State) : State :=
  if s.dieLink then s
  else
    let s := fieldKnown { s with dieLink := true }
    let s := fioDrive s !domainOn s 2
    if domainOn s 1 then startAllTouch (hapticsReturn s) else s

def execDieLinkRestored (t : Rrp) (s : State) : Out := .next (finish s (dieLinkBack (atTime s t)))

end Sys2Proof.Machine
end

