-- ==== Sys2Proof/Machine/Barrier.lean ====
section
/-! DEFINITION. The swap barrier (R87, R88): the frame-targeted writes that every device of a hive carries out on one frame. -/

namespace Sys2Proof.Machine

def updHive (s : State) (f : Hive → Hive) : State := { s with hive := f s.hive }

/-- The kinds of action of a BARRIER cell, whose codes the manual does not give (DESIGN CHOICE, log entry 37: safe). -/
def kindSwitch : Nat := 1
def kindUpdate : Nat := 2

/-- The entry that an action of a kind is pending on. -/
def kindKey (kind : Nat) : Nat := if kind = kindSwitch then dkey 0x2216 0 else dkey 0x5C05 0

/-- The number of devices in the hive: 1 alone; the hive size where this device knows it; else a free number that counts this
device. -/
def hiveCount (s : State) : Nat × State :=
  if !s.hive.enumerated then (1, s)
  else if s.hive.size ≠ 0 then (s.hive.size, s)
  else
    let (k, s) := takeFree s (64 - s.hive.pos)
    (s.hive.pos + 1 + k, s)

/-- The nodes of a hive of n devices strapped alike (R54). -/
def nodesOf (s : State) (n : Nat) : List Nat :=
  if !s.hive.enumerated then [nodeIdOf s]
  else (rangeFrom 0 n).map fun h => (s.power.sampled.nodeId + h) % 64 + 1

/-- The payload of a BARRIER cell (Table 3-8). -/
def barrierPayload (action target kind node : Nat) : Bytes :=
  leBytes 1 action ++ leBytes 4 target ++ leBytes 1 kind ++ leBytes 1 node

/-- A BARRIER cell on the forward and reverse lanes; a device that stands alone sends none (R88). -/
def sendBarrier (s : State) (action dest target kind : Nat) : State :=
  if !s.hive.enumerated then s
  else
    let p := barrierPayload action target kind (nodeIdOf s)
    let s := sendCell s false (hiveCell s 0x04 dest false p)
    sendCell s true (hiveCell s 0x04 dest true p)

/-- The coordinator receives a broadcast too late: after (F - 2, L_ref - 1, 0). -/
def barrierLate (s : State) (f : Nat) : Bool :=
  frameReachable s f && rrpBefore ⟨frameBefore (frameBefore f), lrefOf s - 1, 0⟩ s.now

/-- The barrier of a target and kind. -/
def findBarrier (s : State) (f kind : Nat) : Option Barrier := s.hive.barriers.find? fun b => b.target = f && b.kind = kind

/-- The barrier of a target and kind changed. -/
def updBarrier (s : State) (f kind : Nat) (g : Barrier → Barrier) : State :=
  updHive s fun h => { h with barriers := h.barriers.map fun b => if b.target = f && b.kind = kind then g b else b }

/-- This device takes part in the barrier of a broadcast; one that can carry out the action arms. -/
def joinBarrier (s : State) (f kind coordinator : Nat) (present : List Nat) (armed : Bool) : State :=
  if !frameReachable s f || (findBarrier s f kind).isSome then s
  else
    let own := nodeIdOf s
    let b : Barrier := ⟨f, kind, coordinator, present, if armed && coordinator = own then [own] else [], armed, none⟩
    let s := updHive s fun h => { h with barriers := b :: h.barriers }
    if armed && coordinator ≠ own then sendBarrier s 1 coordinator f kind else s

/-- A switch request of a broadcast on this device (R116, R117). -/
def broadcastSwitch (s : State) (o : Origin) (v coordinator : Nat) (present : List Nat) : Nat × State :=
  let st := switchStatus s v
  let f := bits v 63 32
  if st ≠ 0 then (st, joinBarrier s f kindSwitch coordinator present false)
  else
    let q : SwitchReq := ⟨f, bits v 7 0 - 1, false, true⟩
    let r := armResult s q
    let s := updLasts s fun l => { l with request := some q, result := if r = 0 then l.result else r }
    let (_, s) := openTicket s o noMsg (kindKey kindSwitch) false
    (stPending, joinBarrier s f kindSwitch coordinator present (r = 0))

/-- An activation of a broadcast on this device (R502). -/
def broadcastActivation (s : State) (f coordinator : Nat) (present : List Nat) : Nat × State :=
  let st := activationStatus s f
  if st ≠ 0 then (st, joinBarrier (noImage s st) f kindUpdate coordinator present false)
  else (stOk, joinBarrier (schedule s f true) f kindUpdate coordinator present true)

/-- The action of a barrier is not carried out on this device, which shows its own reason if it could not arm. -/
def endAction (s : State) (b : Barrier) : State :=
  if b.kind = kindSwitch then
    match s.lasts.request with
    | some q =>
      if q.broadcast && q.frame = b.target then
        report (endRequest s (if b.armed then 2 else s.lasts.result)) 0x11 0 effNone
      else s
    | none => s
  else if s.update.activation = some (b.target, true) then dropActivation s 2 else s

/-- This device holds ABORT: the outcome is recorded, and the action ends. An ABORT of a broadcast that never reached this
device is that of one that was too late. -/
def holdAbort (s : State) (f kind : Nat) : State :=
  let s := updHive s fun h => { h with barrierResult := 2 }
  match findBarrier s f kind with
  | some b =>
    if b.held = some false then s
    else endAction (updBarrier s f kind fun b => { b with held := some false }) b
  | none =>
    if kind = kindSwitch then updLasts s fun l => { l with result := 3 }
    else if kind = kindUpdate then activationResult s 3 else s

/-- The coordinator of a broadcast that came too late sends ABORT at once. -/
def lateBroadcast (s : State) (f kind : Nat) : State := holdAbort (sendBarrier s 3 0xFF f kind) f kind

/-! ### Cells -/

/-- The action, target frame, kind and node of a BARRIER cell. -/
def barrierFields (cell : Bytes) : Nat × Nat × Nat × Nat := (u8 cell 4, u32 cell 5, u8 cell 9, u8 cell 10)

/-- A BARRIER cell for this device. -/
def barrierCell (s : State) (cell : Bytes) (action : Nat) : Bool :=
  u8 cell 0 = 4 && u8 cell 4 = action && (u8 cell 2 = 0xFF || u8 cell 2 = nodeIdOf s)

/-- The coordinator notes an ARM. -/
def barrierArm (s : State) (cell : Bytes) : State :=
  if !netOn s then s
  else if !cellOk cell then cellError s
  else if !barrierCell s cell 1 then s
  else
    let (_, f, kind, node) := barrierFields cell
    match findBarrier s f kind with
    | some b =>
      if b.coordinator ≠ nodeIdOf s || b.arms.contains node then s
      else updBarrier s f kind fun b => { b with arms := node :: b.arms }
    | none => s

def execBarrierArm (t : Rrp) (cell : Bytes) (s : State) : Out := .next (finish s (barrierArm (atTime s t) cell))

/-- This device holds COMMIT. -/
def barrierCommit (s : State) (cell : Bytes) : State :=
  if !netOn s then s
  else if !cellOk cell then cellError s
  else if !barrierCell s cell 2 then s
  else
    let (_, f, kind, _) := barrierFields cell
    updBarrier s f kind fun b => { b with held := some (b.held != some false) }

def execBarrierCommit (t : Rrp) (cell : Bytes) (s : State) : Out := .next (finish s (barrierCommit (atTime s t) cell))

def barrierAbort (s : State) (cell : Bytes) : State :=
  if !netOn s then s
  else if !cellOk cell then cellError s
  else if !barrierCell s cell 3 then s
  else
    let (_, f, kind, _) := barrierFields cell
    holdAbort s f kind

def execBarrierAbort (t : Rrp) (cell : Bytes) (s : State) : Out := .next (finish s (barrierAbort (atTime s t) cell))

/-! ### The decision and the deadline -/

/-- The coordinator decides a barrier at (F - 1, 0, 0). -/
def decideBarrier (s : State) (b : Barrier) : State :=
  if b.present.all fun n => b.arms.contains n then
    sendBarrier (updBarrier s b.target b.kind fun b => { b with held := some true }) 2 0xFF b.target b.kind
  else holdAbort (sendBarrier s 3 0xFF b.target b.kind) b.target b.kind

/-- The decision at line 0, sent again at lines 16 and 32. -/
def barrierDecide (s : State) : State :=
  each s.hive.barriers s fun s b =>
    if b.coordinator ≠ nodeIdOf s || s.now.frame ≠ frameBefore b.target || s.now.phase ≠ 0 then s
    else if s.now.line = 0 then decideBarrier s b
    else if s.now.line = 16 || s.now.line = 32 then
      match b.held with
      | some c => sendBarrier s (if c then 2 else 3) 0xFF b.target b.kind
      | none => s
    else s

def execBarrierDecide (t : Rrp) (s : State) : Out := .next (finish s (barrierDecide (atTime s t)))

/-- The action of a committed barrier is armed for its frame. -/
def commitAction (s : State) (b : Barrier) : State :=
  if b.kind = kindSwitch then
    match s.lasts.request with
    | some q =>
      if q.broadcast && q.frame = b.target then updLasts s fun l => { l with request := some { q with armed := true } } else s
    | none => s
  else if s.update.activation = some (b.target, true) then
    updUpdate s fun u => { u with activation := some (b.target, false) }
  else s

/-- The outcome of a barrier at (F - 1, L_ref / 2, 0). -/
def barrierOutcome (s : State) (b : Barrier) : State :=
  match b.held with
  | some true => commitAction (updHive s fun h => { h with barrierResult := 1 }) b
  | some false => s
  | none => report (endAction (updHive s fun h => { h with barrierResult := 3 }) b) 0x03 s.hive.pos effCovered

def barrierDeadline (s : State) : State :=
  each s.hive.barriers s fun s b =>
    if s.now ≠ ⟨frameBefore b.target, lrefOf s / 2, 0⟩ then s
    else
      let s := barrierOutcome s b
      updHive s fun h => { h with barriers := h.barriers.filter fun c => !(c.target = b.target && c.kind = b.kind) }

def execBarrierDeadline (t : Rrp) (s : State) : Out := .next (finish s (barrierDeadline (atTime s t)))

end Sys2Proof.Machine
end

