-- ==== Sys2Proof/Machine/View.lean ====
section
/-! DEFINITION. The value that a read of a dictionary entry shows: entries that other parts of the state stand behind, path by
path where the entry says so (R19, R21, R28 and the entry tables of the chapters). -/

namespace Sys2Proof.Machine

/-- A number shown. -/
def shownNum (n : Nat) : Option DVal := some (.num n)

/-- A truth value shown. -/
def shownBool (b : Bool) : Option DVal := some (.num (b2n b))

/-- An integer shown in w bits, two's complement. -/
def shownInt (w : Nat) (i : Int) : Option DVal := some (.num (ofSint w i))

/-- Bytes shown. -/
def shownRaw (b : Bytes) : Option DVal := some (.raw b)

/-- Nothing has set the entry. -/
def neverSet (s : State) (ix sub : Nat) : Bool := SMap.get unsetVal s.dict (dkey ix sub) = .unset

/-! ### Communication profile and timebase (Tables 2-11 and 3-10) -/

/-- The identifier of the installation key held; 0 without one. -/
def installationKeyId (s : State) : Nat :=
  match s.sec.keys.find? fun k => k.kind = 3 with
  | some k => k.id
  | none => 0

def viewProfile (s : State) (ix sub : Nat) : Option DVal :=
  match ix with
  | 0x1001 => shownNum (errorRegister s)
  | 0x100A => shownRaw (Config.softwareVersion.take 32)
  | 0x1014 => shownNum (emcyCob s)
  | 0x1018 => if sub = 4 then shownNum (Config.serialNumber % 2 ^ 32) else none
  | 0x1D01 => if neverSet s ix sub then shownBool (s.hive.pos = 0) else none
  | 0x1D02 => if neverSet s ix sub then shownBool (s.hive.pos = 0) else none
  | 0x1D08 => shownNum (installationKeyId s)
  | 0x1D10 => shownNum (nodeIdOf s)
  | 0x1D11 => shownNum s.hive.pos
  | _ => none

/-- The code of a source's status (0x2206). -/
def srcStatusCode : SrcStatus → Nat
  | .absent => 0
  | .qualifying => 1
  | .qualified => 2
  | .wrongRate => 3
  | .lost => 4

def viewTimebase (s : State) (ix sub : Nat) : Option DVal :=
  match ix with
  | 0x2205 => shownNum (tbStateCode s.tb.st)
  | 0x2206 => shownNum (if sub = 0 then s.tb.active else srcStatusCode (srcStatus s sub))
  | 0x2207 => shownNum (rrpNum s.now)
  | 0x2208 => shownInt 32 s.tb.phaseErr
  | 0x220A => shownNum s.tb.holdFrames
  | 0x220B => shownInt 32 s.tb.mismatch
  | 0x220C => shownNum s.tb.cadence
  | 0x220D =>
    if sub = 1 then shownNum (if isHead s then s.hive.size else 0)
    else if sub = 2 then shownBool s.hive.closed
    else if sub = 3 then shownNum (s.hive.hopDelayPs % 2 ^ 32)
    else shownNum s.hive.cellErrors
  | 0x220E => shownNum s.hive.barrierResult
  | 0x5F01 => shownNum (fioWord s)
  | 0x5F02 => shownNum (rrpNum (vecAt s.fio (sub - 1) ⟨false, zeroRrp⟩).edge)
  | _ => none

/-! ### The lasts (Table 4-15) -/

/-- Last Slot State of slot i (0 to 3). -/
def slotCode (s : State) (i : Nat) : Nat :=
  if s.lasts.active = i + 1 then 4
  else match (slotAt s i).st with
    | .empty => 0
    | .loading => 1
    | .valid => 2
    | .refused => 3

/-- A view of item i of the active last. -/
def viewItem (s : State) (i sub : Nat) : Nat :=
  match itemAt s i with
  | none => 0
  | some q =>
    let m := monitorAt s i
    match sub with
    | 1 => q.cls
    | 2 => q.action
    | 3 => if q.resource = 1 then q.frameBudget else allotment s s.lasts.windowSet i
    | 4 => m.peak % 2 ^ 32
    | _ => m.violations % 2 ^ 32

def viewLasts (s : State) (p : Path) (ix sub : Nat) : Option DVal :=
  let q := slotAt s (sub - 1)
  match ix with
  | 0x2210 => shownNum (slotCode s (sub - 1))
  | 0x2212 => shownNum q.status
  | 0x2213 => shownRaw (match q.last with
    | some l => l.identity
    | none => [])
  | 0x2214 => shownNum (match q.last with
    | some l => l.margin
    | none => 0)
  | 0x2215 => shownNum s.lasts.active
  | 0x2216 => shownNum (match s.lasts.request with
    | some r => r.frame * 2 ^ 32 + (r.slot + 1)
    | none => 0)
  | 0x2217 => shownNum s.lasts.result
  | 0x2218 => shownNum s.lasts.switchFrame
  | 0x2219 => shownNum (match activeLast s with
    | some l => l.opPoint
    | none => 1)
  | 0x221B => shownBool s.lasts.marginBeyond
  | 0x2223 => shownNum (viewItem s (pathNum s p 0x2222 0) sub)
  | _ => none

/-! ### Outputs (Tables 6-12, 7-11 and 8-9) -/

/-- The identity gamma table: e[i] = 4i for 1 024 entries of two bytes (Table 6-12). -/
def identityGamma : Bytes := (rangeFrom 0 1024).flatMap fun i => leBytes 2 (4 * i)

/-- The position of the next LATCH; 0 where the output does not run. -/
def latchNum (s : State) (n back : Nat) : Nat :=
  if !outRuns s n then 0
  else match nextLatch s n s.now with
    | some x => rrpNum (rrpSub s.tb.rate x (rlTicks back))
    | none => 0

/-- Layer State of a layer: a flip that waits for a pass, then how its content shows. -/
def layerCode (s : State) (n k : Nat) : Nat :=
  let o := outAt s n
  let run := flattened s n && (staticRun s n).contains k
  let waits := run && ((pendingOf o).any fun r => r.static && r.descs.any fun d => d.layer = k)
  if waits then 4
  else match layerOf o k with
    | none => 0
    | some c => if c.blockedFrom.isSome then 2 else if run then 3 else 1

/-- Scan State, Link State, Takeover State and Pair State. -/
def scanCode : ScanState → Nat
  | .notRun => 0
  | .starting => 1
  | .running => 2
  | .held => 3

def linkCode : LinkState → Nat
  | .noSink => 0
  | .reading => 1
  | .training => 2
  | .up => 3
  | .failed => 4
  | .phyFault => 5
  | .testPattern => 6

def takeoverCode : Takeover → Nat
  | .engine => 0
  | .armed => 1
  | .spare => 2
  | .selfTest => 3

def pairCode : PairState → Nat
  | .notPaired => 0
  | .starting => 1
  | .asserted => 2
  | .released => 3
  | .rearming => 4

/-- Surface State: the stand-in case in force, else showing. -/
def surfaceCode (s : State) (n k : Nat) : Nat :=
  match surfaceCfg s n k with
  | none => 0
  | some c =>
    let e := standInCase s c (surfaceAt s n k)
    if e = 0 then 2 else e

def viewOutput (s : State) (n k sub : Nat) : Option DVal :=
  let o := outAt s n
  match k with
  | 0x01 => shownNum (latchNum s n 0)
  | 0x02 => shownNum (latchNum s n 2)
  | 0x03 => shownNum (if 2 ≤ takeoverCode o.takeover then 8 else n)
  | 0x04 => shownNum (layerCode s n (sub - 1))
  | 0x05 => shownNum (match layerOf o (sub - 1) with
    | some c => rrpNum c.effect
    | none => 0)
  | 0x06 => if neverSet s (0x3006 + 0x100 * n) 0 then shownRaw identityGamma else none
  | 0x30 => shownNum (regionsShown s n)
  | 0x33 => shownNum (pairCode o.pair)
  | 0x36 => shownNum (surfaceCode s n (sub - 1))
  | 0x40 => shownNum (scanCode o.scan)
  | 0x41 => shownNum (linkCode o.link)
  | 0x4C => shownNum (takeoverCode o.takeover)
  | _ => none

/-- The cell that Cell Select of a path names: its state and since when; 5 where it is not shown. -/
def viewCell (s : State) (v sub : Nat) : Option DVal :=
  let n := bits v 15 8
  let c := bits v 7 0
  let shown := match activePlan s n, cellAt s n c with
    | some p, some q => cellShown s p q
    | _, _ => false
  match shown, (outAt s n).cells[c]? with
  | true, some r => shownNum (if sub = 1 then r.state else rrpNum r.since)
  | _, _ => shownNum (if sub = 1 then 5 else 0)

def viewSentinel (s : State) (p : Path) (ix sub : Nat) : Option DVal :=
  match ix with
  | 0x5F03 => shownNum (if sub = 0 then s.sentinel.state else s.sentinel.error)
  | 0x5F0B => viewCell s (pathNum s p 0x5F0A 0) sub
  | _ => none

/-! ### Media, touch, haptics and audio (Tables 10-4, 11-7, 12-5 and 13-9) -/

def viewMedia (s : State) (ix sub : Nat) : Option DVal :=
  match ix with
  | 0x5701 => shownNum (captureState s (sub - 1))
  | 0x5702 =>
    let c := captureAt s (sub - 1)
    shownNum (c.width * 2 ^ 48 + c.height * 2 ^ 32 + c.mhz)
  | 0x5703 => if neverSet s ix sub then shownRaw Config.otmoellEdid else none
  | _ =>
    if 0x5740 ≤ ix && ix < 0x5760 && sub = 0x0C then shownNum (feedState s (ix - 0x5740))
    else if 0x5740 ≤ ix && ix < 0x5760 && sub = 0x0D then shownNum (rrpNum (feedAt s (ix - 0x5740)).shownRrp)
    else none

/-- Touch n State. -/
def touchCode : TouchState → Nat
  | .notRunning => 0
  | .startScan => 1
  | .scanning => 2
  | .lost => 3
  | .linkDown => 4

def viewTouch (s : State) (n k : Nat) : Option DVal :=
  let c := touchAt s n
  match k with
  | 0x00 => shownNum (touchCode c.st)
  | 0x01 => shownNum (if c.st = .scanning then c.step else 0)
  | 0x0E => shownNum (referenceState s n)
  | 0x0F => shownNum c.suspects.length
  | 0x15 => shownNum c.contacts.length
  | 0x18 => shownRaw ((c.raw ++ c.txSelf ++ c.rxSelf).flatMap (leBytes 2))
  | _ => none

/-- The operations of the program that runs alone, or of the incoming one. -/
def programOps (s : State) : Nat :=
  let r := if s.audio.fadeLen = 0 then s.audio.running else s.audio.incoming
  match r.bind fun r => memAt s r.val with
  | some m => m.prog.ops.length
  | none => 0

/-- TDM Port State. -/
def tdmCode (s : State) (p : Nat) : Nat := if !bit (tdmWord s p) 31 then 0 else if domainOn s 14 then 1 else 2

def viewAudio (s : State) (ix sub : Nat) : Option DVal :=
  if ix = 0x5000 then shownNum (audioState s)
  else if ix = 0x5001 then shownNum (programOps s)
  else if 0x5100 ≤ ix && ix < 0x5200 && sub = 3 then shownNum (gainCode (gainAt s (ix - 0x5100)).cur)
  else if 0x5240 ≤ ix && ix < 0x5280 && sub = 1 then shownNum (streamState s (ix - 0x5240))
  else if 0x5300 ≤ ix && ix < 0x5304 then shownNum (if sub = 1 then tdmCode s (ix - 0x5300) else tdmWord s (ix - 0x5300))
  else none

/-! ### Memory, ports and slices (Tables 14-13 and 15-11) -/

def viewMemory (s : State) (ix sub : Nat) : Option DVal :=
  if ix = 0x5602 then shownNum s.mem.rate
  else if ix = 0x5607 then shownNum (vecAt s.mem.groups (sub - 1) 0)
  else if ix = 0x5640 then shownBool (vecAt s.mem.banks (sub - 1) false)
  else if 0x5650 ≤ ix && ix < 0x5660 && sub = 1 then shownNum (chkStatus (checkAt s (ix - 0x5650)))
  else if 0x5650 ≤ ix && ix < 0x5660 && sub = 2 then shownRaw (checkAt s (ix - 0x5650)).result
  else none

def viewPort (s : State) (p sub : Nat) : Option DVal :=
  let q := portAt s p
  match sub with
  | 1 => shownNum (if q.disabled then 3 else q.link)
  | 2 => shownNum (if q.link = 2 then q.speed else 0)
  | 3 => shownNum (if q.link = 2 then q.width else 0)
  | _ => none

def viewSlice (s : State) (k sub : Nat) : Option DVal :=
  match sub with
  | 1 => shownNum (sliceId s k)
  | 2 => shownNum (sliceCode (sliceAt s k).st)
  | 3 => shownNum (bits (sliceStatus s k) 15 8)
  | 8 => shownNum (sreg s k 0x18)
  | _ => none

/-! ### The secure status (Table 16-14) -/

/-- The Unit Hash as a number. -/
def unitHashNum : Nat := leNat unitHash

/-- A grant's 16 bytes. -/
def grantBytes (g : Grant) : Bytes := leBytes 8 g.base ++ leBytes 4 g.pages ++ leBytes 4 g.word

def viewSecure (s : State) (ix sub : Nat) : Option DVal :=
  let q := s.sec
  match ix with
  | 0x5E00 => shownNum q.lifeCycle
  | 0x5E01 => shownNum q.divMode
  | 0x5E02 => shownNum q.island
  | 0x5E05 => shownNum (match q.lockAt with
    | some x => rrpNum x
    | none => 0)
  | 0x5E06 => shownNum q.debug
  | 0x5E07 => shownNum (if sub = 1 then Config.unitId % 2 ^ 64 else unitHashNum)
  | 0x5E08 => shownRaw (Config.keyAgreementKey.take 96)
  | 0x5E09 => shownRaw (Config.attestationKey.take 96)
  | 0x5E10 => shownRaw (mrAt s (sub - 1))
  | 0x5E20 => shownNum (match q.keys[sub - 1]? with
    | some k => k.kind * 2 ^ 24 + k.id
    | none => 0)
  | 0x5E21 => shownNum q.counter
  | 0x5E30 => shownRaw (match q.grants[sub - 1]? with
    | some g => grantBytes g
    | none => [])
  | 0x5E31 => shownNum q.reserve
  | 0x5E50 => shownRaw q.challenge
  | _ => none

/-! ### Modes and power (Table 17-12) -/

/-- The domains that hold a secure claim, as a mask. -/
def claimMask (s : State) : Nat := (rangeFrom 0 18).foldl (fun a d => setBit a d (claimed s d)) 0

def viewPower (s : State) (ix sub : Nat) : Option DVal :=
  let p := s.power
  match ix with
  | 0x2001 => shownNum (modeCode s.mode)
  | 0x2002 => shownNum (match p.slot with
    | some (m, _) => modeCode m
    | none => 0)
  | 0x2003 => shownNum (match p.transition with
    | some tr => if sub = 1 then modeCode tr.origin else if sub = 2 then modeCode tr.target else if tr.committed then 2 else 1
    | none => 0)
  | 0x2004 => shownNum p.result
  | 0x2007 => shownNum p.wakeCause
  | 0x2100 => shownNum (vecAt p.domains (sub - 1) 0)
  | 0x2102 => shownNum p.heldPads
  | 0x2103 => shownNum (claimMask s)
  | 0x2105 => shownNum p.offAnswer
  | 0x2111 => shownNum p.guard.tableState
  | 0x2120 => shownNum p.wakeFailCause
  | 0x2121 => shownNum (p.guard.cycles % 2 ^ 32)
  | _ => none

/-! ### Faults and inspection (Tables 18-1 and 18-7) -/

/-- The STATE code of a fault record. -/
def faultCode : FaultState → Nat
  | .active => 1
  | .clearing => 2
  | .closed => 3

/-- The 32 bytes of a fault record (Table 18-1). -/
def faultRecordBytes (r : FaultRec) : Bytes :=
  leBytes 4 r.key ++ leBytes 1 r.effect ++ leBytes 1 (faultCode r.st) ++ leBytes 1 r.reporter ++ leBytes 1 r.devices ++
    leBytes 8 (rrpNum r.first) ++ leBytes 8 (rrpNum r.latest) ++ leBytes 4 r.echoes ++ zeroBytes 4

/-- A record shown, or 32 zero bytes. -/
def shownRecord (r : Option FaultRec) : Option DVal :=
  shownRaw (match r with
    | some r => faultRecordBytes r
    | none => zeroBytes 32)

def viewHealth (s : State) (p : Path) (ix : Nat) : Option DVal :=
  let h := s.health
  match ix with
  | 0x5800 => shownNum (openRecords s).length
  | 0x5801 => shownNum ((openRecords s).foldl (fun a r => Nat.max a r.effect) 0)
  | 0x5803 => shownRecord (vecAt h.slots (pathNum s p 0x5802 0) none)
  | 0x5805 => shownRecord h.history[pathNum s p 0x5804 0]?
  | 0x5A11 => shownNum h.records.length
  | 0x5A13 => shownRaw (h.records.getD (pathNum s p 0x5A12 0) [])
  | 0x5A14 => shownRaw (inspectionBody s h.insp 1 ++ zeroBytes 96)
  | _ => none

/-! ### Update (Table 19-6) -/

/-- IMAGE_VERSION of a bank's image; 0 where it holds none. -/
def bankVersion (s : State) (b : Nat) : Nat :=
  let q := bankAt s b
  if q.st = 0 || q.st = 1 then 0 else u32 q.image 24

def viewUpdate (s : State) (ix sub : Nat) : Option DVal :=
  let u := s.update
  match ix with
  | 0x5C00 => shownNum u.st
  | 0x5C02 => shownNum u.status
  | 0x5C03 => shownNum (if sub ≤ 2 then bankVersion s (sub - 1) else (bankAt s (sub - 3)).st)
  | 0x5C04 => shownNum (u.booted.val + 1)
  | 0x5C05 => shownNum (match u.activation with
    | some (f, _) => f
    | none => 0)
  | 0x5C07 => shownNum u.result
  | 0x5C0A => shownNum (bootState s).trialBoots
  | 0x5C0B => shownNum u.fallbackCause
  | 0x5C0C => shownNum u.floor
  | _ => none

/-! ### The value of an entry -/

/-- What stands behind an entry, other than its stored value. -/
def viewOf (s : State) (p : Path) (ix sub : Nat) : Option DVal :=
  if ix < 0x2000 then viewProfile s ix sub
  else if ix < 0x2200 then viewPower s ix sub
  else if ix < 0x2210 then viewTimebase s ix sub
  else if ix < 0x2300 then viewLasts s p ix sub
  else if 0x3000 ≤ ix && ix < 0x3800 then viewOutput s (ix / 0x100 - 0x30) (ix % 0x100) sub
  else if 0x4000 ≤ ix && ix < 0x4800 then viewTouch s (ix / 0x100 - 0x40) (ix % 0x100)
  else if 0x4800 ≤ ix && ix < 0x4880 then (if ix % 16 = 0 then shownNum (hapticState s ((ix - 0x4800) / 16)) else none)
  else if ix < 0x5400 then viewAudio s ix sub
  else if ix < 0x5410 then viewPort s (ix - 0x5400) sub
  else if ix < 0x5430 then viewSlice s (ix - 0x5410) sub
  else if ix < 0x5700 then viewMemory s ix sub
  else if ix < 0x5800 then viewMedia s ix sub
  else if ix < 0x5C00 then viewHealth s p ix
  else if ix < 0x5E00 then viewUpdate s ix sub
  else if ix < 0x5F00 then viewSecure s ix sub
  else if ix < 0x5F03 then viewTimebase s ix sub
  else viewSentinel s p ix sub

/-- The value an entry shows on a path. -/
def entryValue (s : State) (p : Path) (r : DRow) (ix sub : Nat) : DVal :=
  match viewOf s p ix sub with
  | some v => v
  | none =>
    if r.perPath then
      match SMap.get unsetVal s.dict (pathKey p ix sub) with
      | .unset => r.dflt
      | v => v
    else entry s ix sub

/-- The bytes of a value for a row. -/
def valueBytes (r : DRow) (v : DVal) : Bytes :=
  match typeSize r.ty with
  | some k => leBytes k v.toNat
  | none => v.toBytes

/-- Values that the device measures and no rule computes: Frequency Offset while a source has been followed, free (DESIGN CHOICE,
log entry 38: safe). -/
def measuredEntry (s : State) (ix : Nat) : Bool := ix = 0x2209 && (s.tb.active ≠ 0 || s.tb.everLocked)

/-- The bytes that a read of an entry of a row returns. -/
def entryShown (s : State) (p : Path) (r : DRow) (ix sub : Nat) : Bytes × State :=
  if measuredEntry s ix then
    let (n, s) := takeFree s (2 ^ 32)
    (leBytes 4 n, s)
  else (valueBytes r (entryValue s p r ix sub), s)

end Sys2Proof.Machine
end

