-- ==== Sys2Proof/Machine/Writes.lean ====
section
/-! DEFINITION. Reads and writes of any dictionary entry: the rules of single entries beside their type and range, writes that
stay pending, and DOMAIN entries in segments (R20 to R31, R44, R46, R51). -/

namespace Sys2Proof.Machine

/-- Status values of CiA 301 that Table 2-5 does not list (R32, R44). -/
def stNotMappable : Nat := 0x06040041
def stPdoLength : Nat := 0x06040042

/-! ### PDO mapping (R44) -/

/-- Whether a PDO may map an entry with a length in bits; a receive PDO needs one that can be written. A length other than the
entry's is refused alike (PRESUMED, log entry 39: CiA 301). -/
def mappable (rx : Bool) (v : Nat) : Bool :=
  v = 0 || match rowOf (bits v 31 16) (bits v 15 8) with
    | some r => r.pdo && (!rx || r.acc = .rw) && bits v 7 0 = 8 * (typeSize r.ty).getD 0
    | none => false

/-- The entries that PDO k maps, by its mapping index. -/
def pdoMap (s : State) (ix : Nat) : List Nat := (rangeFrom 1 (entryNum s ix 0)).map fun i => entryNum s ix i

/-- The bytes that mapped entries take. -/
def mapBytes (vs : List Nat) : Nat := (vs.map fun v => bits v 7 0 / 8).sum

/-- What a mapping maps once subindex sub holds v. -/
def mapWith (s : State) (ix sub v : Nat) : List Nat :=
  (rangeFrom 1 (if sub = 0 then v else entryNum s ix 0)).map fun i => if i = sub then v else entryNum s ix i

/-- A write of a mapping entry: its status. A PDO holds at most 64 bytes. -/
def mappingStatus (s : State) (ix sub v : Nat) : Nat :=
  if sub ≠ 0 && !mappable (ix < 0x1A00) v then stNotMappable
  else if 64 < mapBytes (mapWith s ix sub v) then stPdoLength else stOk

/-! ### Ranges that look at other entries -/

/-- The home bit of a hash mask's field; G1 has none below bit 13 (R374, Table 14-2). -/
def homeBits (sub : Nat) : Nat := if sub ≤ 3 then 2 ^ (5 + sub) else if sub = 4 then 0 else 2 ^ (4 + sub)

/-- The other ranges that an entry of ranges declares: those of its subindices up to n, but for sub. -/
def otherRanges (s : State) (ix n sub : Nat) : List (Nat × Nat) :=
  (((rangeFrom 1 n).filter fun i => i ≠ sub).map fun i => declaredRange (entryNum s ix i)).filter fun r => r.2 ≠ 0

/-- Two ranges share no address. -/
def rangesApart (a b : Nat × Nat) : Bool := a.1 + a.2 ≤ b.1 || b.1 + b.2 ≤ a.1

/-- An ECC range beside a mirrored one (R378): wholly inside or outside it, and apart from its shadow once H is known. -/
def eccBeside (s : State) (e m : Nat × Nat) : Bool :=
  (rangesApart e m || (m.1 ≤ e.1 && e.1 + e.2 ≤ m.1 + m.2)) && (s.mem.bitsN = 0 || rangesApart e (m.1 + 2 ^ mirrorBit s, m.2))

/-- A mirrored range may be declared (R375): below 2^H once H is known, apart from the others. -/
def mirrorOk (s : State) (sub v : Nat) : Bool :=
  let r := declaredRange v
  r.2 = 0 || ((s.mem.bitsN = 0 || r.1 + r.2 ≤ 2 ^ mirrorBit s) && (otherRanges s 0x5604 16 sub).all (rangesApart r) &&
    (otherRanges s 0x5605 8 0).all fun e => eccBeside s e r)

/-- An ECC range may be declared (R378): below 2^N once N is known, and fit beside the mirrored ranges. -/
def eccOk (s : State) (v : Nat) : Bool :=
  let r := declaredRange v
  r.2 = 0 || ((s.mem.bitsN = 0 || r.1 + r.2 ≤ 2 ^ s.mem.bitsN) && (otherRanges s 0x5604 16 0).all fun m => eccBeside s r m)

/-- The conditions on an entry's value that its Meaning adds to its range. -/
def crossOk (s : State) (ix sub v : Nat) : Bool :=
  if ix = 0x1006 then v = 0 || syncFrames s.tb.rate v ≠ 0
  else if ix = 0x5601 then v = 0 || (rangeFrom 1 4).all fun i => i = sub || entryNum s ix i ≠ v
  else if ix = 0x5603 then v / 64 % 128 = homeBits sub / 64
  else if ix = 0x5604 then mirrorOk s sub v
  else if ix = 0x5605 then eccOk s v
  else if ix = 0x5606 then if sub = 1 then entryNum s ix 2 < v else v < entryNum s ix 1
  else if ix = 0x5720 && sub = 1 then v % 4096 = 0
  else if 0x5740 ≤ ix && ix < 0x5760 && sub = 8 then bits v 19 16 ≤ 3 || bits v 19 16 = 15
  else if 0x3000 ≤ ix && ix < 0x3800 then
    if ix % 0x100 = 0x20 || (ix % 0x100 = 0x28 && sub = 1) then v % 4096 = 0
    else if ix % 0x100 = 0x50 && sub = 1 then
      v = 0xFF || (rangeFrom 0 8).all fun n => 0x3050 + 0x100 * n = ix || entryNum s (0x3050 + 0x100 * n) 1 ≠ v
    else true
  else if 0x4000 ≤ ix && ix < 0x4800 && ix % 0x100 = 4 then
    if sub = 1 then entryNum s ix 2 < v else if sub = 2 then v < entryNum s ix 1 else true
  else if 0x4800 ≤ ix && ix < 0x4880 && sub = 1 then
    if ix % 16 = 1 then v ≤ entryNum s ix 2 else if ix % 16 = 3 then v ≤ entryNum s (ix - 2) 2 else true
  else true

/-! ### Entries with an effect of their own -/

/-- Number of Errors: a write of 0 clears the predefined error field. -/
def clearErrors (s : State) : State := each (rangeFrom 0 17) s fun s k => setNum s 0x1003 k 0

/-- Restore Default Parameters: taken at the next Bring-up. Any other signature is refused (PRESUMED, log entry 39). -/
def restoreDefaults (s : State) (v : Nat) : Nat × State :=
  if v = 0x64616F6C then (stOk, { s with store := SMap.set unsetVal s.store (dkey 0x1011 1) (.num v) }) else (stState, s)

/-- A write of an output's entry with a rule of its own. -/
def outputWrite (s : State) (o : Origin) (ix sub : Nat) (data : Bytes) : Option (Nat × State) :=
  let n := ix / 0x100 - 0x30
  let k := ix % 0x100
  let v := leNat data
  if 0x10 ≤ k && k < 0x20 && sub = 0x0D then some (matrixCommit s n (k - 0x10) v)
  else if k = 0x34 then some (pairRearm s n v)
  else if k = 0x47 then some (auxRequest s n data)
  else if k = 0x48 then some (if sub = 1 then immediateEnable s o n v else immediateDescriptor s n data)
  else if k = 0x49 then some (testPattern s o n v)
  else none

/-- Haptic n Trigger, with a residual motion that the write does not bring. -/
def hapticWrite (s : State) (h sub v : Nat) : Nat × State :=
  if sub = 1 then
    let (residual, s) := takeFree s (2 ^ 16)
    dictTrigger s h v residual
  else if sub = 2 then hapticRestart s h v
  else measureRequest s h v

/-- Domain Off Request, whose blocks answer in time or not. -/
def domainOffWrite (s : State) (d : Nat) : Nat × State :=
  let (ready, s) := takeFree s 2
  domainOff s d (ready = 1)

/-- A write of a touch or haptic entry with a rule of its own. -/
def fieldWrite (s : State) (o : Origin) (ix sub v : Nat) : Option (Nat × State) :=
  if 0x4000 ≤ ix && ix < 0x4800 then
    let n := ix / 0x100 - 0x40
    if ix % 0x100 = 0x0D then some (captureWrite s n v)
    else if ix % 0x100 = 0x10 then some (selfTestRequest s o n v)
    else none
  else if 0x4800 ≤ ix && ix < 0x4880 && ix % 16 = 6 then some (hapticWrite s ((ix - 0x4800) / 16) sub v)
  else none

/-- A write of a feed's entry: subindices :01 to :0A of an enabled feed are refused (R284). -/
def feedWrite (s : State) (o : Origin) (ix sub v : Nat) : Option (Nat × State) :=
  let f := ix - 0x5740
  if sub = 0x0B then some (feedEnable s o f v) else if (feedAt s f).joined then some (stState, s) else none

/-- The entry's own rule for an accepted value, where it has one. -/
def ownRule (s : State) (o : Origin) (ix sub : Nat) (data : Bytes) : Option (Nat × State) :=
  let v := leNat data
  if ix = 0x1003 then some (stOk, clearErrors s)
  else if ix = 0x1006 then
    some (stOk, storeValue { s with net := { s.net with syncStopped := false } } o ix sub data)
  else if ix = 0x1010 then some (if v = 0x65766173 then stOk else stState, s)
  else if ix = 0x1011 then some (restoreDefaults s v)
  else if (0x1600 ≤ ix && ix < 0x1608) || (0x1A00 ≤ ix && ix < 0x1A08) then
    let st := mappingStatus s ix sub v
    if st = 0 then none else some (st, s)
  else if ix = 0x1FA0 then
    let n := if o.path = Path.can then { s.net with canResult := none } else s.net
    some (stOk, storeValue { s with net := n } o ix sub data)
  else if ix = 0x2002 then some (modeWrite s o.path v)
  else if ix = 0x2104 then some (domainOffWrite s v)
  else if ix = 0x2216 then some (switchRequest s o v)
  else if 0x3000 ≤ ix && ix < 0x3800 then outputWrite s o ix sub data
  else if 0x4000 ≤ ix && ix < 0x4880 then fieldWrite s o ix sub v
  else if 0x5100 ≤ ix && ix < 0x5200 && sub = 1 then some (gainWrite s o (ix - 0x5100) v)
  else if 0x5410 ≤ ix && ix < 0x5430 then some (forcedReset s (ix - 0x5410) v)
  else if 0x5650 ≤ ix && ix < 0x5660 then some (checkDictStart s (ix - 0x5650) data)
  else if ix = 0x5700 then some (captureEnable s o (sub - 1) data)
  else if 0x5740 ≤ ix && ix < 0x5760 then feedWrite s o ix sub v
  else if ix = 0x5C05 then some (activationRequest s v)
  else if ix = 0x5C06 then some (activationTime s v)
  else if ix = 0x5C08 then some (confirm s v)
  else none

/-- An accepted value takes effect: by the entry's own rule, else stored. -/
def applyWrite (s : State) (o : Origin) (ix sub : Nat) (data : Bytes) : Nat × State :=
  if !crossOk s ix sub (leNat data) then (stRange, s)
  else noted ix sub (match ownRule s o ix sub data with
    | some r => r
    | none => (stOk, storeValue s o ix sub data))

/-! ### Writes of whole values (R20, R27, R28) -/

/-- Whether an entry is a DOMAIN. -/
def isDomain (ix sub : Nat) : Bool :=
  match rowOf ix sub with
  | some r => r.ty = .dom
  | none => false

/-- Entries whose own row gives the final result of a pending write: those stay out of ACCESS_FINAL. -/
def ownFinal (ix : Nat) : Bool :=
  ix = 0x2216 || ix = 0x2211 || ix = 0x5C01 || (0x4000 ≤ ix && ix < 0x4800 && ix % 0x100 = 0x10)

/-- A write by value, general checks first; one that does not end within 10 ms is held until its final result. -/
def entryWrite (s : State) (o : Origin) (m : Msg) (ix sub : Nat) (data : Bytes) (slow : Bool) : Nat × State :=
  let e := entryStatus s o ix sub
  if isDomain ix sub && e = 0 then (stLength, s)
  else
    let e := writeStatus s o ix sub data
    if e ≠ 0 then (e, s)
    else if slow && !ownFinal ix then
      (stPending, (openTicket s o { m with payload := data } (dkey ix sub) true).2)
    else applyWrite s o ix sub data

/-! ### DOMAIN writes (R31) -/

/-- Whether two origins are one source. -/
def sameSource (a b : Origin) : Bool := a.path = b.path && (a.path ≠ .eth || (a.addr = b.addr && a.port = b.port))

/-- The open DOMAIN write of an entry. -/
def openDomain (s : State) (key : Nat) : Option OpenDomain := s.net.domains.find? fun d => d.key = key

/-- The effect that a DOMAIN entry holds (R329). -/
def effectNo (ix : Nat) : Nat := (ix - 0x4800) / 16 * 8 + ix % 8

/-- Whether an index holds a haptic effect. -/
def isEffect (ix : Nat) : Bool := 0x4800 ≤ ix && ix < 0x4880 && 8 ≤ ix % 16

/-- Whether an index is a gamma table. -/
def isGamma (ix : Nat) : Bool := 0x3000 ≤ ix && ix < 0x3800 && ix % 0x100 = 6

/-- Judged at the first segment: 0 where the write may begin. -/
def segmentStatus (s : State) (ix sub : Nat) : Nat :=
  if ix = 0x2211 then loadStatus s (sub - 1)
  else if ix = 0x5C01 then updateStatus s
  else if isEffect ix && effectBusy s (effectNo ix) then stState
  else if isGamma ix && gammaLocked s (ix / 0x100 - 0x30) then stState
  else stOk

/-- The first segment empties the slot, or marks the bank. -/
def beginSegments (s : State) (ix sub : Nat) : State :=
  if ix = 0x2211 then beginLoad s (sub - 1) else if ix = 0x5C01 then beginUpdate s else s

/-- A load takes each segment as it arrives. -/
def loadSegment (s : State) (ix sub off : Nat) (bs : Bytes) : State :=
  if ix = 0x2211 then updSlot s (sub - 1) fun q => { q with image := patchBytes q.image off bs }
  else if ix = 0x5C01 then updBank s (inactiveBank s) fun q => { q with image := patchBytes q.image off bs }
  else s

/-- The checks of a segment or of the end that do not look at it: access, type, a pending write. -/
def domainStatus (s : State) (o : Origin) (ix sub : Nat) : Nat :=
  let e := entryStatus s o ix sub
  if e ≠ 0 then e
  else if !isDomain ix sub then stLength
  else if writePending s (dkey ix sub) then stBusy else stOk

/-- The largest size of an entry. -/
def entrySize (ix sub : Nat) : Nat :=
  match rowOf ix sub with
  | some r => r.size
  | none => 0

/-- A segment noted. -/
def addSegment (s : State) (o : Origin) (ix sub off : Nat) (bs : Bytes) : State :=
  let key := dkey ix sub
  let ds := match openDomain s key with
    | some d => { d with segs := d.segs ++ [(off, bs)] } :: s.net.domains.filter fun d => d.key ≠ key
    | none => ⟨key, o, [(off, bs)]⟩ :: s.net.domains
  loadSegment { s with net := { s.net with domains := ds } } ix sub off bs

/-- A WRITE_SEG. -/
def writeSegment (s : State) (o : Origin) (ix sub off : Nat) (bs : Bytes) : Nat × State :=
  let e := domainStatus s o ix sub
  let key := dkey ix sub
  let beyond := entrySize ix sub < off + bs.length
  if e ≠ 0 then (e, s)
  else match openDomain s key with
    | some d =>
      if !sameSource d.origin o then (stBusy, s)
      else if beyond then (stLength, discardDomains s fun d => d.key = key)
      else (stOk, addSegment s o ix sub off bs)
    | none =>
      let st := segmentStatus s ix sub
      if st ≠ 0 then (st, s)
      else if beyond then (stLength, s)
      else (stOk, addSegment (beginSegments s ix sub) o ix sub off bs)

/-- How far segments in order of their offsets reach from offset 0 without a gap. -/
def reachOf (segs : List (Nat × Bytes)) : Nat :=
  (sortBy (fun e => e.1) segs).foldl (fun a e => if e.1 ≤ a then Nat.max a (e.1 + e.2.length) else a) 0

/-- Whether segments cover every byte up to a total length and none beyond (R31). -/
def segmentsOk (segs : List (Nat × Bytes)) (total : Nat) : Bool :=
  reachOf segs = total && segs.all fun e => e.1 + e.2.length ≤ total

/-- The value that segments make, the latest byte written at each offset. -/
def assembled (segs : List (Nat × Bytes)) : Bytes := segs.foldl (fun b e => patchBytes b e.1 e.2) []

/-- A gamma table's value (R157). -/
def gammaStatus (b : Bytes) : Nat :=
  if b.length ≠ 2048 then stLength
  else if (rangeFrom 0 1024).all fun i => u16 b (2 * i) ≤ 4095 then stOk else stRange

/-- A complete DOMAIN value takes effect by its entry's rules. -/
def applyDomain (s : State) (o : Origin) (ix sub : Nat) (b : Bytes) : Nat × State :=
  if ix = 0x2211 || ix = 0x5C01 then (stPending, (openTicket s o noMsg (dkey ix sub) false).2)
  else if ix = 0x5703 then edidWrite s o (sub - 1) b
  else if isGamma ix then
    let st := gammaStatus b
    if st ≠ 0 then (st, s)
    else (stOk, updOut (storeValue s o ix sub b) (ix / 0x100 - 0x30) fun q => { q with gammaNext := q.gammaNext ++ [(s.now, b)] })
  else if isEffect ix then
    let st := if effectBusy s (effectNo ix) then stState else effectCheck b
    if st ≠ 0 then (st, s) else (stOk, storeValue s o ix sub b)
  else (stOk, storeValue s o ix sub b)

/-- A WRITE_SEG_END. -/
def endSegments (s : State) (o : Origin) (m : Msg) (ix sub total : Nat) (slow : Bool) : Nat × State :=
  let e := domainStatus s o ix sub
  let key := dkey ix sub
  if e ≠ 0 then (e, s)
  else match openDomain s key with
    | none => (stLength, s)
    | some d =>
      if !sameSource d.origin o then (stBusy, s)
      else if !segmentsOk d.segs total then (stLength, discardDomains s fun d => d.key = key)
      else
        let s := { s with net := { s.net with domains := s.net.domains.filter fun d => d.key ≠ key } }
        let b := assembled d.segs
        if slow && !ownFinal ix then (stPending, (openTicket s o { m with payload := b } key true).2)
        else applyDomain s o ix sub b

/-- A held write reaches its final result (R27, R28). -/
def applyHeld (s : State) (t : Ticket) : Nat × State :=
  let ix := t.key / 256
  let sub := t.key % 256
  if isDomain ix sub then applyDomain s t.origin ix sub t.msg.payload else applyWrite s t.origin ix sub t.msg.payload

/-! ### Reads (R23, R28) -/

/-- The status of a read: index, subindex, access, and check channels that a slice owns (Table 14-13). -/
def readStatus (s : State) (ix sub : Nat) : Nat :=
  match rowOf ix sub with
  | none => if indexKnown ix then stNoSub else stNoIndex
  | some r =>
    if r.acc = .wo then stWriteOnly
    else if 0x5650 ≤ ix && ix < 0x5660 && sub ≤ 2 && (ownerSlice s 0x07 (ix - 0x5650)).isSome then stState
    else stOk

/-- A status and a payload as Ticket Result holds them. -/
def resultBytes (st : Nat) (payload : Bytes) : Bytes := leBytes 4 st ++ payload

/-- The ticket of a number that a path may retrieve. -/
def ownTicket (s : State) (o : Origin) (no : Nat) : Option Ticket :=
  if no = 0 then none else s.net.tickets.find? fun t => t.no = no && sameOwner t.origin o

/-- A ticket retired. -/
def retire (s : State) (t : Ticket) : State := { s with net := { s.net with tickets := s.net.tickets.erase t } }

/-- Ticket Result of the path's Ticket Select: on CAN the first read of a final result retires the ticket and keeps the result;
a read on another path shows it and retires nothing (R51). -/
def ticketResult (s : State) (o : Origin) : Bytes × State :=
  let no := pathNum s o.path 0x1FA0 2
  let kept := match s.net.canResult with
    | some (n, b) => if o.path = Path.can && n = no then some b else none
    | none => none
  match kept with
  | some b => (b, s)
  | none =>
    if no = 0 then ([], s)
    else match ownTicket s o no with
      | none => (resultBytes 6 [], s)
      | some t =>
        match t.final with
        | none => (resultBytes stPending (leBytes 4 no), s)
        | some (st, p) =>
          let b := resultBytes st p
          if o.path = Path.can then
            let s := retire s t
            (b, { s with net := { s.net with canResult := some (no, b) } })
          else (b, s)

/-- The bytes that a read returns. -/
def readBytes (s : State) (o : Origin) (ix sub : Nat) : Bytes × State :=
  if ix = 0x1FA0 && sub = 3 then ticketResult s o
  else match rowOf ix sub with
    | some r => entryShown s o.path r ix sub
    | none => ([], s)

/-- A read of an entry: its status, and its value where that is OK. -/
def entryRead (s : State) (o : Origin) (ix sub : Nat) : (Nat × Bytes) × State :=
  let e := readStatus s ix sub
  if e ≠ 0 then ((e, []), s)
  else
    let (b, s) := readBytes s o ix sub
    ((stOk, b), s)

/-- A read that was held reaches its final result: the status and the bytes that its answer takes. -/
def readHeld (s : State) (t : Ticket) (off len : Nat) : (Nat × Bytes) × State :=
  let ((st, b), s') := entryRead s t.origin (t.key / 256) (t.key % 256)
  if off = 0 && len < b.length && 1024 < len then ((stLength, []), s) else ((st, (b.drop off).take len), s')

/-- A read accepted: answered at once, or pending where its result does not exist within 10 ms (R27). -/
def readAccess (s : State) (o : Origin) (ix sub off len : Nat) (slow : Bool) : (Nat × Bytes) × State :=
  if slow && readStatus s ix sub = 0 then
    let (no, s) := openRead s o (dkey ix sub) off len
    ((stPending, leBytes 4 no), s)
  else readHeld s ⟨0, o, noMsg, dkey ix sub, false, none, none⟩ off len

/-! ### The final result of a pending access (R27, R28) -/

/-- The result of a held access placed in its ticket; one whose ticket has been retired goes. -/
def accessFinal (s : State) (no : Nat) : State :=
  if !dictOn s then s
  else match s.net.tickets.find? fun t => t.no = no && t.held && t.final.isNone with
    | none => s
    | some t =>
      let s := { s with net := { s.net with tickets := s.net.tickets.erase t } }
      let (r, s) := match t.reading with
        | some (off, len) => readHeld s t off len
        | none => (((applyHeld s t).1, []), (applyHeld s t).2)
      if no = 0 then s
      else
        let t := { t with held := false, final := some r }
        { s with net := { s.net with tickets := s.net.tickets ++ [t] } }

def execAccessFinal (t : Rrp) (ticketNo : Nat) (s : State) : Out := .next (finish s (accessFinal (atTime s t) ticketNo))

end Sys2Proof.Machine
end

