-- ==== Sys2Proof/Machine/Network.lean ====
section
/-! DEFINITION. The paths to the dictionary: messages on Ethernet, mailbox and service UART, forwarding over the hive link, and
tickets (R29 to R40, R50 to R57, R80 to R82). -/

namespace Sys2Proof.Machine

def updNet (s : State) (f : Net → Net) : State := { s with net := f s.net }

/-- Statuses of Table 2-5 that only messages answer. -/
def stAuthFail : Nat := 4
def stReplay : Nat := 5
def stTicketUnknown : Nat := 6
def stUnreachable : Nat := 7
def stBadFormat : Nat := 8

/-! ### The message (R29, R30) -/

/-- A message of its bytes, MAC excluded. -/
def msgOf (b : Bytes) : Msg :=
  ⟨u8 b 0, u8 b 1, u8 b 2, u8 b 3, u16 b 4, u16 b 6, u32 b 8, u32 b 12, b.drop 16, [], b.length < 16, false⟩

/-- The header of a message. -/
def headerBytes (m : Msg) : Bytes :=
  leBytes 1 m.version ++ leBytes 1 m.op ++ leBytes 1 m.node ++ leBytes 1 m.sub ++ leBytes 2 m.index ++ leBytes 2 m.length ++
    leBytes 4 m.seq ++ leBytes 4 m.status

/-- A message as sent, MAC excluded. -/
def msgBytes (m : Msg) : Bytes := headerBytes m ++ m.payload

/-- Whether the payload has the size that Table 2-4 gives for the operation. -/
def payloadOk (op n : Nat) : Bool :=
  if op = 1 then n = 0 else if op = 3 || op = 4 || op = 6 then n = 4 else if op = 5 then 5 ≤ n else true

/-- A well-formed request (R30). -/
def formatOk (m : Msg) : Bool :=
  m.version = 1 && 1 ≤ m.op && m.op ≤ 6 && m.length ≤ 1028 && m.status = 0 && m.length = m.payload.length &&
    payloadOk m.op m.length && (m.node ≠ 0xFF || m.op = 2 || m.op = 6)

/-- The operations that write. -/
def isWrite (op : Nat) : Bool := op = 2 || op = 5 || op = 6

/-- The reply to a request, from a node. -/
def replyMsg (m : Msg) (node st : Nat) (payload : Bytes) : Msg :=
  { m with version := 1, op := m.op % 128 + 128, node := node, length := payload.length, status := st, payload := payload }

/-! ### Replies on their paths (R33, R38, R39) -/

/-- The MAC of a message: 16 zero bytes without an installation key. -/
def macOf (s : State) (b : Bytes) : Bytes :=
  match datagramKey s with
  | some k => (hmacSha256 k b).take 16
  | none => zeroBytes 16

/-- A SLIP frame (RFC 1055). -/
def slipFrame (b : Bytes) : Bytes :=
  [0xC0] ++ (b.flatMap fun x => if x = 0xC0 then [0xDB, 0xDC] else if x = 0xDB then [0xDB, 0xDD] else [x]) ++ [0xC0]

/-- The bytes of a SLIP frame up to its END; an END before any byte is passed over. -/
def slipBytes : Bytes → Bytes
  | [] => []
  | x :: xs =>
    if x = 0xC0 then []
    else if x = 0xDB then
      match xs with
      | [] => []
      | y :: ys => (if y = 0xDC then 0xC0 else if y = 0xDD then 0xDB else y) :: slipBytes ys
    else x :: slipBytes xs

/-- A mailbox. -/
def mailboxAt (s : State) (p : Nat) : Mailbox := vecAt s.net.mailboxes p resetMailbox
def updMailbox (s : State) (p : Nat) (f : Mailbox → Mailbox) : State :=
  updNet s fun n => { n with mailboxes := vecMod n.mailboxes p f }

/-- A reply's bytes on the path where the request entered: a datagram with its MAC, the mailbox that is BUSY, a SLIP frame. -/
def sendReply (s : State) (o : Origin) (b : Bytes) : State :=
  match o.path with
  | .eth => emit s (.reply o (b ++ macOf s b))
  | .pcie p => updMailbox s p.val fun q => if q.busy then { q with ready := some b } else q
  | .svc => emit s (.reply o (slipFrame (b ++ leBytes 2 (crcOf crc16Ccitt b))))
  | .can => emit s (.reply o b)

/-! ### Sources and replay (R35, R36) -/

/-- A tracked source. -/
def isSource (o : Origin) (q : Tracked) : Bool := q.addr = o.addr && q.port = o.port

def sourceOf (s : State) (o : Origin) : Option Tracked := s.net.sources.find? (isSource o)

/-- A source's entry replaced or added. -/
def putSource (s : State) (o : Origin) (q : Tracked) : State :=
  updNet s fun n => { n with sources := q :: n.sources.filter fun r => !isSource o r }

/-- The session epoch (0x1D09). -/
def epoch (s : State) : Nat := entryNum s 0x1D09 0

/-- What becomes of a write or TICKET request. -/
inductive Replay where
  | execute
  | resend (b : Bytes)
  | silent
  | refuse
  deriving DecidableEq, Repr

/-- R36. -/
def replayOf (s : State) (o : Origin) (seq : Nat) : Replay :=
  let fresh := fun (h : Option Nat) =>
    if bits seq 31 16 = epoch s && (match h with
      | some h => decide (h < seq)
      | none => true) then Replay.execute else .refuse
  match sourceOf s o with
  | none => if 32 ≤ s.net.sources.length then .refuse else fresh none
  | some q =>
    match q.kept.find? fun e => e.1 = seq with
    | some e => .resend e.2
    | none => if q.openSeqs.contains seq then .silent else fresh q.highest

/-- A request accepted: its SEQ is open, and a write raises the highest. -/
def acceptSeq (s : State) (o : Origin) (m : Msg) : State :=
  let q := (sourceOf s o).getD ⟨o.addr, o.port, none, [], []⟩
  putSource s o { q with highest := if isWrite m.op then some m.seq else q.highest, openSeqs := m.seq :: q.openSeqs }

/-- A reply kept with the last 8 of its source (R36). -/
def keepReply (s : State) (o : Origin) (seq : Nat) (b : Bytes) : State :=
  match o.path, sourceOf s o with
  | .eth, some q =>
    if q.openSeqs.contains seq then
      putSource s o { q with kept := ((seq, b) :: q.kept).take 8, openSeqs := q.openSeqs.filter fun n => n ≠ seq }
    else s
  | _, _ => s

/-- The answer of a node to a request. -/
def answer (s : State) (o : Origin) (m : Msg) (node st : Nat) (payload : Bytes) : State :=
  let b := msgBytes (replyMsg m node st payload)
  keepReply (sendReply s o b) o m.seq b

/-! ### The hive link's messages (R55 to R57, Table 3-8) -/

/-- The DICT cells of a message. -/
def dictCells (s : State) (dest no : Nat) (b : Bytes) : List Bytes :=
  (enumFrom 0 (chunks 20 ((b.length + 19) / 20) b)).map fun e => hiveCell s 0x06 dest false (leBytes 2 no ++ leBytes 2 e.1 ++ padTo 20 e.2)

/-- A message sent to a node, or to every node. -/
def sendDict (s : State) (dest no : Nat) (b : Bytes) : State :=
  if !s.hive.enumerated || s.hive.excluded then s
  else each (dictCells s dest no b) s fun s c => sendCell s false c

/-- Hive Forwarding Enable. -/
def forwarding (s : State) : Bool :=
  match viewProfile s 0x1D02 0 with
  | some v => v.toNat = 1
  | none => entryNum s 0x1D02 0 = 1

/-- An access forwarded under the next message number. -/
def forward (s : State) (o : Origin) (m : Msg) (dest : Nat) (present : List Nat) (results : List (Nat × Nat × Nat × Nat)) :
    State :=
  let no := s.net.nextMsgNo
  let f : Forwarded := ⟨no, o, m, dest = 0xFF, present, results⟩
  let s := updNet s fun n => { n with forwards := n.forwards ++ [f], nextMsgNo := (no + 1) % 65536 }
  sendDict s dest no (msgBytes m)

/-- The byte that a node's status makes in a broadcast's reply (R57). -/
def resultCode (st : Nat) : Nat := if st = stOk then 0 else if st = stPending then 2 else 1

/-- The reply of a broadcast: its status and its payload, from the nodes present and their results. -/
def broadcastReply (present : List Nat) (results : List (Nat × Nat × Nat × Nat)) : Nat × Bytes :=
  let resultOf := fun (k : Nat) => results.find? fun r => r.1 = k
  let code := fun (k : Nat) => if !present.contains k then 0xFF else match resultOf k with
    | some r => r.2.1
    | none => 3
  let status := fun (k : Nat) => match resultOf k with
    | some r => r.2.2.1
    | none => stUnreachable
  let st := ((rangeFrom 1 64).find? fun k => present.contains k && status k ≠ stOk).elim stOk status
  let tickets := (rangeFrom 1 64).flatMap fun k => match resultOf k with
    | some r => if present.contains k && r.2.1 = 2 then leBytes 4 r.2.2.2 else []
    | none => []
  (st, ((rangeFrom 1 64).flatMap fun k => leBytes 1 (code k)) ++ tickets)

/-- A forwarded access is over: with the target's answer, or without one (R56, R57). -/
def endForward (s : State) (f : Forwarded) (reply : Option Msg) : State :=
  let s := updNet s fun n => { n with forwards := n.forwards.erase f }
  if f.broadcast then
    let (st, p) := broadcastReply f.present f.results
    answer s f.origin f.msg (nodeIdOf s) st p
  else match reply with
    | some r => answer s f.origin f.msg r.node r.status r.payload
    | none => answer s f.origin f.msg f.msg.node stUnreachable []

/-- 20 ms without an answer. -/
def forwardTimeout (s : State) (no : Nat) : State :=
  match s.net.forwards.find? fun f => f.no = no with
  | some f => endForward s f none
  | none => s

def execForwardTimeout (t : Rrp) (msgNo : Nat) (s : State) : Out := .next (finish s (forwardTimeout (atTime s t) msgNo))

/-! ### Executing a request on this device -/

/-- The number of the ticket opened last. -/
def lastTicket (s : State) : Nat :=
  match s.net.tickets.getLast? with
  | some t => t.no
  | none => 0

/-- The payload of a status: the ticket of a pending access. -/
def withTicket (r : Nat × State) : (Nat × Bytes) × State :=
  ((r.1, if r.1 = stPending then leBytes 4 (lastTicket r.2) else []), r.2)

/-- READ: a value longer than a reply's payload of 1 028 bytes is left to READ_SEG. -/
def doRead (s : State) (o : Origin) (m : Msg) (slow : Bool) : (Nat × Bytes) × State :=
  readAccess s o m.index m.sub 0 1028 slow

/-- READ_SEG: up to 1 024 bytes from an offset. -/
def doReadSeg (s : State) (o : Origin) (m : Msg) (slow : Bool) : (Nat × Bytes) × State :=
  readAccess s o m.index m.sub (u32 m.payload 0) 1024 slow

/-- TICKET (R51). -/
def doTicket (s : State) (o : Origin) (m : Msg) : (Nat × Bytes) × State :=
  let no := u32 m.payload 0
  match ownTicket s o no with
  | none => ((stTicketUnknown, []), s)
  | some t =>
    match t.final with
    | none => ((stPending, leBytes 4 no), s)
    | some r => (r, retire s t)

/-- WRITE. -/
def doWrite (s : State) (o : Origin) (m : Msg) (slow : Bool) : (Nat × Bytes) × State :=
  withTicket (entryWrite s o m m.index m.sub m.payload slow)

/-- WRITE_SEG and WRITE_SEG_END. -/
def doWriteSeg (s : State) (o : Origin) (m : Msg) : (Nat × Bytes) × State :=
  withTicket (writeSegment s o m.index m.sub (u32 m.payload 0) (m.payload.drop 4))

def doWriteSegEnd (s : State) (o : Origin) (m : Msg) (slow : Bool) : (Nat × Bytes) × State :=
  withTicket (endSegments s o m m.index m.sub (u32 m.payload 0) slow)

/-- A request executed here (R26, R50). -/
def localAccess (s : State) (o : Origin) (m : Msg) (slow : Bool) : (Nat × Bytes) × State :=
  if 16 ≤ openTickets s o.path && m.op ≠ 3 then ((stBusy, []), s)
  else match m.op with
    | 1 => doRead s o m slow
    | 2 => doWrite s o m slow
    | 3 => doTicket s o m
    | 4 => doReadSeg s o m slow
    | 5 => doWriteSeg s o m
    | _ => doWriteSegEnd s o m slow

/-! ### Broadcasts (R57, R87) -/

/-- The kind and target frame of a frame-targeted write; none for any other. -/
def frameTarget (s : State) (m : Msg) : Option (Nat × Nat) × State :=
  let v := leNat m.payload
  if m.op ≠ 2 || m.sub ≠ 0 then (none, s)
  else if m.index = 0x2216 then (some (kindSwitch, bits v 63 32), s)
  else if m.index = 0x5C05 then (some (kindUpdate, v), s)
  else if m.index = 0x5C06 && vecAt s.tb.status 1 .absent = .qualified then
    let (f, s) := frameAt s v
    (some (kindUpdate, f), s)
  else (none, s)

/-- A frame-targeted write of a broadcast on this device: its general checks, then its part in the barrier. -/
def barrierWrite (s : State) (o : Origin) (m : Msg) (kind f coordinator : Nat) (present : List Nat) : Nat × State :=
  let e := writeStatus s o m.index m.sub m.payload
  if e ≠ 0 then (e, joinBarrier s f kind coordinator present false)
  else if kind = kindSwitch then broadcastSwitch s o (leNat m.payload) coordinator present
  else broadcastActivation s f coordinator present

/-- A broadcast executed on this device. -/
def broadcastLocal (s : State) (o : Origin) (m : Msg) (slow : Bool) (target : Option (Nat × Nat)) (coordinator : Nat)
    (present : List Nat) : (Nat × Bytes) × State :=
  match target with
  | some (kind, f) => withTicket (barrierWrite s o m kind f coordinator present)
  | none => localAccess s o m slow

/-- This device's result as a broadcast's reply holds it. -/
def ownResult (s : State) (r : Nat × Bytes) : Nat × Nat × Nat × Nat :=
  (nodeIdOf s, resultCode r.1, r.1, if r.1 = stPending then leNat r.2 else 0)

/-- A broadcast that entered here: executed here and forwarded to every other node; one that is too late for its barrier is
answered at once. -/
def broadcast (s : State) (o : Origin) (m : Msg) (slow : Bool) : State :=
  let own := nodeIdOf s
  let (n, s) := hiveCount s
  let present := nodesOf s n
  let (t, s) := frameTarget s m
  let late := match t with
    | some (_, f) => barrierLate s f
    | none => false
  match t, late with
  | some (kind, f), true =>
    let refused := present.map fun k => (k, 1, stState, 0)
    let s := lateBroadcast s f kind
    answer s o m own stState (broadcastReply present refused).2
  | _, _ =>
    let (r, s) := broadcastLocal s o m slow t own present
    let mine := [ownResult s r]
    if present = [own] then
      let (st, p) := broadcastReply present mine
      answer s o m own st p
    else forward s o m 0xFF present mine

/-! ### Routing (R54, R55) -/

/-- A request that has passed the checks of its path: executed here, by every node, or forwarded. A device alone needs no
forwarding for a broadcast (log entry 181). -/
def route (s : State) (o : Origin) (m : Msg) (slow : Bool) : State :=
  if m.node = 0 || m.node = nodeIdOf s then
    let ((st, p), s) := localAccess s o m slow
    answer s o m (nodeIdOf s) st p
  else if !forwarding s && (m.node ≠ 0xFF || s.hive.enumerated) then answer s o m m.node stUnreachable []
  else if m.node = 0xFF then broadcast s o m slow
  else forward s o m m.node [] []

/-! ### Ethernet (R33 to R36) -/

/-- Whether datagrams are served on a port: NET is on, and the port has an address (Table 2-11). -/
def ethServed (s : State) (e : Fin 2) : Bool := netOn s && entryNum s 0x1D04 (e.val + 1) ≠ 0

/-- Whether the MAC of a request verifies. -/
def macOk (s : State) (m : Msg) : Bool :=
  match datagramKey s with
  | some k => m.mac = (hmacSha256 k (msgBytes m)).take 16
  | none => false

/-- A request refused by its path's own checks. -/
def refuse (s : State) (o : Origin) (m : Msg) (st : Nat) : State :=
  sendReply s o (msgBytes (replyMsg m (nodeIdOf s) st []))

/-- A datagram. -/
def datagram (s : State) (o : Origin) (m : Msg) (slow : Bool) : State :=
  if m.short || !ethServed s o.eth then s
  else if s.net.restarting || isolatedRegion s .mgmt then
    emit s (.reply o (unavailableReply (msgBytes m) (nodeIdOf s) ++ zeroBytes 16))
  else if !dictOn s then s
  else if !formatOk m then refuse s o m stBadFormat
  else if isWrite m.op && !macOk s m then refuse (bump s 0x1D0A 0) o m stAuthFail
  else if !(isWrite m.op || m.op = 3) then route s o m slow
  else match replayOf s o m.seq with
    | .execute => route (acceptSeq s o m) o m slow
    | .resend b => sendReply s o b
    | .silent => s
    | .refuse => refuse s o m stReplay

/-! ### Mailbox and service UART (R37 to R40) -/

/-- A request of the mailbox: its format, then its way. -/
def mailboxRequest (s : State) (o : Origin) (m : Msg) (slow : Bool) : State :=
  if !formatOk m then refuse s o m stBadFormat else route s o m slow

/-- Whether the mailbox of a port is served: HOST is on, and the region of the port is in service. -/
def mailboxServed (s : State) (p : Fin 4) : Bool := domainOn s 15 && !isolatedRegion s (.host p)

/-- A request submitted with a message. -/
def submit (s : State) (p : Fin 4) (m : Msg) (slow : Bool) : State :=
  if !mailboxServed s p || !dictOn s then s
  else if (mailboxAt s p.val).busy || (mailboxAt s p.val).respValid then updMailbox s p.val fun q => { q with overrun := true }
  else mailboxRequest (updMailbox s p.val fun q => { q with busy := true, ready := none, sent := msgBytes m }) ⟨.pcie p, 0, 0, 0⟩ m slow

/-- The message in a mailbox's request buffer, of 1 280 bytes. -/
def mailboxMsg (q : Mailbox) : Msg :=
  let b := padTo 1280 q.req
  { msgOf b with payload := (b.drop 16).take (u16 b 6) }

def execMbxSubmit (t : Rrp) (p : Fin 4) (slow : Bool) (s : State) : Out :=
  let s' := atTime s t
  .next (finish s (submit s' p (mailboxMsg (mailboxAt s' p.val)) slow))

/-- The reply goes to MBX_RESP unless one stands there. -/
def replyReady (s : State) (p : Nat) : State :=
  let q := mailboxAt s p
  match q.ready with
  | some b =>
    if !q.busy || q.respValid then s
    else
      let s := updMailbox s p fun q => { q with resp := b, busy := false, respValid := true, ready := none }
      if q.irqEn then raiseVector s p q.vector else s
  | none => s

def execMbxReplyReady (t : Rrp) (p : Fin 4) (s : State) : Out := .next (finish s (replyReady (atTime s t) p.val))

/-- ACK clears RESP_VALID. -/
def mailboxAck (s : State) (p : Nat) : State := updMailbox s p fun q => { q with respValid := false }

def execMbxAck (t : Rrp) (p : Fin 4) (s : State) : Out := .next (finish s (mailboxAck (atTime s t) p.val))

/-- A message on the service UART. -/
def serviceRequest (s : State) (m : Msg) (slow : Bool) : State :=
  let o : Origin := ⟨.svc, 0, 0, 0⟩
  if m.short || !dictOn s then s else if !formatOk m then refuse s o m stBadFormat else route s o m slow

/-- A frame on the service UART: its CRC over header and payload. -/
def serviceFrame (s : State) (wire : Bytes) (slow : Bool) : State :=
  let b := slipBytes (wire.dropWhile fun x => x = 0xC0)
  let body := b.take (b.length - 2)
  if b.length < 2 || u16 b (b.length - 2) ≠ crcOf crc16Ccitt body then s else serviceRequest s (msgOf body) slow

def execSvcFrame (t : Rrp) (wire : Bytes) (slow : Bool) (s : State) : Out :=
  .next (finish s (serviceFrame (atTime s t) wire slow))

/-! ### The operations as requests (Table 2-4) -/

/-- A request on the path where it enters. CAN carries no such message. -/
def request (s : State) (o : Origin) (m : Msg) (slow : Bool) : State :=
  match o.path with
  | .eth => datagram s o m slow
  | .pcie p => submit s p m slow
  | .svc => serviceRequest s m slow
  | .can => s

/-- A message of an operation's row: an OP that Table 2-4 does not define stays as it came. -/
def withOp (m : Msg) (op : Nat) : Msg := if 1 ≤ m.op && m.op ≤ 6 then { m with op := op } else m

def execRead (t : Rrp) (o : Origin) (m : Msg) (s : State) : Out :=
  .next (finish s (request (atTime s t) o (withOp m 1) m.slowRead))

def execWrite (t : Rrp) (o : Origin) (m : Msg) (slow : Bool) (s : State) : Out :=
  .next (finish s (request (atTime s t) o (withOp m 2) slow))

def execTicket (t : Rrp) (o : Origin) (m : Msg) (s : State) : Out :=
  .next (finish s (request (atTime s t) o (withOp m 3) false))

def execReadSeg (t : Rrp) (o : Origin) (m : Msg) (s : State) : Out :=
  .next (finish s (request (atTime s t) o (withOp m 4) m.slowRead))

def execWriteSeg (t : Rrp) (o : Origin) (m : Msg) (s : State) : Out :=
  .next (finish s (request (atTime s t) o (withOp m 5) false))

def execWriteSegEnd (t : Rrp) (o : Origin) (m : Msg) (slow : Bool) (s : State) : Out :=
  .next (finish s (request (atTime s t) o (withOp m 6) slow))

/-! ### Tickets and sources that end (R36, R51) -/

/-- 60 s after its final result an unretrieved ticket is retired. -/
def ticketExpire (s : State) (no : Nat) : State :=
  updNet s fun n => { n with tickets := n.tickets.filter fun t => !(t.no = no && t.final.isSome) }

def execTicketExpire (t : Rrp) (ticketNo : Nat) (s : State) : Out := .next (finish s (ticketExpire (atTime s t) ticketNo))

/-- A source idle for 300 s is dropped. -/
def sourceDrop (s : State) (addr port : Nat) : State :=
  updNet s fun n => { n with sources := n.sources.filter fun q => !(q.addr = addr && q.port = port) }

def execSourceIdleDrop (t : Rrp) (addr port : Nat) (s : State) : Out := .next (finish s (sourceDrop (atTime s t) addr port))

/-! ### Hive cells (R80 to R82, R86) -/

/-- The types that a device relays (Table 3-8); ENUM has a row of its own. -/
def relayType (ty : Nat) : Bool := 4 ≤ ty && ty ≤ 7

/-- A cell relayed, unless this device is its destination or its origin, or its HOPS reach 64. A device that joined no hive
function relays it unchanged. -/
def relayCell (s : State) (rev : Bool) (cell : Bytes) : State :=
  let own := s.hive.enumerated && (u8 cell 2 = nodeIdOf s || u8 cell 1 = nodeIdOf s)
  if !relayType (u8 cell 0) || 64 ≤ u8 cell 3 % 128 then s
  else if s.hive.excluded then sendCell s rev cell
  else if own || 64 ≤ u8 cell 3 % 128 + 1 then s
  else sendCell s rev (relayed cell (sub cell 4 24))

/-- A fragment noted: its message so far. -/
def addFragment (s : State) (node no off : Nat) (b : Bytes) : Reassembly × State :=
  let old := (s.net.fragments.find? fun r => r.node = node && r.no = no).getD ⟨node, no, []⟩
  let new : Reassembly := { old with data := (off, b) :: old.data.filter fun e => e.1 ≠ off }
  (new, updNet s fun n => { n with fragments := new :: n.fragments.filter fun r => !(r.node = node && r.no = no) })

/-- The whole message of a reassembly, once every byte that its header counts is there. -/
def wholeMessage (r : Reassembly) : Option Bytes :=
  match r.data.find? fun e => e.1 = 0 with
  | none => none
  | some e =>
    let total := 16 + u16 e.2 6
    let cells := (total + 19) / 20
    if (rangeFrom 0 cells).all fun i => r.data.any fun d => d.1 = i then
      some ((assembled (r.data.map fun d => (d.1 * 20, d.2))).take total)
    else none

/-- A reply to an access that this device forwarded. -/
def forwardReply (s : State) (no node : Nat) (r : Msg) : State :=
  match s.net.forwards.find? fun f => f.no = no && (f.broadcast || f.msg.node = node) with
  | none => s
  | some f =>
    if !f.broadcast then endForward s f (some r)
    else if f.results.any fun e => e.1 = node then s
    else
      let g := { f with results := f.results ++ [(node, resultCode r.status, r.status, if r.status = stPending then leNat r.payload else 0)] }
      let s := updNet s fun n => { n with forwards := n.forwards.map fun h => if h = f then g else h }
      if g.present.all fun k => g.results.any fun e => e.1 = k then endForward s g none else s

/-- A request of another node: executed here under the origin where it entered the hive, answered to that node. -/
def remoteRequest (s : State) (node no : Nat) (m : Msg) (entered : Origin) (slow : Bool) : State :=
  let (t, s) := frameTarget s m
  let (r, s) :=
    if !dictOn s then ((stUnavailable, []), s)
    else if !formatOk m then ((stBadFormat, []), s)
    else if m.node = 0xFF then broadcastLocal s entered m slow t node []
    else localAccess s entered m slow
  sendDict s node no (msgBytes (replyMsg m (nodeIdOf s) r.1 r.2))

/-- A DICT cell for this device. -/
def dictCell (s : State) (cell : Bytes) (entered : Entered) : State :=
  let node := u8 cell 1
  let no := u16 cell 4
  let (r, s) := addFragment s node no (u16 cell 6) (sub cell 8 20)
  match wholeMessage r with
  | none => s
  | some b =>
    let s := updNet s fun n => { n with fragments := n.fragments.filter fun q => !(q.node = node && q.no = no) }
    let m := msgOf b
    if 128 ≤ m.op then (if dictOn s then forwardReply s no node m else s) else remoteRequest s node no m entered.origin entered.slow

/-- A hive cell: its CRC and type, its relay, and a dictionary message for this device. What cells of the other types carry is
the effect of their own rows. -/
def cellReceive (s : State) (rev : Bool) (cell : Bytes) (entered : Entered) : State :=
  if !netOn s then s
  else if !cellOk cell then cellError s
  else
    let s := relayCell s rev cell
    let mine := s.hive.enumerated && !s.hive.excluded && (u8 cell 2 = 0xFF || u8 cell 2 = nodeIdOf s) && u8 cell 1 ≠ nodeIdOf s
    if u8 cell 0 = 6 && mine then dictCell s cell entered else s

def execHiveCellReceive (t : Rrp) (rev : Bool) (cell : Bytes) (entered : Entered) (s : State) : Out :=
  .next (finish s (cellReceive (atTime s t) rev cell entered))

end Sys2Proof.Machine
end

