-- ==== Sys2Proof/Machine/CanOpen.lean ====
section
/-! DEFINITION. CANopen FD: USDO, NMT, PDOs, SYNC, heartbeat and the EMCY proxy (R41 to R49, R51). -/

namespace Sys2Proof.Machine

/-! ### USDO (R42) -/

/-- The CAN path. -/
def canOrigin : Origin := ⟨.can, 0, 0, 0⟩

/-- Whether the node serves a bus: the dictionary runs and the controller has power. 0x1D00 enables what the device sends by itself
(R41); a bus that it disables still receives and is answered (R47). -/
def busServed (s : State) (bus : Nat) : Bool := dictOn s && (bus = 0 || can1On s)

/-- The abort code of a status. -/
def abortCode (st : Nat) : Nat := if st ≤ 9 then 0x080000F0 + st else st

/-- The accesses that retrieve a result, exempt from the limit of tickets (R50). -/
def retrieval (ix : Nat) : Bool := ix = 0x1FA0

/-- A download: a DOMAIN entry is one whole DOMAIN write from source CAN (R31). -/
def usdoDownload (s : State) (ix sub : Nat) (data : Bytes) (slow : Bool) : Nat × State :=
  if isDomain ix sub then
    let (st, s) := writeSegment s canOrigin ix sub 0 data
    if st ≠ 0 then (st, s) else endSegments s canOrigin noMsg ix sub data.length slow
  else entryWrite s canOrigin noMsg ix sub data slow

/-- A write of 0x1FA0 passes the limit of 16 tickets and has its own status. -/
def usdoWrite (s : State) (u : Usdo) (slow : Bool) : Nat × State :=
  if retrieval u.index then
    let e := entryStatus s canOrigin u.index u.sub
    if e ≠ 0 then (e, s)
    else if u.data.length ≠ 4 then (stLength, s) else applyWrite s canOrigin u.index u.sub u.data
  else if 16 ≤ openTickets s .can then (stBusy, s)
  else usdoDownload s u.index u.sub u.data slow

/-- An upload. -/
def usdoRead (s : State) (u : Usdo) (slow : Bool) : (Nat × Bytes) × State :=
  if retrieval u.index then entryRead s canOrigin u.index u.sub
  else if 16 ≤ openTickets s .can then ((stBusy, []), s)
  else if slow && readStatus s u.index u.sub = 0 then
    ((stPending, []), (openRead s canOrigin (dkey u.index u.sub) 0 (2 ^ 32)).2)
  else entryRead s canOrigin u.index u.sub

/-- A USDO transfer: addressed to this node and answered, or a broadcast write without an answer. A stopped node serves no USDO
(PRESUMED, log entry 39: CiA 301). -/
def usdoRequest (s : State) (u : Usdo) (slow : Bool) : State :=
  if !busServed s u.bus.val || s.net.nmt = .stopped || !(u.node = 0 || u.node = nodeIdOf s) then s
  else if u.node = 0 then (if u.write then (usdoWrite s u slow).2 else s)
  else
    let ((st, b), s) := if u.write then (((usdoWrite s u slow).1, []), (usdoWrite s u slow).2) else usdoRead s u slow
    emit s (if st = stOk then .usdo u.bus.val u.index u.sub b else .usdoAbort u.bus.val u.index u.sub (abortCode st))

def execUsdoRequest (t : Rrp) (u : Usdo) (slow : Bool) (s : State) : Out := .next (finish s (usdoRequest (atTime s t) u slow))

/-! ### NMT (R43) -/

/-- An NMT command for this node, or for all, on a bus that is served. -/
def nmtFor (s : State) (bus : Fin 2) (node : Nat) (f : State → State) : State :=
  if busServed s bus.val && (node = 0 || node = nodeIdOf s) then f s else s

def setNmt (s : State) (st : NmtState) : State := updNet s fun n => { n with nmt := st }

def execNmtStart (t : Rrp) (bus : Fin 2) (node : Nat) (s : State) : Out :=
  .next (finish s (nmtFor (atTime s t) bus node fun s => setNmt s .operational))

def execNmtStop (t : Rrp) (bus : Fin 2) (node : Nat) (s : State) : Out :=
  .next (finish s (nmtFor (atTime s t) bus node fun s => setNmt s .stopped))

def execNmtPreOperational (t : Rrp) (bus : Fin 2) (node : Nat) (s : State) : Out :=
  .next (finish s (nmtFor (atTime s t) bus node fun s => setNmt s .preOperational))

/-- The communication objects at their stored values, then the boot-up message and pre-operational (CiA 301). -/
def resetCommunication (s : State) : State :=
  let s := each s.store s fun s e =>
    if e.1 / 256 < 0x2000 && e.1 / 256 ≠ 0x1011 then { s with dict := SMap.set unsetVal s.dict e.1 e.2 } else s
  bootUp s

def execNmtResetNode (t : Rrp) (bus : Fin 2) (node : Nat) (s : State) : Out :=
  .next (finish s (nmtFor (atTime s t) bus node resetCommunication))

def execNmtResetCommunication (t : Rrp) (bus : Fin 2) (node : Nat) (s : State) : Out :=
  .next (finish s (nmtFor (atTime s t) bus node resetCommunication))

/-! ### PDOs (R44) -/

/-- Whether PDO k of a communication index is in use: valid COB-ID, operational, something mapped. -/
def pdoOn (s : State) (comm map k : Nat) : Bool :=
  dictOn s && s.net.nmt = .operational && !bit (entryNum s (comm + k) 1) 31 && entryNum s (map + k) 0 ≠ 0

/-- A mapped value written as an access on CAN. -/
def pdoWrite (s : State) (v : Nat) (b : Bytes) : State :=
  if v = 0 then s else (entryWrite s canOrigin noMsg (bits v 31 16) (bits v 15 8) b false).2

/-- Mapped values taken from a frame in turn. -/
def pdoValues : List Nat → Bytes → State → State
  | [], _, s => s
  | v :: vs, b, s =>
    let n := bits v 7 0 / 8
    pdoValues vs (b.drop n) (pdoWrite s v (b.take n))

/-- A receive PDO: a frame shorter than its mapping writes nothing (PRESUMED, log entry 39: CiA 301). -/
def rpdoReceive (s : State) (bus : Fin 2) (k : Nat) (data : Bytes) : State :=
  let vs := pdoMap s (0x1600 + k)
  if !busServed s bus.val || !pdoOn s 0x1400 0x1600 k || data.length < mapBytes vs then s else pdoValues vs data s

def execRpdoReceive (t : Rrp) (bus : Fin 2) (k : Fin 8) (data : Bytes) (s : State) : Out :=
  .next (finish s (rpdoReceive (atTime s t) bus k.val data))

/-- An expected RPDO is late: EMCY 0x8250, where its event timer runs. -/
def rpdoTimeout (s : State) (k : Nat) : State :=
  if pdoOn s 0x1400 0x1600 k && entryNum s (0x1400 + k) 5 ≠ 0 then commEmcy s 0x8250 else s

def execRpdoTimeout (t : Rrp) (k : Fin 8) (s : State) : Out := .next (finish s (rpdoTimeout (atTime s t) k.val))

/-- The bytes of mapped entries. -/
def pdoBytes : List Nat → State → Bytes × State
  | [], s => ([], s)
  | v :: vs, s =>
    let (b, s) := if v = 0 then ([], s) else readBytes s canOrigin (bits v 31 16) (bits v 15 8)
    let (bs, s) := pdoBytes vs s
    (b ++ bs, s)

/-- A transmit PDO on each enabled bus. -/
def tpdoSend (s : State) (k : Nat) : State :=
  if !pdoOn s 0x1800 0x1A00 k then s
  else
    let (b, s) := pdoBytes (pdoMap s (0x1A00 + k)) s
    canSend s (entryNum s (0x1800 + k) 1 % 2 ^ 29) b

def execTpdoSend (t : Rrp) (k : Fin 8) (s : State) : Out := .next (finish s (tpdoSend (atTime s t) k.val))

/-! ### SYNC and heartbeat (R45 to R47) -/

/-- SYNC at (f, 0, 0) of every k-th frame, with its counter byte where 0x1019 asks for one. -/
def syncProduce (s : State) : State :=
  let k := syncFrames s.tb.rate (entryNum s 0x1006 0)
  let wrap := entryNum s 0x1019 0
  let f := s.now.frame
  if !dictOn s || !bit (entryNum s 0x1005 0) 30 || entryNum s 0x1006 0 = 0 || s.net.syncStopped || k = 0 ||
      rrpPos s.now ≠ 0 || f % k ≠ 0 || !(s.net.nmt = .operational || s.net.nmt = .preOperational) then s
  else canSend s (entryNum s 0x1005 0 % 2 ^ 29) (if wrap = 0 then [] else leBytes 1 (f / k % wrap + 1))

def execSyncProduce (t : Rrp) (s : State) : Out := .next (finish s (syncProduce (atTime s t)))

/-- The NMT state as the heartbeat carries it (CiA 301). -/
def nmtCode : NmtState → Nat
  | .initialising => 0
  | .stopped => 4
  | .operational => 5
  | .preOperational => 127

/-- The heartbeat; 0x1017 0 disables it. -/
def heartbeat (s : State) : State :=
  if !dictOn s || entryNum s 0x1017 0 = 0 then s else canSend s (0x700 + nodeIdOf s) (leBytes 1 (nmtCode s.net.nmt))

def execHeartbeatSend (t : Rrp) (s : State) : Out := .next (finish s (heartbeat (atTime s t)))

/-! ### EMCY proxy (R49) -/

/-- EMCY Proxy Enable. -/
def proxyOn (s : State) : Bool :=
  match viewProfile s 0x1D01 0 with
  | some v => v.toNat = 1
  | none => entryNum s 0x1D01 0 = 1

/-- An EMCY cell of another node: sent for it, under its inhibit time. -/
def emcyProxy (s : State) (node : Nat) (b : Bytes) : State :=
  if !dictOn s || !proxyOn s || node = nodeIdOf s then s
  else sendEmcy s ⟨u16 b 0, u32 b 3, u8 b 7, s.now, node, some (padTo 8 b)⟩

def execEmcyProxy (t : Rrp) (node : Nat) (emcy : Bytes) (s : State) : Out :=
  .next (finish s (emcyProxy (atTime s t) node emcy))

end Sys2Proof.Machine
end

