-- ==== Sys2Proof/Machine/Clearing.lean ====
section
/-! DEFINITION. The clear conditions of fault records that no other command brings about (Table 18-4). -/

namespace Sys2Proof.Machine

/-- No report of a record for some milliseconds. -/
def quietFor (s : State) (r : FaultRec) (ms : Nat) : Bool := waited s r.latest ms

/-- The last that runs holds (R107). -/
def activeHolds (s : State) : Bool := 0 < s.lasts.active && slotHolds s (s.lasts.active - 1) true

/-- The clear condition of an open record as Table 18-4 gives it, for the classes whose condition is one of time or of the
device's state; that of any other class is an event of another command, which clears the record itself. -/
def clearDue (s : State) (r : FaultRec) : Bool :=
  let inst := r.key % 2 ^ 16
  match r.key / 2 ^ 24 with
  | 0x03 => quietFor s r 10000
  | 0x10 => quietFor s r 60000
  | 0x11 => activeHolds s
  | 0x13 => quietFor s r 60000
  | 0x14 => quietFor s r 60000
  | 0x22 => quietFor s r 60000
  | 0x25 => quietFor s r 60000
  | 0x26 => (outAt s inst).link = .up && quietFor s r 10000
  | 0x30 => quietFor s r 60000
  | 0x41 => (hapticAt s inst).st ≠ .fault && quietFor s r 60000
  | 0x42 => s.dieLink && quietFor s r 10000
  | 0x71 => quietFor s r 10000
  | _ => false

/-- The clear condition of a key's record is met: it is clearing. -/
def faultClear (s : State) (key : Nat) : State :=
  match findRecord s key with
  | some (_, r) => if clearDue s r then clearFault s (key / 2 ^ 24) (key % 2 ^ 16) else s
  | none => s

def execFaultClear (t : Rrp) (key : Nat) (s : State) : Out := .next (finish s (faultClear (atTime s t) key))

end Sys2Proof.Machine
end

