-- ==== Sys2Proof/Machine/Registers.lean ====
section
/-! DEFINITION. The registers of BAR0 and BAR2 as words (R407, R409, R412 to R414): which access is accepted, what a word reads
as and what a write of it does. A register whose write has a row of its own is written by that row's operation. -/

namespace Sys2Proof.Machine

/-! ### Reads of a slice window -/

/-- The 64-bit registers of a slice window, by the offset of their low half (Tables 9-3, 11-4, 13-7, 15-5, 15-6). -/
def wideReg (off : Nat) : Bool :=
  [0x40, 0x100, 0x118, 0x200, 0x218, 0x228, 0x300, 0x400, 0x500].contains off ||
    (0x2000 ≤ off && off < 0x3000 && (off % 64 = 0 || off % 64 = 0x18))

/-- A register of stream j in slice k's window; zero of a stream that the slice does not own (R359). -/
def windowStream (s : State) (k j off : Nat) : Nat := if streamOwner s j = some k then streamReg s j off else 0

/-- The value of a 64-bit register. -/
def wideValue (s : State) (k off : Nat) : Nat :=
  if off = 0x40 then rrpNum s.now
  else if 0x2000 ≤ off then windowStream s k ((off - 0x2000) / 64) (off % 64)
  else sreg s k off

/-- A register of check channel c in slice k's window (Table 14-9); zero of a channel that the slice does not own (R412). -/
def windowCheck (s : State) (k c off : Nat) : Nat :=
  if ownerSlice s 0x07 c ≠ some k then 0
  else if off = 0 then chkStatus (checkAt s c)
  else if 0x20 ≤ off then u32 (checkAt s c).result (off - 0x20)
  else 0

/-- A 32-bit register of slice k's window; reserved and write-only ones read zero (R6). -/
def regValue (s : State) (k off : Nat) : Nat :=
  let q := sliceAt s k
  match off with
  | 0x000 => sliceId s k
  | 0x004 => vectorBase s k
  | 0x00C => sliceStatus s k
  | 0x10C => q.flipHead
  | 0x124 => q.flipcWrite
  | 0x12C => 2 * b2n (!q.waiting.isEmpty) + b2n (flipPending s k)
  | 0x20C => (ctxAt s k).head
  | 0x230 => gpuStatus s k
  | 0x30C => (decRingAt s k).head
  | 0x314 => b2n (decBusy s k)
  | 0x40C => q.chkHead
  | 0x414 => b2n (checkRunning s k)
  | _ =>
    if 0x20 ≤ off && off < 0x40 then (qosRegs s k).getD ((off - 0x20) / 4) 0
    else if 0x800 ≤ off && off < 0xC00 then windowCheck s k ((off - 0x800) / 64) (off % 64)
    else if 0x2000 ≤ off && off < 0x3000 then windowStream s k ((off - 0x2000) / 64) (off % 64)
    else sreg s k off % 2 ^ 32

/-- A 4-byte read (R407): of the low half of a 64-bit register, which latches the high half; of a high half, latched or not;
or of a 32-bit register. -/
def readWord (s : State) (k off : Nat) : Nat × State :=
  if wideReg off then
    let v := wideValue s k off
    (v % 2 ^ 32, setSreg s k (off + 2) (v / 2 ^ 32 + 2 ^ 32))
  else if 4 ≤ off && wideReg (off - 4) then
    let held := sreg s k (off - 2)
    if held = 0 then (wideValue s k (off - 4) / 2 ^ 32, s) else (held - 2 ^ 32, setSreg s k (off - 2) 0)
  else (regValue s k off, s)

/-- An accepted read of 4 or 8 bytes of slice k's window. -/
def readWindow (s : State) (k off size : Nat) : Nat × State :=
  if (sliceAt s k).st = .unbound then (0, s)
  else if size = 4 then readWord s k off
  else if wideReg off then (wideValue s k off, s)
  else (regValue s k off + 2 ^ 32 * regValue s k (off + 4), s)

/-! ### Writes of a slice window -/

/-- The CTRL register whose ENABLE locks a ring register (R240, R309, R415). -/
def lockOf (off : Nat) : Option Nat :=
  match off with
  | 0x100 => some 0x108
  | 0x200 => some 0x208
  | 0x218 => some 0x208
  | 0x220 => some 0x208
  | 0x228 => some 0x208
  | 0x300 => some 0x308
  | 0x400 => some 0x408
  | 0x500 => some 0x508
  | _ => none

/-- Whether a ring register takes writes: its ring is not enabled. -/
def unlocked (s : State) (k off : Nat) : Bool :=
  match lockOf off with
  | some c => !bit (sreg s k c) 31
  | none => true

/-- A 64-bit register written (R407). -/
def writeWide (s : State) (k off v : Nat) : State :=
  if off = 0x40 then s
  else if 0x2000 ≤ off then streamRegWrite s k ((off - 0x2000) / 64) (off % 64) v
  else if unlocked s k off then setSreg s k off (v % 2 ^ 64) else s

/-- FLIPC_CTRL written: a plain register; completions that wait go on while there is room (R415). -/
def flipcCtrl (s : State) (k v : Nat) : State := flipcRead (setSreg s k 0x120 (andMask v 0x8000000F)) k (sreg s k 0x128)

/-- CHK_STATUS of a channel that the slice owns: REFUSED is cleared by writing 1. -/
def checkStatusWrite (s : State) (k c v : Nat) : State :=
  if ownerSlice s 0x07 c = some k && bit v 0 then updCheck s c fun q => { q with refused := false } else s

/-- HAPTIC_TRIGGER with a residual motion that the write does not bring. -/
def triggerWrite (s : State) (k v : Nat) : State :=
  let (residual, s) := takeFree s (2 ^ 16)
  sliceTrigger s k v residual

/-- A 32-bit register of slice k's window written (Tables 9-3, 11-4, 13-7, 14-9, 15-5, 15-6); reserved and read-only ones
ignore it. -/
def writeReg (s : State) (k off v : Nat) : State :=
  match off with
  | 0x008 => sliceCtrl s k v
  | 0x010 => setSreg s k 0x10 (sreg s k 0x10 - andMask (sreg s k 0x10) (v % 256))
  | 0x014 => setSreg s k 0x14 (v % 256)
  | 0x108 => flipRingEnable s k v
  | 0x110 => flipDoorbell s k (v % 65536)
  | 0x120 => flipcCtrl s k v
  | 0x128 => flipcRead s k v
  | 0x208 => gpuRingEnable s k v
  | 0x210 => gpuDoorbell s k (v % 65536)
  | 0x220 => if unlocked s k 0x220 then setSreg s k 0x220 v else s
  | 0x308 => decRingEnable s k v
  | 0x310 => decDoorbell s k (v % 65536)
  | 0x408 => chkRingEnable s k v
  | 0x410 => chkDoorbell s k (v % 65536)
  | 0x508 => touchRingEnable s k v
  | 0x510 => setSreg s k 0x510 (v % 65536)
  | 0x514 => if bit v 0 then setSreg s k 0x514 (sreg s k 0x514 / 2 * 2) else s
  | 0x600 => triggerWrite s k v
  | 0x7FC => secureCall s k
  | _ =>
    if 0x700 ≤ off && off < 0x7FC then setSreg s k off v
    else if 0x800 ≤ off && off < 0xC00 && off % 64 = 0 then checkStatusWrite s k ((off - 0x800) / 64) v
    else if 0x2000 ≤ off && off < 0x3000 then streamRegWrite s k ((off - 0x2000) / 64) (off % 64) v
    else s

/-- A 4-byte write: the low half of a 64-bit register waits for its high half (R407). A high half without one keeps the low
half that stands. -/
def writeWord (s : State) (k off v : Nat) : State :=
  if wideReg off then setSreg s k (off + 1) (v + 2 ^ 32)
  else if 4 ≤ off && wideReg (off - 4) then
    let held := sreg s k (off - 3)
    let low := if held = 0 then wideValue s k (off - 4) % 2 ^ 32 else held - 2 ^ 32
    writeWide (setSreg s k (off - 3) 0) k (off - 4) (v * 2 ^ 32 + low)
  else writeReg s k off v

/-- An accepted write of 4 or 8 bytes of slice k's window: an unbound slice and one in a forced reset ignore it. -/
def writeWindow (s : State) (k off size v : Nat) : State :=
  if !windowOpen s k then s
  else if size = 4 then writeWord s k off (v % 2 ^ 32)
  else if wideReg off then writeWide s k off v
  else writeReg (writeReg s k off (v % 2 ^ 32)) k (off + 4) (v / 2 ^ 32 % 2 ^ 32)

/-! ### The mailbox of BAR2 (Table 2-8) -/

/-- A 32-bit register of a mailbox written. A SUBMIT reaches the request that stands in the buffer; whether its access stays
pending the write does not say. -/
def writeMailbox (s : State) (p : Fin 4) (off v : Nat) : State :=
  match off with
  | 0x000 => updMailbox s p.val fun q => { q with vector := bits v 15 8, irqEn := bit v 0 }
  | 0x004 => if bit v 3 then updMailbox s p.val fun q => { q with overrun := false } else s
  | 0x008 =>
    if bit v 0 then
      let (slow, s) := takeFree s 2
      submit s p (mailboxMsg (mailboxAt s p.val)) (slow = 1)
    else s
  | 0x00C => if bit v 0 then mailboxAck s p.val else s
  | _ =>
    if 0x100 ≤ off && off < 0x600 then
      updMailbox s p.val fun q => { q with req := patchBytes (padTo 1280 q.req) (off - 0x100) (leBytes 4 v) }
    else s

/-- An accepted write of 4 or 8 bytes of a mailbox. -/
def writeBar2 (s : State) (p : Fin 4) (off size v : Nat) : State :=
  let s := writeMailbox s p off (v % 2 ^ 32)
  if size = 8 then writeMailbox s p (off + 4) (v / 2 ^ 32 % 2 ^ 32) else s

/-- A 32-bit register of a mailbox read. MBX_DOORBELL and MBX_ACK are write-only, and read zero like what is reserved. -/
def mailboxWord (s : State) (p : Fin 4) (off : Nat) : Nat :=
  let q := mailboxAt s p.val
  match off with
  | 0x000 => q.vector * 256 + b2n q.irqEn
  | 0x004 => 8 * b2n q.overrun + 4 * b2n s.net.restarting + 2 * b2n q.respValid + b2n q.busy
  | _ =>
    if 0x100 ≤ off && off < 0x600 then u32 q.req (off - 0x100)
    else if 0x800 ≤ off && off < 0xD00 then u32 q.resp (off - 0x800)
    else 0

/-- An accepted read of 4 or 8 bytes of a mailbox. -/
def readBar2 (s : State) (p : Fin 4) (off size : Nat) : Nat :=
  mailboxWord s p off + if size = 8 then 2 ^ 32 * mailboxWord s p (off + 4) else 0

/-! ### Which accesses are accepted (R407, R409) -/

/-- A naturally aligned access of 4 or 8 bytes. -/
def accessFits (off size : Nat) : Bool := (size = 4 || size = 8) && off % size = 0

/-- Port p Window Violations. -/
def windowViolation (s : State) (p : Nat) : State := bump s (0x5400 + p) 5

/-! ### BAR0 (Table 15-3) -/

/-- A dword of the MSI-X table: message address low and high, message data, vector control. -/
def msixWord (e : MsixEntry) (i : Nat) : Nat :=
  match i with
  | 0 => e.addr % 2 ^ 32
  | 1 => e.addr / 2 ^ 32
  | 2 => e.data
  | _ => b2n e.masked

/-- A dword of the MSI-X table written. -/
def msixSet (e : MsixEntry) (i v : Nat) : MsixEntry :=
  match i with
  | 0 => { e with addr := e.addr / 2 ^ 32 * 2 ^ 32 + v }
  | 1 => { e with addr := v * 2 ^ 32 + e.addr % 2 ^ 32 }
  | 2 => { e with data := v }
  | _ => { e with masked := bit v 0 }

/-- A dword of the MSI-X structures of a port read. -/
def msixRead (s : State) (p off : Nat) : Nat :=
  let q := portAt s p
  if 0x200000 ≤ off && off < 0x200400 then
    msixWord (vecAt q.msix ((off - 0x200000) / 16) ⟨0, 0, true⟩) (off % 16 / 4)
  else if off = 0x201000 || off = 0x201004 then
    (rangeFrom 0 32).foldl (fun a i => setBit a i (q.msixPending.contains (i + 8 * (off - 0x201000)))) 0
  else 0

/-- A dword of the MSI-X structures written: an entry that is unmasked sends what was pending (R417). -/
def msixWrite (s : State) (p off v : Nat) : State :=
  if 0x200000 ≤ off && off < 0x200400 then
    releasePending (updPort s p fun q =>
      { q with msix := vecMod q.msix ((off - 0x200000) / 16) fun e => msixSet e (off % 16 / 4) v }) p
  else s

/-- A read of BAR0 answered. -/
def answerHost (s : State) (p v : Nat) : State := emit s (.hostRead p v)

/-- A BAR0 request turned away: a read returns zero, a write is discarded. -/
def turnAway (s : State) (p : Nat) (data : Option Nat) : State := if data.isNone then answerHost s p 0 else s

/-- The Window Check (R409): it is off, or the request carries the slice's PASID. -/
def windowCheckOk (s : State) (p k : Nat) (pasid : Option Nat) : Bool :=
  entryNum s (0x5400 + p) 4 = 0 || pasid = some (sliceAt s k).pasid

/-- A violation of the Window Check: counted, and recorded once per slice and second. -/
def windowFault (s : State) (p k : Nat) : State :=
  let s := windowViolation s p
  let recent : Bool := match (sliceAt s k).windowFaultAt with
    | some x => elapsed s.tb.rate x s.now < msTicks s.tb.rate 1000
    | none => false
  if recent then s else report (updSlice s k fun q => { q with windowFaultAt := some s.now }) 0x14 k effNone

/-- An accepted access of slice k's window. -/
def windowAccess (s : State) (p k off size : Nat) (data : Option Nat) : State :=
  match data with
  | some v => writeWindow s k off size v
  | none => let (v, s) := readWindow s k off size; answerHost s p v

/-- An accepted access beyond the slice windows. -/
def msixAccess (s : State) (p off size : Nat) (data : Option Nat) : State :=
  match data with
  | some v =>
    let s := msixWrite s p off (v % 2 ^ 32)
    if size = 8 then msixWrite s p (off + 4) (v / 2 ^ 32 % 2 ^ 32) else s
  | none => answerHost s p (msixRead s p off + if size = 8 then 2 ^ 32 * msixRead s p (off + 4) else 0)

/-- A BAR0 request of port p (R406, R407, R409). -/
def bar0Access (s : State) (p off size : Nat) (data : Option Nat) (pasid : Option Nat) : State :=
  let k := off / 65536
  if !portUp s p || 0x400000 ≤ off then s
  else if !accessFits off size then turnAway (windowViolation s p) p data
  else if 32 ≤ k then msixAccess s p off size data
  else if (sliceAt s k).st = .unbound || (sliceAt s k).port ≠ p then turnAway s p data
  else if !windowCheckOk s p k pasid then turnAway (windowFault s p k) p data
  else windowAccess s p k (off % 65536) size data

def execBar0Access (t : Rrp) (p : Fin 4) (off size : Nat) (data : Option Nat) (pasid : Option Nat) (s : State) : Out :=
  .next (finish s (bar0Access (atTime s t) p.val off size data pasid))

/-! ### Registers by their block -/

/-- A register of a slice window or a mailbox written, or read where no value comes with the access (log entry 199): accepted or
turned away by its size and alignment. -/
def registerWrite (s : State) (sp : RegSpace) (off size : Nat) (value : Option Nat) : State :=
  match sp with
  | .slice sl =>
    let p := (sliceAt s sl.val).port
    if (sliceAt s sl.val).st = .unbound || 65536 ≤ off then s
    else if !accessFits off size then turnAway (windowViolation s p) p value
    else windowAccess s p sl.val off size value
  | .mailbox p =>
    if !mailboxServed s p || 4096 ≤ off then s
    else if !accessFits off size then turnAway (windowViolation s p.val) p.val value
    else match value with
      | some v => writeBar2 s p off size v
      | none => answerHost s p.val (readBar2 s p off size)

def execRegisterWrite (t : Rrp) (sp : RegSpace) (off size : Nat) (value : Option Nat) (s : State) : Out :=
  .next (finish s (registerWrite (atTime s t) sp off size value))

end Sys2Proof.Machine
end

