-- ==== Sys2Proof/Machine/Frame.lean ====
section
/-! DEFINITION. The reference frame boundary (R97) and the binding cut-off of an output (R190 to R196). -/

namespace Sys2Proof.Machine

/-! ### FRAME_BOUNDARY -/

/-- The cycle position of the frame that begins (R97). -/
def advanceCycle (s : State) : State :=
  match activeLast s with
  | some l => updLasts s fun q => { q with cycle := cycleAt s l s.now.frame, cycleFrame := s.now.frame }
  | none => s

/-- Outputs of the active last whose DISPn has returned start (R227). -/
def restartOutputs (s : State) : State :=
  each (rangeFrom 0 8) s fun s n =>
    match activePlan s n with
    | some p => if domainOn s (dispDomain n) && (outAt s n).scan = .held then startOutput s n p else s
    | none => s

/-- A frame counted to a cell's dictionary binding (R195) and to a surface's age (R203): not while the management core, or
the secure island, restarts. -/
def frameAges (s : State) : State :=
  let cell := fun (r : CellRun) => if r.counting && !s.net.restarting then { r with unwritten := r.unwritten + 1 } else r
  let surface := fun (v : Surface) => if s.sec.island = 2 then v else { v with age := v.age + 1 }
  { s with outs := s.outs.map fun o => { o with cells := o.cells.map cell, surfaces := o.surfaces.map surface } }

/-- The compositor's quads are counted anew in each frame (R257). -/
def frameQuads (s : State) : State := { s with gpu := { s.gpu with quads := 0, quadFault := false } }

/-- The assumptions of the slot that a device-initiated switch of the next frame takes (R107). -/
def judgeSwitches (s : State) : State := judgeTransition (judgeMargin s)

/-- A reference frame boundary: the cadence, the cycle position, and what waits for a frame boundary. railReached says
whether a core rail that had to rise has reached its target (R511). -/
def frameBoundary (s : State) (railReached : Bool) : State :=
  if !rasterRuns s || rrpPos s.now ≠ 0 then s
  else
    let s := judgeSwitches (frameMonitors (frameQuads (frameAges (advanceCycle (timebaseFrame s)))))
    countBootFrame (countModeFrame (stepBoundary (restartOutputs (holdStart (railArrives s railReached)))))

def execFrameBoundary (t : Rrp) (railReached : Bool) (s : State) : Out :=
  .next (finish s (frameBoundary (atTime s t) railReached))

/-! ### BINDING_CUTOFF -/

/-- The output frame number j of the LATCH of output n that a last issues at a position. -/
def latchArg (s : State) (n : Nat) (x : Rrp) : Option Nat :=
  (activeLast s).bind fun l =>
    ((rowEvents l (cycleAt s l x.frame) x.line).find? fun e => e.kind = 1 && e.target = n && e.phase = x.phase).map fun e =>
      e.arg

/-- The 32-bit value of an entry as a binding reads it: a signed value sign-extended (R191). -/
def boundEntry (s : State) (ix sub : Nat) : Nat × State :=
  match rowOf ix sub with
  | none => (0, s)
  | some r =>
    let (b, s) := entryShown s .can r ix sub
    let signed := r.ty = .i8 || r.ty = .i16 || r.ty = .i32
    (if signed then ofSint 32 (sint (8 * b.length) (leNat b)) else leNat b % 2 ^ 32, s)

/-- A cell's binding value reduced to its state (R191), unknown (4) where R195 says so. -/
def cellState (s : State) (q : Cell) (r : CellRun) : Nat × State :=
  let two := fun (v : Nat) => v / 2 ^ q.shift % 4
  match q.kind with
  | 1 =>
    let level := (vecAt s.fio q.bindId ⟨false, zeroRrp⟩).level
    (if s.fioUnknown then 4 else b2n (level != bit q.flags 1), s)
  | 2 =>
    let (v, s) := boundEntry s q.bindId q.bindSub
    (if r.timedOut || (q.timeout ≠ 0 && q.timeout < r.unwritten) then 4 else two v, s)
  | 3 => (two (SMap.get zeroVar s.sentinel.vars q.bindId), s)
  | _ => (0, s)

/-- A cell before its first cut-off. -/
def newCell : CellRun := { state := 5, since := zeroRrp, blinkOff := false, unwritten := 0, timedOut := false, counting := false }

/-- A cell at the cut-off of the output frame that starts at x: its state, since when, and the half of its blink
(R193, R196). From here its frames are counted (R195). -/
def cutCell (s : State) (q : Cell) (r : CellRun) (x : Rrp) : CellRun × State :=
  let (v, s) := cellState s q r
  let r := { r with state := v, since := if r.state = v then r.since else x, counting := true }
  ({ r with blinkOff := blinkOffIn s q r x.frame }, s)

/-- Every cell of an output's table, in order. -/
def cutCells (x : Rrp) : List Cell → List CellRun → State → List CellRun × State
  | [], _, s => ([], s)
  | q :: qs, rs, s =>
    let (r, s) := cutCell s q (rs.headD newCell) x
    let (rest, s) := cutCells x qs rs.tail s
    (r :: rest, s)

/-- The binding cut-off of output n, 1 RL before the LATCH that the active last issues (R193). -/
def bindingCutoff (s : State) (n : Nat) : State :=
  let x := rrpAdd s.tb.rate s.now (rlTicks 1)
  match activePlan s n, atlasOut s n, latchArg s n x with
  | some p, some t, some j =>
    let opens := openedFrame { s with now := x } p j
    let (rs, s) := cutCells opens t.cells (outAt s n).cells s
    updOut s n fun o => { o with cells := rs }
  | _, _, _ => s

def execBindingCutoff (t : Rrp) (n : Fin 8) (s : State) : Out := .next (finish s (bindingCutoff (atTime s t) n.val))

end Sys2Proof.Machine
end

