-- ==== Sys2Proof/Machine/Dispatch.lean ====
section
/-! DEFINITION. One arm per command: the meaning of each. -/

namespace Sys2Proof.Machine

def exec (i : Instr) (s : State) : Host.Outcome State Fault Refusal :=
  match i with
  | .dieLinkTransfer t crcFails => Sys2Proof.Machine.execDieLinkTransfer t crcFails s
  | .dieLinkLoss t => Sys2Proof.Machine.execDieLinkLoss t s
  | .mgmtCoreRestart t => Sys2Proof.Machine.execMgmtCoreRestart t s
  | .mgmtRestartComplete t => Sys2Proof.Machine.execMgmtRestartComplete t s
  | .regionIsolate t g => Sys2Proof.Machine.execRegionIsolate t g s
  | .timebaseCopyFault t => Sys2Proof.Machine.execTimebaseCopyFault t s
  | .read t o m => Sys2Proof.Machine.execRead t o m s
  | .write t o m slow => Sys2Proof.Machine.execWrite t o m slow s
  | .ticket t o m => Sys2Proof.Machine.execTicket t o m s
  | .readSeg t o m => Sys2Proof.Machine.execReadSeg t o m s
  | .writeSeg t o m => Sys2Proof.Machine.execWriteSeg t o m s
  | .writeSegEnd t o m slow => Sys2Proof.Machine.execWriteSegEnd t o m slow s
  | .forwardTimeout t msgNo => Sys2Proof.Machine.execForwardTimeout t msgNo s
  | .accessFinal t ticketNo => Sys2Proof.Machine.execAccessFinal t ticketNo s
  | .ticketExpire t ticketNo => Sys2Proof.Machine.execTicketExpire t ticketNo s
  | .sourceIdleDrop t addr port => Sys2Proof.Machine.execSourceIdleDrop t addr port s
  | .mbxSubmit t p slow => Sys2Proof.Machine.execMbxSubmit t p slow s
  | .mbxReplyReady t p => Sys2Proof.Machine.execMbxReplyReady t p s
  | .mbxAck t p => Sys2Proof.Machine.execMbxAck t p s
  | .svcFrame t wire slow => Sys2Proof.Machine.execSvcFrame t wire slow s
  | .usdoRequest t u slow => Sys2Proof.Machine.execUsdoRequest t u slow s
  | .nmtStart t bus node => Sys2Proof.Machine.execNmtStart t bus node s
  | .nmtStop t bus node => Sys2Proof.Machine.execNmtStop t bus node s
  | .nmtPreOperational t bus node => Sys2Proof.Machine.execNmtPreOperational t bus node s
  | .nmtResetNode t bus node => Sys2Proof.Machine.execNmtResetNode t bus node s
  | .nmtResetCommunication t bus node => Sys2Proof.Machine.execNmtResetCommunication t bus node s
  | .rpdoReceive t bus k data => Sys2Proof.Machine.execRpdoReceive t bus k data s
  | .rpdoTimeout t k => Sys2Proof.Machine.execRpdoTimeout t k s
  | .tpdoSend t k => Sys2Proof.Machine.execTpdoSend t k s
  | .syncProduce t => Sys2Proof.Machine.execSyncProduce t s
  | .heartbeatSend t => Sys2Proof.Machine.execHeartbeatSend t s
  | .emcyProxy t node emcy => Sys2Proof.Machine.execEmcyProxy t node emcy s
  | .refsyncDatum t periodOk gptpN => Sys2Proof.Machine.execRefsyncDatum t periodOk gptpN s
  | .refsyncDatumMissing t => Sys2Proof.Machine.execRefsyncDatumMissing t s
  | .ptpSyncReceive t port slave asCapable stable hops grandmaster n err => Sys2Proof.Machine.execPtpSyncReceive t port slave asCapable stable hops grandmaster n err s
  | .ptpSourceLost t => Sys2Proof.Machine.execPtpSourceLost t s
  | .hiveTimingReceive t rev cell => Sys2Proof.Machine.execHiveTimingReceive t rev cell s
  | .hiveTimingTimeout t rev => Sys2Proof.Machine.execHiveTimingTimeout t rev s
  | .sourceDwellExpire t src => Sys2Proof.Machine.execSourceDwellExpire t src s
  | .timebaseLocked t => Sys2Proof.Machine.execTimebaseLocked t s
  | .acquisitionTimeout t => Sys2Proof.Machine.execAcquisitionTimeout t s
  | .frameBoundary t railReached => Sys2Proof.Machine.execFrameBoundary t railReached s
  | .fioInputChange t j level first => Sys2Proof.Machine.execFioInputChange t j level first s
  | .hiveCellReceive t rev cell entered => Sys2Proof.Machine.execHiveCellReceive t rev cell entered s
  | .hiveLaneFail t rev lane out => Sys2Proof.Machine.execHiveLaneFail t rev lane out s
  | .hiveTimingSend t => Sys2Proof.Machine.execHiveTimingSend t s
  | .hiveDelayExchange t out roundTrip turnaround => Sys2Proof.Machine.execHiveDelayExchange t out roundTrip turnaround s
  | .enumSend t => Sys2Proof.Machine.execEnumSend t s
  | .enumReceive t cell => Sys2Proof.Machine.execEnumReceive t cell s
  | .barrierArm t cell => Sys2Proof.Machine.execBarrierArm t cell s
  | .barrierDecide t => Sys2Proof.Machine.execBarrierDecide t s
  | .barrierCommit t cell => Sys2Proof.Machine.execBarrierCommit t cell s
  | .barrierAbort t cell => Sys2Proof.Machine.execBarrierAbort t cell s
  | .barrierDeadline t => Sys2Proof.Machine.execBarrierDeadline t s
  | .latch t n j => Sys2Proof.Machine.execLatch t n j s
  | .gpuWindow t ctx set len => Sys2Proof.Machine.execGpuWindow t ctx set len s
  | .gpuWindowClose t ctx => Sys2Proof.Machine.execGpuWindowClose t ctx s
  | .dramWindow t set => Sys2Proof.Machine.execDramWindow t set s
  | .touchBurst t ch plan => Sys2Proof.Machine.execTouchBurst t ch plan s
  | .freqChange t rate => Sys2Proof.Machine.execFreqChange t rate s
  | .freqChangeComplete t ok back => Sys2Proof.Machine.execFreqChangeComplete t ok back s
  | .checkStart t c plan => Sys2Proof.Machine.execCheckStart t c plan s
  | .contractViolation t item measure => Sys2Proof.Machine.execContractViolation t item measure s
  | .lastLoadComplete t slot => Sys2Proof.Machine.execLastLoadComplete t slot s
  | .lastSwitchRequest t o value => Sys2Proof.Machine.execLastSwitchRequest t o value s
  | .lastSwitchArm t => Sys2Proof.Machine.execLastSwitchArm t s
  | .lastSwitchExecute t railReached => Sys2Proof.Machine.execLastSwitchExecute t railReached s
  | .marginSwitch t railReached => Sys2Proof.Machine.execMarginSwitch t railReached s
  | .flipDoorbell t sl tail => Sys2Proof.Machine.execFlipDoorbell t sl tail s
  | .flipcReadWrite t sl value => Sys2Proof.Machine.execFlipcReadWrite t sl value s
  | .matrixCommit t o n k value => Sys2Proof.Machine.execMatrixCommit t o n k value s
  | .bandComplete t n band pass again => Sys2Proof.Machine.execBandComplete t n band pass again s
  | .bandDeadline t n band layer spans => Sys2Proof.Machine.execBandDeadline t n band layer spans s
  | .scanoutLine t n k badWords corrupt => Sys2Proof.Machine.execScanoutLine t n k badWords corrupt s
  | .flattenPassComplete t n => Sys2Proof.Machine.execFlattenPassComplete t n s
  | .releaseFenceWrite t => Sys2Proof.Machine.execReleaseFenceWrite t s
  | .offscreenComplete t => Sys2Proof.Machine.execOffscreenComplete t s
  | .recordFrameComplete t n => Sys2Proof.Machine.execRecordFrameComplete t n s
  | .bindingCutoff t n => Sys2Proof.Machine.execBindingCutoff t n s
  | .cellTimeout t n c => Sys2Proof.Machine.execCellTimeout t n c s
  | .cellBlinkToggle t n c => Sys2Proof.Machine.execCellBlinkToggle t n c s
  | .surfaceAgeExpire t n k => Sys2Proof.Machine.execSurfaceAgeExpire t n k s
  | .protectedCrcCompare t n => Sys2Proof.Machine.execProtectedCrcCompare t n s
  | .healthyRelease t n => Sys2Proof.Machine.execHealthyRelease t n s
  | .healthyAssert t n => Sys2Proof.Machine.execHealthyAssert t n s
  | .pairRearm t o n value => Sys2Proof.Machine.execPairRearm t o n value s
  | .hpdPlug t n => Sys2Proof.Machine.execHpdPlug t n s
  | .hpdUnplug t n => Sys2Proof.Machine.execHpdUnplug t n s
  | .irqHpd t n status => Sys2Proof.Machine.execIrqHpd t n status s
  | .linkTrainingComplete t n caps edid fails => Sys2Proof.Machine.execLinkTrainingComplete t n caps edid fails s
  | .linkTrainingRetry t n => Sys2Proof.Machine.execLinkTrainingRetry t n s
  | .auxRequest t o n req => Sys2Proof.Machine.execAuxRequest t o n req s
  | .auxReply t n status data symbolErrors => Sys2Proof.Machine.execAuxReply t n status data symbolErrors s
  | .phyFault t n => Sys2Proof.Machine.execPhyFault t n s
  | .phyRetry t n present => Sys2Proof.Machine.execPhyRetry t n present s
  | .immediateEnable t o n value => Sys2Proof.Machine.execImmediateEnable t o n value s
  | .immediateDescriptor t o n desc => Sys2Proof.Machine.execImmediateDescriptor t o n desc s
  | .testPattern t o n value => Sys2Proof.Machine.execTestPattern t o n value s
  | .gpuRingEnable t sl value => Sys2Proof.Machine.execGpuRingEnable t sl value s
  | .gpuDoorbell t sl tail => Sys2Proof.Machine.execGpuDoorbell t sl tail s
  | .nop t ctx => Sys2Proof.Machine.execNop t ctx s
  | .bindProgram t ctx => Sys2Proof.Machine.execBindProgram t ctx s
  | .bindResources t ctx => Sys2Proof.Machine.execBindResources t ctx s
  | .setTarget t ctx => Sys2Proof.Machine.execSetTarget t ctx s
  | .setState t ctx => Sys2Proof.Machine.execSetState t ctx s
  | .draw t ctx prims shaderFault => Sys2Proof.Machine.execDraw t ctx prims shaderFault s
  | .drawIndexed t ctx prims shaderFault => Sys2Proof.Machine.execDrawIndexed t ctx prims shaderFault s
  | .dispatch t ctx shaderFault => Sys2Proof.Machine.execDispatch t ctx shaderFault s
  | .traceRays t ctx shaderFault => Sys2Proof.Machine.execTraceRays t ctx shaderFault s
  | .endPass t ctx => Sys2Proof.Machine.execEndPass t ctx s
  | .barrier t ctx => Sys2Proof.Machine.execBarrier t ctx s
  | .waitMem t ctx => Sys2Proof.Machine.execWaitMem t ctx s
  | .waitMemSatisfied t ctx => Sys2Proof.Machine.execWaitMemSatisfied t ctx s
  | .writeMem t ctx => Sys2Proof.Machine.execWriteMem t ctx s
  | .hittestScene t ctx => Sys2Proof.Machine.execHittestScene t ctx s
  | .gpuJobComplete t ctx => Sys2Proof.Machine.execGpuJobComplete t ctx s
  | .preemptGraceExpire t cl => Sys2Proof.Machine.execPreemptGraceExpire t cl s
  | .clusterSaveComplete t cl => Sys2Proof.Machine.execClusterSaveComplete t cl s
  | .clusterFault t cl resetOk => Sys2Proof.Machine.execClusterFault t cl resetOk s
  | .compositorJobIssue t f => Sys2Proof.Machine.execCompositorJobIssue t f s
  | .captureFrameStart t j => Sys2Proof.Machine.execCaptureFrameStart t j s
  | .captureFrameComplete t j bpc pixels => Sys2Proof.Machine.execCaptureFrameComplete t j bpc pixels s
  | .captureEdidWrite t o j data => Sys2Proof.Machine.execCaptureEdidWrite t o j data s
  | .captureHpdRestore t j => Sys2Proof.Machine.execCaptureHpdRestore t j s
  | .decRingEnable t sl value => Sys2Proof.Machine.execDecRingEnable t sl value s
  | .decDoorbell t sl tail => Sys2Proof.Machine.execDecDoorbell t sl tail s
  | .decoderJobComplete t sl p => Sys2Proof.Machine.execDecoderJobComplete t sl p s
  | .rtpPacket t eth group udpPort rtp => Sys2Proof.Machine.execRtpPacket t eth group udpPort rtp s
  | .feedPictureComplete t f p => Sys2Proof.Machine.execFeedPictureComplete t f p s
  | .feedEnable t o f value => Sys2Proof.Machine.execFeedEnable t o f value s
  | .feedHoldExpire t f => Sys2Proof.Machine.execFeedHoldExpire t f s
  | .touchSlotEnd t ch counts => Sys2Proof.Machine.execTouchSlotEnd t ch counts s
  | .touchFrameComplete t ch => Sys2Proof.Machine.execTouchFrameComplete t ch s
  | .touchStartScan t ch => Sys2Proof.Machine.execTouchStartScan t ch s
  | .startScanComplete t ch nodes txSelf rxSelf => Sys2Proof.Machine.execStartScanComplete t ch nodes txSelf rxSelf s
  | .touchStepDown t ch => Sys2Proof.Machine.execTouchStepDown t ch s
  | .suspectHoldExpire t ch node => Sys2Proof.Machine.execSuspectHoldExpire t ch node s
  | .contactStale t ch contact => Sys2Proof.Machine.execContactStale t ch contact s
  | .touchChannelLost t ch => Sys2Proof.Machine.execTouchChannelLost t ch s
  | .touchRingEnable t sl value => Sys2Proof.Machine.execTouchRingEnable t sl value s
  | .touchSelfTestRequest t o ch value => Sys2Proof.Machine.execTouchSelfTestRequest t o ch value s
  | .touchSelfTestComplete t ch => Sys2Proof.Machine.execTouchSelfTestComplete t ch s
  | .captureReference t o ch value => Sys2Proof.Machine.execCaptureReference t o ch value s
  | .captureReferenceComplete t ch => Sys2Proof.Machine.execCaptureReferenceComplete t ch s
  | .vt40Counts t ch wire => Sys2Proof.Machine.execVt40Counts t ch wire s
  | .vt40Status t ch wire => Sys2Proof.Machine.execVt40Status t ch wire s
  | .vt40Identity t ch wire roundTripNs => Sys2Proof.Machine.execVt40Identity t ch wire roundTripNs s
  | .vt40LinkLost t ch => Sys2Proof.Machine.execVt40LinkLost t ch s
  | .vt40IdentifyRetry t ch => Sys2Proof.Machine.execVt40IdentifyRetry t ch s
  | .hapticPinTrigger t h rising residual => Sys2Proof.Machine.execHapticPinTrigger t h rising residual s
  | .hapticTrigger t sl value residual => Sys2Proof.Machine.execHapticTrigger t sl value residual s
  | .hapticNTrigger t o h value residual => Sys2Proof.Machine.execHapticNTrigger t o h value residual s
  | .mergeStart t h => Sys2Proof.Machine.execMergeStart t h s
  | .effectEnd t h => Sys2Proof.Machine.execEffectEnd t h s
  | .brakeEnd t h => Sys2Proof.Machine.execBrakeEnd t h s
  | .brakeTimeout t h => Sys2Proof.Machine.execBrakeTimeout t h s
  | .hapticFault t h cause => Sys2Proof.Machine.execHapticFault t h cause s
  | .hapticRestart t o h value => Sys2Proof.Machine.execHapticRestart t o h value s
  | .hapticMeasureDue t h => Sys2Proof.Machine.execHapticMeasureDue t h s
  | .measureRequest t o h value => Sys2Proof.Machine.execMeasureRequest t o h value s
  | .hapticMeasureComplete t h picofarad => Sys2Proof.Machine.execHapticMeasureComplete t h picofarad s
  | .hapticMeasureRetry t h => Sys2Proof.Machine.execHapticMeasureRetry t h s
  | .audioSample t sdin => Sys2Proof.Machine.execAudioSample t sdin s
  | .audioNop p j => Sys2Proof.Machine.execAudioNop p j s
  | .copy p j => Sys2Proof.Machine.execCopy p j s
  | .mix p j => Sys2Proof.Machine.execMix p j s
  | .mac p j => Sys2Proof.Machine.execMac p j s
  | .gainRamp p j => Sys2Proof.Machine.execGainRamp p j s
  | .hpf p j => Sys2Proof.Machine.execHpf p j s
  | .delay p j => Sys2Proof.Machine.execDelay p j s
  | .select p j => Sys2Proof.Machine.execSelect p j s
  | .clamp p j => Sys2Proof.Machine.execClamp p j s
  | .gainTargetWrite t o g value => Sys2Proof.Machine.execGainTargetWrite t o g value s
  | .audStreamEnable t sl k value => Sys2Proof.Machine.execAudStreamEnable t sl k value s
  | .audStreamDisable t sl k value => Sys2Proof.Machine.execAudStreamDisable t sl k value s
  | .swapFadeEnd t => Sys2Proof.Machine.execSwapFadeEnd t s
  | .mirrorReread t addr cause secondFails => Sys2Proof.Machine.execMirrorReread t addr cause secondFails s
  | .dramAccess t a => Sys2Proof.Machine.execDramAccess t a s
  | .channelGroupLost t g => Sys2Proof.Machine.execChannelGroupLost t g s
  | .panicEvaluate t port incomplete linesLeft waitedNs channels => Sys2Proof.Machine.execPanicEvaluate t port incomplete linesLeft waitedNs channels s
  | .dramRefresh t ch => Sys2Proof.Machine.execDramRefresh t ch s
  | .wckDqCompensation t ch converged => Sys2Proof.Machine.execWckDqCompensation t ch converged s
  | .eyeMarginStep t ch width height sweepEnd => Sys2Proof.Machine.execEyeMarginStep t ch width height sweepEnd s
  | .combBankFault t secureComb b corrected => Sys2Proof.Machine.execCombBankFault t secureComb b corrected s
  | .secureCombWipe t cause => Sys2Proof.Machine.execSecureCombWipe t cause s
  | .atlasReplaceComplete t => Sys2Proof.Machine.execAtlasReplaceComplete t s
  | .chkRingEnable t sl value => Sys2Proof.Machine.execChkRingEnable t sl value s
  | .chkDoorbell t sl tail => Sys2Proof.Machine.execChkDoorbell t sl tail s
  | .checkCStart t o c desc => Sys2Proof.Machine.execCheckCStart t o c desc s
  | .checkJobComplete t c readError => Sys2Proof.Machine.execCheckJobComplete t c readError s
  | .perstDeassert t p => Sys2Proof.Machine.execPerstDeassert t p s
  | .configRetryTimeout t p => Sys2Proof.Machine.execConfigRetryTimeout t p s
  | .bar0Access t p off size data pasid => Sys2Proof.Machine.execBar0Access t p off size data pasid s
  | .bar4Access t p off len data pasid => Sys2Proof.Machine.execBar4Access t p off len data pasid s
  | .registerWrite t sp off size value => Sys2Proof.Machine.execRegisterWrite t sp off size value s
  | .flipRingEnable t sl value => Sys2Proof.Machine.execFlipRingEnable t sl value s
  | .drain t sl value => Sys2Proof.Machine.execDrain t sl value s
  | .drainDone t sl => Sys2Proof.Machine.execDrainDone t sl s
  | .resume t sl value => Sys2Proof.Machine.execResume t sl value s
  | .reset t sl value => Sys2Proof.Machine.execReset t sl value s
  | .sliceForcedReset t o sl value => Sys2Proof.Machine.execSliceForcedReset t o sl value s
  | .forcedResetComplete t sl => Sys2Proof.Machine.execForcedResetComplete t sl s
  | .portReset t p cause => Sys2Proof.Machine.execPortReset t p cause s
  | .vsPost t sl => Sys2Proof.Machine.execVsPost t sl s
  | .pageTransfer t sl => Sys2Proof.Machine.execPageTransfer t sl s
  | .pageQuery t sl => Sys2Proof.Machine.execPageQuery t sl s
  | .svarWrite t sl => Sys2Proof.Machine.execSvarWrite t sl s
  | .measureExtend t sl => Sys2Proof.Machine.execMeasureExtend t sl s
  | .quote t sl => Sys2Proof.Machine.execQuote t sl s
  | .keyProvision t sl => Sys2Proof.Machine.execKeyProvision t sl s
  | .divisionSet t sl => Sys2Proof.Machine.execDivisionSet t sl s
  | .debugUnlock t sl => Sys2Proof.Machine.execDebugUnlock t sl s
  | .secureCallReply t sl => Sys2Proof.Machine.execSecureCallReply t sl s
  | .mailboxKeyRecord t rec => Sys2Proof.Machine.execMailboxKeyRecord t rec s
  | .mailboxDivisionRecord t rec => Sys2Proof.Machine.execMailboxDivisionRecord t rec s
  | .lifeCycleToken t resp => Sys2Proof.Machine.execLifeCycleToken t resp s
  | .mailboxDebugResponse t resp => Sys2Proof.Machine.execMailboxDebugResponse t resp s
  | .challengeHoldoffExpire t => Sys2Proof.Machine.execChallengeHoldoffExpire t s
  | .islandWatchdogExpire t => Sys2Proof.Machine.execIslandWatchdogExpire t s
  | .islandRestartComplete t verified digest => Sys2Proof.Machine.execIslandRestartComplete t verified digest s
  | .tamperAssert t => Sys2Proof.Machine.execTamperAssert t s
  | .modeRequest t path value => Sys2Proof.Machine.execModeRequest t path value s
  | .transitionCommit t railReached trained delaying => Sys2Proof.Machine.execTransitionCommit t railReached trained delaying s
  | .transitionComplete t => Sys2Proof.Machine.execTransitionComplete t s
  | .domainOffRequest t path d ready => Sys2Proof.Machine.execDomainOffRequest t path d ready s
  | .handshakeRetry t d ready => Sys2Proof.Machine.execHandshakeRetry t d ready s
  | .delayLimitExpire t d => Sys2Proof.Machine.execDelayLimitExpire t d s
  | .switchGoodTimeout t d => Sys2Proof.Machine.execSwitchGoodTimeout t d s
  | .powerGood g => Sys2Proof.Machine.execPowerGood g s
  | .powerGoodTimeout => Sys2Proof.Machine.execPowerGoodTimeout s
  | .oscReady => Sys2Proof.Machine.execOscReady s
  | .wakeHoldoffExpire => Sys2Proof.Machine.execWakeHoldoffExpire s
  | .epoAssert => Sys2Proof.Machine.execEpoAssert s
  | .supplyGroupFail g => Sys2Proof.Machine.execSupplyGroupFail g s
  | .resetAssert => Sys2Proof.Machine.execResetAssert s
  | .resetRelease epoHigh => Sys2Proof.Machine.execResetRelease epoHigh s
  | .bringupStep t step straps selfTestFails clusterFails sramMv railReached => Sys2Proof.Machine.execBringupStep t step straps selfTestFails clusterFails sramMv railReached s
  | .dramTrainingComplete t density allPass => Sys2Proof.Machine.execDramTrainingComplete t density allPass s
  | .wakePin p level => Sys2Proof.Machine.execWakePin p level s
  | .can0WakeFrame cob data => Sys2Proof.Machine.execCan0WakeFrame cob data s
  | .guardPeriod samples => Sys2Proof.Machine.execGuardPeriod samples s
  | .guardUsdoRead u => Sys2Proof.Machine.execGuardUsdoRead u s
  | .guardHeartbeat => Sys2Proof.Machine.execGuardHeartbeat s
  | .faultReport t cls inst effect => Sys2Proof.Machine.execFaultReport t cls inst effect s
  | .hiveTokenReceive t cell => Sys2Proof.Machine.execHiveTokenReceive t cell s
  | .hiveTokenExpire t key node => Sys2Proof.Machine.execHiveTokenExpire t key node s
  | .reporterDecision t key => Sys2Proof.Machine.execReporterDecision t key s
  | .faultClear t key => Sys2Proof.Machine.execFaultClear t key s
  | .faultRecordClose t key => Sys2Proof.Machine.execFaultRecordClose t key s
  | .pathDelayEval t slacks => Sys2Proof.Machine.execPathDelayEval t slacks s
  | .oscDriftEval t drift => Sys2Proof.Machine.execOscDriftEval t drift s
  | .predictionDaily t => Sys2Proof.Machine.execPredictionDaily t s
  | .inspectionDayEnd t gptpSeconds => Sys2Proof.Machine.execInspectionDayEnd t gptpSeconds s
  | .inspectionCheckpoint t => Sys2Proof.Machine.execInspectionCheckpoint t s
  | .updateLoadComplete t => Sys2Proof.Machine.execUpdateLoadComplete t s
  | .updateActivationFrame t o value => Sys2Proof.Machine.execUpdateActivationFrame t o value s
  | .updateActivationTime t o value => Sys2Proof.Machine.execUpdateActivationTime t o value s
  | .updateActivate t => Sys2Proof.Machine.execUpdateActivate t s
  | .updateConfirm t o value => Sys2Proof.Machine.execUpdateConfirm t o value s
  | .confirmationTimeout t => Sys2Proof.Machine.execConfirmationTimeout t s
  | .noServiceTimeout => Sys2Proof.Machine.execNoServiceTimeout s
  | .overTemperature t sensor centi => Sys2Proof.Machine.execOverTemperature t sensor centi s
  | .thermalTrip => Sys2Proof.Machine.execThermalTrip s
  | .dieLinkRestored t => Sys2Proof.Machine.execDieLinkRestored t s
  | .aonPowerOnReset epoHigh => Sys2Proof.Machine.execAonPowerOnReset epoHigh s
  | .tripCoolDown => Sys2Proof.Machine.execTripCoolDown s
  | .portLinkUp t p speed width => Sys2Proof.Machine.execPortLinkUp t p speed width s
  | .pcieConfigRequest t p field data => Sys2Proof.Machine.execPcieConfigRequest t p field data s
  | .captureSignalChange t j signal width height mhz => Sys2Proof.Machine.execCaptureSignalChange t j signal width height mhz s
  | .emcyInhibitExpire t node => Sys2Proof.Machine.execEmcyInhibitExpire t node s
  | .supplyOutOfRange t inst => Sys2Proof.Machine.execSupplyOutOfRange t inst s
  | .canErrorStateChange t bus what => Sys2Proof.Machine.execCanErrorStateChange t bus what s

end Sys2Proof.Machine
end

