-- ==== Sys2Proof/Safety.lean ====
section
/-! DEFINITION. What holds of the device between two commands, in the terms that claims use. -/

namespace Sys2Proof

open Machine

/-- Between two commands DRAM stands in its canonical form, and no write and no loss of a command is outstanding. -/
def Quiescent (s : State) : Prop := Memory.wf s.dram = true ∧ s.stores = [] ∧ s.dramLost = false

/-- A command that runs to its end from a state, with no fault and no refusal, in a state of which P holds. -/
def Gives (i : Instr) (s : State) (P : State → Prop) : Prop := ∃ u, exec i s = .next u ∧ P u

/-- Every byte of DRAM reads in u as it reads in s. -/
def SameBytes (s u : State) : Prop := ∀ a, memByte u a = memByte s a

/-- The latest thing sent is the reply of a node to a message on the service UART: header and payload with their CRC, framed
as R39 gives. -/
def Answered (o : Origin) (m : Msg) (node st : Nat) (p : Bytes) (u : State) : Prop :=
  let b := msgBytes (replyMsg m node st p)
  u.emitted.head? = some (.reply o (slipFrame (b ++ leBytes 2 (crcOf crc16Ccitt b))))

/-- A message that the service UART brings to this device and that it executes: the dictionary runs, the format holds for
the operation, the subindex is one of 256, the node is this one, and the path has a ticket free (R30, R50, R54). -/
def Served (s : State) (o : Origin) (m : Msg) (op : Nat) : Prop :=
  o = ⟨.svc, 0, 0, 0⟩ ∧ dictOn s = true ∧ m.short = false ∧ formatOk (withOp m op) = true ∧ (withOp m op).op = op ∧
    m.sub < 256 ∧ (m.node = 0 ∨ m.node = nodeIdOf s) ∧ openTickets s .svc < 16

/-- The status and payload that a READ answers whose value is there at once: the refusal, the value, or the length status of
a value longer than a reply's payload. -/
def readReply (s : State) (o : Origin) (ix sub : Nat) : Nat × Bytes :=
  let st := readStatus s ix sub
  let b := (readBytes s o ix sub).1
  if st ≠ 0 then (st, []) else if 1028 < b.length then (stLength, []) else (stOk, b)

/-- A write that an entry of fixed size takes as any other entry would: of the size and range of its row, on a path, in a mode
and at a time that let it be written, with no rule of its own (R20 to R28). -/
def PlainWrite (s : State) (o : Origin) (ix sub : Nat) (r : DRow) (data : Bytes) : Prop :=
  rowOf ix sub = some r ∧ isDomain ix sub = false ∧ r.perPath = false ∧ writeStatus s o ix sub data = 0 ∧
    crossOk s ix sub (leNat data) = true ∧ ownRule s o ix sub data = none

/-- A dictionary write of a number that the general checks let through to its entry's own rule. -/
def RowOpen (s : State) (o : Origin) (ix sub v : Nat) : Prop := writeStatus s o ix sub (numData ix sub v) = 0

/-- The status that a dictionary write with a row of its own answers. -/
def AnswersStatus (u : State) (o : Origin) (ix sub st : Nat) : Prop := u.emitted.head? = some (.status o (dkey ix sub) st)

/-- A request that the DRAM controller takes at once (R91, R104, R380): none waits before it, and its requester's item of the active
last has no action engaged and allots what it moves in the open window. While DRAM serves nothing, every request is judged at once. -/
def Admitted (s : State) (q : DramReq) : Prop :=
  s.lasts.waiting = [] ∧ (dramServing s = true → ∃ i item, dramItem s q.requester = some (i, item) ∧ s.lasts.windowOpen = true ∧
    (monitorAt s i).engaged = false ∧ (monitorAt s i).count + requestBytes s q ≤ allotment s s.lasts.windowSet i)

/-- A packet that the running job of a GPU context has next, in its place, with a header and a payload that can be read
(R243). -/
def PacketAt (s : State) (k op n : Nat) (j : GpuJob) (b : Bytes) : Prop :=
  k < 32 ∧ ctxRuns s k = true ∧ (ctxAt s k).job = some j ∧ j.ended = none ∧ j.waiting = false ∧
    (packetWords op = some n ∨ (op = 0 ∧ 1 ≤ n ∧ n < 65536)) ∧ j.pos + 4 * n ≤ j.cmdLen ∧
    placeOk op (ctxAt s k).pass.isSome = true ∧ jobRead s k (j.cmdAddr + j.pos) 4 = (leBytes 4 (op * 2 ^ 24 + n), s) ∧
    jobRead s k (j.cmdAddr + j.pos + 4) (4 * n - 4) = (b, s)

/-- The job of a GPU context has gone past a packet of n words. -/
def PastPacket (u : State) (k n : Nat) (j : GpuJob) : Prop :=
  ∃ q, (ctxAt u k).job = some q ∧ q.pos = j.pos + 4 * n ∧ q.ended = none ∧ q.waiting = false

/-- The job of a GPU context is to end with a status and DETAIL (R244). -/
def JobFails (u : State) (k status detail : Nat) : Prop :=
  ∃ q, (ctxAt u k).job = some q ∧ q.ended = some (status, detail)

end Sys2Proof
end

