-- ==== Sys2Proof/Certificates/Slice0/Obligations.lean ====
section
/-! DEFINITION. The statements about the model, for the provers. -/

open Sys2Proof Sys2Proof.Machine

/-- With a command at the front of the queue a step is exec of that command on the state with the queue's rest; on an empty queue the step changes nothing (the model's choice, log entry 40). -/
def Obligations.StepRunsTheFront : Prop :=
  (∀ (s : State) (c : Instr) (rest : List Instr), s.pending = c :: rest → step s = exec c { s with pending := rest }) ∧
    ∀ s : State, s.pending = [] → step s = .next s

/-- Every command answers a next state from every state; that state's queue is the one that the command began with, its writes have reached DRAM, and a step on a queue leaves exactly the queue's rest. -/
def Obligations.CommandsTakeOnlyTheirPlace : Prop :=
  (∀ (i : Instr) (s : State), ∃ u, exec i s = .next u ∧ u.pending = s.pending ∧ u.stores = [] ∧ u.dramLost = false) ∧
    ∀ (s : State) (c : Instr) (rest : List Instr), s.pending = c :: rest → ∃ u, step s = .next u ∧ u.pending = rest

/-- From every state in which DRAM stands in its canonical form (addresses strictly rising, no listed byte equal to what an unlisted address reads as) and no write or loss is outstanding, a step of any of the commands ends in such a state. -/
def Obligations.StepKeepsMemoryCanonical : Prop :=
  ∀ s t : State, Quiescent s → step s = .next t → Quiescent t

/-- After reset DRAM is in its canonical form with nothing outstanding, the queue is empty and nothing has been sent. -/
def Obligations.ResetIsQuiescent : Prop :=
  Quiescent State.reset ∧ State.reset.pending = [] ∧ State.reset.emitted = []

/-- A READ or READ_SEG of an entry that may not be read answers the refusal's status with no payload. Of one that may be read, and whose value is there within 10 ms, a READ answers status OK with the bytes of the entry and a READ_SEG at most 1 024 bytes from its offset; where the value is not there, either answers PENDING with a ticket that holds the read. A value longer than a reply's payload answers a READ with status 0x0607 0010 (the model's choice, log entry 177). -/
def Obligations.ReadAnswersTheValue : Prop :=
  ∀ (s : State) (t : Rrp) (o : Origin) (m : Msg),
    let st := readStatus (atTime s t) m.index m.sub
    let b := (readBytes (atTime s t) o m.index m.sub).1
    let Held := fun (op off len : Nat) (u : State) => ∃ no, Answered o (withOp m op) (nodeIdOf s) stPending (leBytes 4 no) u ∧
      ∃ k ∈ u.net.tickets, k.no = no ∧ k.key = dkey m.index m.sub ∧ k.origin = o ∧ k.reading = some (off, len) ∧ k.final = none
    (Served s o m 1 →
      (st ≠ 0 → Gives (.read t o m) s (Answered o (withOp m 1) (nodeIdOf s) st [])) ∧
      (st = 0 → m.slowRead = false → Gives (.read t o m) s (Answered o (withOp m 1) (nodeIdOf s)
        (if 1028 < b.length then stLength else stOk) (if 1028 < b.length then [] else b))) ∧
      (st = 0 → m.slowRead = true → Gives (.read t o m) s (Held 1 0 1028))) ∧
    (Served s o m 4 →
      (st ≠ 0 → Gives (.readSeg t o m) s (Answered o (withOp m 4) (nodeIdOf s) st [])) ∧
      (st = 0 → m.slowRead = false → Gives (.readSeg t o m) s (Answered o (withOp m 4) (nodeIdOf s) stOk
        ((b.drop (u32 m.payload 0)).take 1024))) ∧
      (st = 0 → m.slowRead = true → Gives (.readSeg t o m) s (Held 4 (u32 m.payload 0) 1024)))

/-- A write that an entry of fixed size without a rule of its own takes stores the value of its bytes in the entry, and in the configuration store where the entry is Stored: by a WRITE on the service UART, which answers OK with no payload; by a USDO download to this node, which is confirmed; by an RPDO that maps the entry alone. -/
def Obligations.WritesStoreTheValue : Prop :=
  ∀ (s : State) (t : Rrp) (ix sub : Nat) (r : DRow) (data : Bytes),
    (∀ (o : Origin) (m : Msg), Served s o m 2 → m.index = ix → m.sub = sub → m.payload = data →
      PlainWrite (atTime s t) o ix sub r data →
      Gives (.write t o m false) s fun u =>
        Answered o (withOp m 2) (nodeIdOf s) stOk [] u ∧ entry u ix sub = valueOf r data ∧
          (r.per = .stored → SMap.get unsetVal u.store (dkey ix sub) = valueOf r data)) ∧
    (∀ x : Usdo, busServed s x.bus.val = true → s.net.nmt ≠ .stopped → x.node = nodeIdOf s → x.write = true →
      x.index = ix → x.sub = sub → x.data = data → retrieval ix = false → openTickets s .can < 16 →
      PlainWrite (atTime s t) canOrigin ix sub r data →
      Gives (.usdoRequest t x false) s fun u =>
        u.emitted = .usdo x.bus.val ix sub [] :: s.emitted ∧ entry u ix sub = valueOf r data ∧
          (r.per = .stored → SMap.get unsetVal u.store (dkey ix sub) = valueOf r data)) ∧
    ∀ (bus : Fin 2) (k : Fin 8) (v : Nat), busServed s bus.val = true → pdoOn s 0x1400 0x1600 k.val = true →
      pdoMap s (0x1600 + k.val) = [v] → v ≠ 0 → bits v 7 0 / 8 = data.length → bits v 31 16 = ix → bits v 15 8 = sub →
      PlainWrite (atTime s t) canOrigin ix sub r data →
      Gives (.rpdoReceive t bus k data) s fun u =>
        entry u ix sub = valueOf r data ∧ (r.per = .stored → SMap.get unsetVal u.store (dkey ix sub) = valueOf r data)

/-- A TICKET request answers TICKET_UNKNOWN for a ticket that the path does not own, PENDING with the ticket while no result is there, and otherwise the final status and payload, after which the ticket is retired. The final result of a held plain write stands in its ticket, and the write has then stored its value; that of a held READ_SEG whose value can be read stands there too, with its bytes. TICKET_EXPIRE retires the ticket that it names where a result stands in it, and no other ticket. -/
def Obligations.TicketsHoldResults : Prop :=
  (∀ (s : State) (t : Rrp) (o : Origin) (m : Msg), Served s o m 3 →
    (ownTicket (atTime s t) o (u32 m.payload 0) = none →
      Gives (.ticket t o m) s (Answered o (withOp m 3) (nodeIdOf s) stTicketUnknown [])) ∧
    ∀ k, ownTicket (atTime s t) o (u32 m.payload 0) = some k →
      (k.final = none →
        Gives (.ticket t o m) s fun u =>
          Answered o (withOp m 3) (nodeIdOf s) stPending (leBytes 4 (u32 m.payload 0)) u ∧ u.net.tickets = s.net.tickets) ∧
      ∀ (st : Nat) (p : Bytes), k.final = some (st, p) →
        Gives (.ticket t o m) s fun u =>
          Answered o (withOp m 3) (nodeIdOf s) st p u ∧ u.net.tickets = s.net.tickets.erase k) ∧
  (∀ (s : State) (t : Rrp) (no off : Nat) (k : Ticket), dictOn s = true → no ≠ 0 →
    (s.net.tickets.find? fun e => e.no = no && e.held && e.final.isNone) = some k → k.reading = some (off, 1024) →
    readStatus { atTime s t with net := { s.net with tickets := s.net.tickets.erase k } } (k.key / 256) (k.key % 256) = 0 →
    Gives (.accessFinal t no) s fun u => ∃ q ∈ u.net.tickets, q = { k with held := false, final := some (stOk,
      ((readBytes { atTime s t with net := { s.net with tickets := s.net.tickets.erase k } } k.origin (k.key / 256) (k.key % 256)).1.drop off).take 1024) }) ∧
  (∀ (s : State) (t : Rrp) (no : Nat) (k : Ticket) (r : DRow), dictOn s = true → no ≠ 0 →
    (s.net.tickets.find? fun e => e.no = no && e.held && e.final.isNone) = some k → k.reading = none →
    PlainWrite { atTime s t with net := { s.net with tickets := s.net.tickets.erase k } } k.origin (k.key / 256) (k.key % 256) r
      k.msg.payload →
    Gives (.accessFinal t no) s fun u =>
      u.net.tickets = s.net.tickets.erase k ++ [{ k with held := false, final := some (stOk, []) }] ∧
        entry u (k.key / 256) (k.key % 256) = valueOf r k.msg.payload) ∧
  ∀ (s : State) (t : Rrp) (no : Nat), Gives (.ticketExpire t no) s fun u =>
    ∀ k, k ∈ u.net.tickets ↔ k ∈ s.net.tickets ∧ ¬(k.no = no ∧ k.final ≠ none)

/-- On the service UART a first segment within the largest size opens a DOMAIN write, empties the slot that it loads or marks the bank as loading; a later one from the same source joins it, and one from another source is refused BUSY. WRITE_SEG_END of a write whose segments do not cover every byte up to the total answers 0x0607 0010 and discards it. Of a complete write done within 10 ms it stores a gamma table, an effect that no playback uses or an EDID whose image is good, refuses a bad one with its status, and leaves the load of a last or an image pending. -/
def Obligations.DomainWritesComplete : Prop :=
  (∀ (s : State) (t : Rrp) (o : Origin) (m : Msg), Served s o m 5 → domainStatus (atTime s t) o m.index m.sub = 0 →
    let off := u32 m.payload 0
    let b := m.payload.drop 4
    off + b.length ≤ entrySize m.index m.sub →
    (openDomain s (dkey m.index m.sub) = none → segmentStatus (atTime s t) m.index m.sub = 0 →
      Gives (.writeSeg t o m) s fun u => Answered o (withOp m 5) (nodeIdOf s) stOk [] u ∧
        openDomain u (dkey m.index m.sub) = some ⟨dkey m.index m.sub, o, [(off, b)]⟩ ∧
        (m.index = 0x2211 → slotAt u (m.sub - 1) = { resetSlot with st := .loading, image := patchBytes [] off b }) ∧
        (m.index = 0x5C01 → bankAt u (inactiveBank u) = ⟨1, patchBytes [] off b, []⟩)) ∧
    ∀ d, openDomain s (dkey m.index m.sub) = some d →
      (sameSource d.origin o = true → Gives (.writeSeg t o m) s fun u => Answered o (withOp m 5) (nodeIdOf s) stOk [] u ∧
        openDomain u (dkey m.index m.sub) = some { d with segs := d.segs ++ [(off, b)] }) ∧
      (sameSource d.origin o = false → Gives (.writeSeg t o m) s fun u => Answered o (withOp m 5) (nodeIdOf s) stBusy [] u ∧
        u.net.domains = s.net.domains)) ∧
  ∀ (s : State) (t : Rrp) (o : Origin) (m : Msg) (d : OpenDomain), Served s o m 6 → domainStatus (atTime s t) o m.index m.sub = 0 →
    openDomain s (dkey m.index m.sub) = some d → sameSource d.origin o = true →
    let b := assembled d.segs
    let G := Gives (.writeSegEnd t o m false) s
    let Closed := fun (u : State) (st : Nat) => Answered o (withOp m 6) (nodeIdOf s) st [] u ∧ openDomain u (dkey m.index m.sub) = none
    (segmentsOk d.segs (u32 m.payload 0) = false → Gives (.writeSegEnd t o m false) s fun u => Closed u stLength) ∧
    (segmentsOk d.segs (u32 m.payload 0) = true →
      (isGamma m.index = true → gammaStatus b = 0 → G fun u => Closed u stOk ∧ entry u m.index m.sub = .raw b ∧
        (outAt u (m.index / 0x100 - 0x30)).gammaNext = (outAt s (m.index / 0x100 - 0x30)).gammaNext ++ [(t, b)]) ∧
      (isGamma m.index = true → gammaStatus b ≠ 0 → G fun u => Closed u (gammaStatus b) ∧ entry u m.index m.sub = entry s m.index m.sub) ∧
      (isEffect m.index = true → effectBusy s (effectNo m.index) = false → effectCheck b = 0 → G fun u => Closed u stOk ∧
        entry u m.index m.sub = .raw b) ∧
      (isEffect m.index = true → effectBusy s (effectNo m.index) = false → effectCheck b ≠ 0 → G fun u => Closed u (effectCheck b) ∧
        entry u m.index m.sub = entry s m.index m.sub) ∧
      (m.index = 0x5703 → b.length = 256 → G fun u => Closed u stOk ∧ entry u m.index m.sub = .raw b ∧
        (captureAt u (m.sub - 1)).hpdHold = true) ∧
      (m.index = 0x5703 → b.length ≠ 256 → G fun u => Closed u stLength ∧ entry u m.index m.sub = entry s m.index m.sub) ∧
      (m.index = 0x2211 ∨ m.index = 0x5C01 → G fun u => openDomain u (dkey m.index m.sub) = none ∧ writePending u (dkey m.index m.sub) = true))

/-- A SUBMIT while a served mailbox is BUSY or holds a reply sets OVERRUN and does nothing else; otherwise a READ whose value is there within 10 ms, of this device, sets BUSY and makes the reply, which MBX_REPLY_READY then writes to MBX_RESP, clearing BUSY and setting RESP_VALID. ACK clears RESP_VALID. A service frame whose CRC fails has no effect; a READ in one whose CRC holds is answered with the status and the bytes that the entry gives. -/
def Obligations.MailboxAndServiceFrames : Prop :=
  (∀ (s : State) (t : Rrp) (p : Fin 4) (slow : Bool), mailboxServed s p = true → dictOn s = true →
    ((mailboxAt s p.val).busy = true ∨ (mailboxAt s p.val).respValid = true →
      Gives (.mbxSubmit t p slow) s fun u =>
        u = finish s (updMailbox (atTime s t) p.val fun q => { q with overrun := true }) ∧
          mailboxAt u p.val = { mailboxAt s p.val with overrun := true }) ∧
    ((mailboxAt s p.val).busy = false → (mailboxAt s p.val).respValid = false → slow = false →
      ∀ m, m = mailboxMsg (mailboxAt s p.val) → formatOk m = true → m.op = 1 → m.sub < 256 → m.node = 0 ∨ m.node = nodeIdOf s →
      openTickets s (.pcie p) < 16 →
      let sent := updMailbox (atTime s t) p.val fun q => { q with busy := true, ready := none, sent := msgBytes m }
      let r := readReply sent ⟨.pcie p, 0, 0, 0⟩ m.index m.sub
      Gives (.mbxSubmit t p slow) s fun u => mailboxAt u p.val = { mailboxAt s p.val with
        busy := true, sent := msgBytes m, ready := some (msgBytes (replyMsg m (nodeIdOf s) r.1 r.2)) })) ∧
  (∀ (s : State) (t : Rrp) (p : Fin 4) (b : Bytes), (mailboxAt s p.val).ready = some b → (mailboxAt s p.val).busy = true →
    (mailboxAt s p.val).respValid = false →
    Gives (.mbxReplyReady t p) s fun u =>
      mailboxAt u p.val = { mailboxAt s p.val with resp := b, busy := false, respValid := true, ready := none }) ∧
  (∀ (s : State) (t : Rrp) (p : Fin 4), Gives (.mbxAck t p) s fun u =>
    mailboxAt u p.val = { mailboxAt s p.val with respValid := false }) ∧
  ∀ (s : State) (t : Rrp) (wire : Bytes) (slow : Bool),
    let b := slipBytes (wire.dropWhile fun x => x = 0xC0)
    let body := b.take (b.length - 2)
    let m := msgOf body
    let r := readReply (atTime s t) ⟨.svc, 0, 0, 0⟩ m.index m.sub
    (u16 b (b.length - 2) ≠ crcOf crc16Ccitt body → Gives (.svcFrame t wire slow) s fun u => u = finish s (atTime s t)) ∧
    (2 ≤ b.length → u16 b (b.length - 2) = crcOf crc16Ccitt body → Served s ⟨.svc, 0, 0, 0⟩ m 1 → m.op = 1 → slow = false →
      Gives (.svcFrame t wire slow) s (Answered ⟨.svc, 0, 0, 0⟩ m (nodeIdOf s) r.1 r.2))

/-- On a bus that the node serves, start, stop and pre-operational for it set the communication state to operational, stopped and pre-operational and change no other field of the state but the time; the two resets end in pre-operational with a boot-up message on every enabled bus and every entry below 0x2000, 0x1011 apart, that the configuration store holds at its stored value; and no NMT command changes the device mode, an output or the lasts, whether or not it is for this node. -/
def Obligations.NmtChangesOnlyCommunication : Prop :=
  (∀ (s : State) (t : Rrp) (bus : Fin 2) (node : Nat), busServed s bus.val = true → node = 0 ∨ node = nodeIdOf s →
    Gives (.nmtStart t bus node) s (fun u => u = finish s { atTime s t with net := { s.net with nmt := .operational } }) ∧
    Gives (.nmtStop t bus node) s (fun u => u = finish s { atTime s t with net := { s.net with nmt := .stopped } }) ∧
    Gives (.nmtPreOperational t bus node) s (fun u => u = finish s { atTime s t with net := { s.net with nmt := .preOperational } }) ∧
    let P : State → Prop := fun u => u.net = { s.net with nmt := .preOperational } ∧
      u.emitted = ((busesOn u).map fun b => Emit.can b (0x700 + nodeIdOf s) [0]).reverse ++ s.emitted ∧
      ∀ ix sub : Nat, SMap.wf unsetVal s.store = true → ix < 0x2000 → ix ≠ 0x1011 → sub < 256 →
        SMap.get unsetVal s.store (dkey ix sub) ≠ .unset → entry u ix sub = SMap.get unsetVal s.store (dkey ix sub)
    Gives (.nmtResetNode t bus node) s P ∧ Gives (.nmtResetCommunication t bus node) s P) ∧
  ∀ (s u : State) (t : Rrp) (bus : Fin 2) (node : Nat) (c : Instr),
    c ∈ [Instr.nmtStart t bus node, .nmtStop t bus node, .nmtPreOperational t bus node, .nmtResetNode t bus node,
      .nmtResetCommunication t bus node] → exec c s = .next u →
    u.mode = s.mode ∧ u.outs = s.outs ∧ u.lasts = s.lasts

/-- An operational node sends a mapped TPDO with the bytes of its entries, a SYNC producer at (f, 0, 0) of every k-th frame the SYNC with its counter byte, an enabled heartbeat its NMT state. Where no inhibit time holds the node, a proxy sends another node's EMCY with COB-ID 0x80 plus that node, and a late RPDO with an event timer and a CAN error state set bit 4 of the error register and send the EMCY with the code of Table 2-9 and that register. -/
def Obligations.CanFramesAreSent : Prop :=
  (∀ (s : State) (t : Rrp) (k : Fin 8), pdoOn s 0x1800 0x1A00 k.val = true →
    let r := pdoBytes (pdoMap (atTime s t) (0x1A00 + k.val)) (atTime s t)
    Gives (.tpdoSend t k) s fun u => u.emitted =
      ((busesOn r.2).map fun b => Emit.can b (entryNum r.2 (0x1800 + k.val) 1 % 2 ^ 29) r.1).reverse ++ r.2.emitted) ∧
  (∀ (s : State) (t : Rrp), dictOn s = true → bit (entryNum s 0x1005 0) 30 = true → s.net.syncStopped = false →
    s.net.nmt = .operational ∨ s.net.nmt = .preOperational → t.line = 0 → t.phase = 0 →
    let k := syncFrames s.tb.rate (entryNum s 0x1006 0)
    let wrap := entryNum s 0x1019 0
    entryNum s 0x1006 0 ≠ 0 → k ≠ 0 → t.frame % k = 0 →
    Gives (.syncProduce t) s fun u => u.emitted = ((busesOn s).map fun b =>
      Emit.can b (entryNum s 0x1005 0 % 2 ^ 29) (if wrap = 0 then [] else leBytes 1 (t.frame / k % wrap + 1))).reverse ++ s.emitted) ∧
  (∀ (s : State) (t : Rrp), dictOn s = true → entryNum s 0x1017 0 ≠ 0 →
    Gives (.heartbeatSend t) s fun u => u.emitted =
      ((busesOn s).map fun b => Emit.can b (0x700 + nodeIdOf s) (leBytes 1 (nmtCode s.net.nmt))).reverse ++ s.emitted) ∧
  (∀ (s : State) (t : Rrp) (node : Nat) (b : Bytes), dictOn s = true → proxyOn s = true → node ≠ nodeIdOf s →
    node ∉ s.net.inhibit → Gives (.emcyProxy t node b) s fun u => u.emitted =
      ((busesOn s).map fun k => Emit.can k (0x80 + node) (padTo 8 b)).reverse ++ s.emitted) ∧
  ∀ (s : State) (t : Rrp), dictOn s = true → nodeIdOf s ∉ s.net.inhibit →
    let Sent := fun (code : Nat) (u : State) => bit (entryNum u 0x1001 0) 4 = true ∧ ∃ key eff : Nat, ∀ b ∈ busesOn s,
      Emit.can b (emcyCob s) (leBytes 2 code ++ leBytes 1 (errorRegister u) ++ leBytes 4 key ++ leBytes 1 eff) ∈ u.emitted
    (∀ k : Fin 8, pdoOn s 0x1400 0x1600 k.val = true → entryNum s (0x1400 + k.val) 5 ≠ 0 →
      Gives (.rpdoTimeout t k) s (Sent 0x8250)) ∧
    ∀ (bus : Fin 2) (what : Fin 3),
      Gives (.canErrorStateChange t bus what) s (Sent (if what = 0 then 0x8110 else if what = 1 then 0x8120 else 0x8140))

/-- With the timebase on and another source followed, of a source that is not qualified a good datum (a REFSYNC datum a frame period after the one before; with NET on, an 802.1AS message in the configured domain of the only slave port, capable and stable, or a TIMING cell with a good CRC, a valid RRP and the same rate) raises the count of good datums and keeps the source qualifying, and the 4th qualifies it. An empty REFSYNC window counts a missing datum; the second in a row loses a qualified source. An 802.1AS loss or 600 RL without TIMING cells loses those sources. -/
def Obligations.SourcesQualifyByGoodDatums : Prop :=
  (∀ (s : State) (t : Rrp) (k n : Nat), timebaseOn s = true → k = 1 ∨ k = 2 ∨ k = 3 → srcStatus s k ≠ .qualified → vecAt s.tb.count (k - 1) 0 = n → n < 4 →
    s.tb.active ≠ 0 → s.tb.active ≠ k →
    let P : State → Prop := fun u => srcStatus u k = (if n = 3 then .qualified else .qualifying) ∧ vecAt u.tb.count (k - 1) 0 = n + 1 ∧
      u.tb.active = s.tb.active
    (k = 1 → ∀ g, Gives (.refsyncDatum t true g) s fun u => P u ∧ u.tb.missing = 0) ∧
    (k = 2 → netOn s = true → ∀ (p : PtpPort) (hops gm g : Nat) (err : Int), p.ptpDomain = entryNum s 0x2204 0 →
      (∀ q : Fin 2, q ≠ p.port → vecAt s.tb.ptpSlave q.val false = false) →
      Gives (.ptpSyncReceive t p true true true hops gm g err) s fun u => P u ∧ u.tb.gptpN = g ∧ u.tb.grandmaster = gm) ∧
    (k = 3 → netOn s = true → ∀ cell : Bytes, cellOk cell = true → ∀ p, p = (cell.drop 4).take 24 → u8 p 8 = rateCode s.tb.rate →
      rrpValid s.tb.rate (rrpOf (u64 p 0)) = true →
      Gives (.hiveTimingReceive t false cell) s fun u => P u ∧ u.tb.headSource = u8 p 10)) ∧
  (∀ (s : State) (t : Rrp), timebaseOn s = true → srcStatus s 1 = .qualified →
    (s.tb.missing = 0 → Gives (.refsyncDatumMissing t) s fun u => srcStatus u 1 = .qualified ∧ u.tb.missing = 1) ∧
    (1 ≤ s.tb.missing → Gives (.refsyncDatumMissing t) s fun u => srcStatus u 1 = .lost)) ∧
  (∀ (s : State) (t : Rrp), timebaseOn s = true → Gives (.ptpSourceLost t) s fun u => srcStatus u 2 = .lost) ∧
  ∀ (s : State) (t : Rrp) (rev : Bool), timebaseOn s = true → Gives (.hiveTimingTimeout t rev) s fun u => srcStatus u (if rev then 4 else 3) = .lost

/-- With the timebase on, an earlier source of the order that is still qualified after its dwell is followed, by slewing unless Bring-up may still step onto it; a followed source whose Locked condition holds makes the state LOCKED; acquisition without a source ends in FREE_RUN at frame 0; in Run a frame boundary advances the cycle position modulo P, the 59.94 Hz cadence modulo 5 and the duration of a holdover, and counts the frame to the day; and a changed level of a field input that has held for its filter time shows that level and the RRP of its first sample. A first fault of an executor copy is counted and keeps the mode, the lasts and the power state; a second one in Run, with no transition running, begins the entry into Hold. -/
def Obligations.TimebaseStates : Prop :=
  (∀ (s : State) (t : Rrp), timebaseOn s = true →
    (∀ k : Nat, s.tb.active ≠ 0 → k ∈ (sourceOrder s).takeWhile (fun j => j ≠ s.tb.active) → srcStatus s k = .qualified →
      Gives (.sourceDwellExpire t k) s fun u =>
        u.tb.active = k ∧ u.tb.st = (if s.tb.st = .acquiring ∧ rasterBusy s = false then .acquiring else .slewing)) ∧
    (s.tb.active ≠ 0 → Gives (.timebaseLocked t) s fun u => u.tb.st = .locked ∧ u.tb.active = s.tb.active) ∧
    (s.tb.st = .acquiring → s.tb.active = 0 → Gives (.acquisitionTimeout t) s fun u =>
      u.tb.st = .freeRun ∧ u.now = ⟨0, t.line, t.phase⟩)) ∧
  (∀ (s : State) (f : Nat) (r : Bool) (l : Last), timebaseOn s = true → s.mode = .run → activeLast s = some l →
    Gives (.frameBoundary ⟨f, 0, 0⟩ r) s fun u =>
      u.lasts.cycle = (s.lasts.cycle + frameDiff f s.lasts.cycleFrame) % l.cycles ∧ u.lasts.cycleFrame = f ∧
      u.tb.cadence = (if s.tb.rate = .hz5994 then (s.tb.cadence + 1) % 5 else 0) ∧
      u.tb.holdFrames = (if s.tb.st = .holdover then (s.tb.holdFrames + 1) % 2 ^ 32 else s.tb.holdFrames) ∧
      vecAt u.health.insp.modeCounts 3 0 = vecAt s.health.insp.modeCounts 3 0 + 1) ∧
  (∀ (s : State) (t : Rrp) (i : Fin 16) (level : Bool) (first : Rrp), s.dieLink = true → s.fioUnknown = false → s.mode ≠ .watch →
    s.mode ≠ .off → timebaseOn s = true → (vecAt s.fio i.val ⟨false, zeroRrp⟩).level ≠ level →
    entryNum s 0x5F00 (i.val + 1) * 256 ≤ elapsed s.tb.rate first t →
    Gives (.fioInputChange t i level first) s fun u => vecAt u.fio i.val ⟨false, zeroRrp⟩ = ⟨level, first⟩ ∧
      ∀ j : Fin 16, j ≠ i → vecAt u.fio j.val ⟨false, zeroRrp⟩ = vecAt s.fio j.val ⟨false, zeroRrp⟩) ∧
  ∀ (s : State) (t : Rrp), (s.tb.copyFaults = 0 → Gives (.timebaseCopyFault t) s fun u =>
      u.tb = { s.tb with copyFaults := 1 } ∧ u.mode = s.mode ∧ u.power = s.power ∧ u.lasts = s.lasts) ∧
    (1 ≤ s.tb.copyFaults → s.mode = .run → s.power.transition = none → Gives (.timebaseCopyFault t) s fun u =>
      u.power.transition = some ⟨.run, .hold, false, nextBoundary s.tb.rate t 4⟩)

/-- With NET on: a cell with a bad CRC or a reserved type is counted and has no other effect; a good one of the relayed types for another node, from another node, is relayed with HOPS raised by 1. A failed lane is kept. At lines that are multiples of 150 with PHASE 0 the device sends TIMING cells both ways; a delay exchange sets the hop delay to half the round trip less the turnaround. The head sends ENUM with count 1 and takes position 0; a device that is not the head takes the count of its first ENUM cell, below 64, as its position, and the head that sees its own cell again knows the ring closed and its size. -/
def Obligations.HiveCellsAndEnumeration : Prop :=
  ∀ (s : State) (t : Rrp), netOn s = true →
    (∀ (rev : Bool) (cell : Bytes) (o : Entered),
      (cellOk cell = false → s.hive.cellErrors + 1 < 2 ^ 32 → Gives (.hiveCellReceive t rev cell o) s fun u =>
        u = finish s { atTime s t with hive := { s.hive with cellErrors := s.hive.cellErrors + 1 } }) ∧
      (cellOk cell = true → relayType (u8 cell 0) = true → u8 cell 3 % 128 < 63 → s.hive.excluded = false → s.hive.enumerated = true →
        u8 cell 2 ≠ nodeIdOf s → u8 cell 2 ≠ 0xFF → u8 cell 1 ≠ nodeIdOf s →
        Gives (.hiveCellReceive t rev cell o) s fun u =>
          u = finish s (emit (atTime s t) (.hive rev (relayed cell (sub cell 4 24)))))) ∧
    (∀ (rev : Bool) (lane : Fin 2) (out : Bool), Gives (.hiveLaneFail t rev lane out) s fun u =>
      (out, rev, lane.val) ∈ u.hive.failedLanes ∧ ∀ e ∈ s.hive.failedLanes, e ∈ u.hive.failedLanes) ∧
    (timebaseOn s = true → s.hive.excluded = false → t.line % 150 = 0 → t.phase = 0 → Gives (.hiveTimingSend t) s fun u => u.emitted =
      .hive true (timingCell (atTime s t) true) :: .hive false (timingCell (atTime s t) false) :: s.emitted) ∧
    (∀ (out : Bool) (a b : Nat), Gives (.hiveDelayExchange t out a b) s fun u =>
      (if out then u.hive.hopDelayOutPs else u.hive.hopDelayPs) = (a - b) / 2) ∧
    (s.power.sampled.headSel = true → s.hive.enumStopped = false → Gives (.enumSend t) s fun u =>
      u.hive.pos = 0 ∧ u.hive.enumerated = true ∧
        ∃ cell, u.emitted = .hive false cell :: s.emitted ∧ u8 cell 0 = 3 ∧ u8 cell 4 = 1) ∧
    ∀ cell : Bytes, cellOk cell = true →
      (s.power.sampled.headSel = false → s.hive.enumerated = false → s.hive.excluded = false → u8 ((cell.drop 4).take 24) 0 < 64 →
        Gives (.enumReceive t cell) s fun u => u.hive.pos = u8 ((cell.drop 4).take 24) 0 ∧ u.hive.enumerated = true) ∧
      (s.power.sampled.headSel = true → u8 cell 1 = nodeIdOf s →
        Gives (.enumReceive t cell) s fun u => u.hive.closed = true ∧ u.hive.size = u8 ((cell.drop 4).take 24) 0)

/-- With NET on, the coordinator notes the first ARM of a node, a device that holds nothing yet holds a COMMIT that reaches it, and an ABORT makes Barrier Result 2. Of its one barrier, the coordinator at (F − 1, 0, 0) sends COMMIT both ways and holds it if every node present armed, and sends ABORT both ways and shows 2 otherwise. At (F − 1, L_ref/2, 0) a device that holds COMMIT arms its broadcast switch for F and shows 1, and one that holds neither shows 3; its barrier is over. -/
def Obligations.BarrierKeepsTheHiveInStep : Prop :=
  (∀ (s : State) (t : Rrp) (cell : Bytes) (b : Barrier), netOn s = true → cellOk cell = true →
    findBarrier s (u32 cell 5) (u8 cell 9) = some b →
    (barrierCell s cell 1 = true → b.coordinator = nodeIdOf s → u8 cell 10 ∉ b.arms →
      Gives (.barrierArm t cell) s fun u => findBarrier u (u32 cell 5) (u8 cell 9) = some { b with arms := u8 cell 10 :: b.arms }) ∧
    (barrierCell s cell 2 = true → b.held = none → Gives (.barrierCommit t cell) s fun u =>
      findBarrier u (u32 cell 5) (u8 cell 9) = some { b with held := some true }) ∧
    (barrierCell s cell 3 = true → Gives (.barrierAbort t cell) s fun u => u.hive.barrierResult = 2)) ∧
  (∀ (s : State) (t : Rrp) (b : Barrier), s.hive.barriers = [b] → b.coordinator = nodeIdOf s → s.hive.enumerated = true →
    netOn s = true → t = ⟨frameBefore b.target, 0, 0⟩ →
    let p := fun action rev => hiveCell s 0x04 0xFF rev (barrierPayload action b.target b.kind (nodeIdOf s))
    ((∀ n ∈ b.present, n ∈ b.arms) → Gives (.barrierDecide t) s fun u =>
      u.hive.barriers = [{ b with held := some true }] ∧
        u.emitted = .hive true (p 2 true) :: .hive false (p 2 false) :: s.emitted) ∧
    (¬(∀ n ∈ b.present, n ∈ b.arms) → Gives (.barrierDecide t) s fun u => u.hive.barrierResult = 2 ∧
      .hive true (p 3 true) ∈ u.emitted ∧ .hive false (p 3 false) ∈ u.emitted)) ∧
  ∀ (s : State) (t : Rrp) (b : Barrier), s.hive.barriers = [b] → t = ⟨frameBefore b.target, lrefOf s / 2, 0⟩ →
    (b.held = some true → ∀ q, b.kind = kindSwitch → s.lasts.request = some q → q.broadcast = true → q.frame = b.target →
      Gives (.barrierDeadline t) s fun u => u.hive.barrierResult = 1 ∧ u.hive.barriers = [] ∧
        u.lasts.request = some { q with armed := true }) ∧
    (b.held = none → Gives (.barrierDeadline t) s fun u => u.hive.barrierResult = 3 ∧ u.hive.barriers = [])

/-- While the secure island runs, a complete load that passes every check leaves its slot valid with the last and status 0, and one that fails leaves it refused with the code of the first failed check; its write then has its final result. A switch request in Run or Degraded for another slot and a frame ahead is pending; one past (F − 1, 0, 0) is refused with result 3. At (F − 1, 0, 0) a single node's switch that can be made is armed, and one that cannot ends with its reason; an armed one to a resident last is carried out at (F, 0, 0), its slot becomes the active one, with result 1, and a margin switch makes slot 3 active with result 8. -/
def Obligations.LastSwitchesTakePlaceOnTheirFrame : Prop :=
  (∀ (s : State) (t : Rrp) (k : Fin 4), (slotAt s k.val).st = .loading → writePending s (imageKey k.val) = true →
    s.sec.island ≠ 2 →
    let img := (slotAt s k.val).image
    let c := loadCheck (atTime s t) k.val img false
    (c = 0 → Gives (.lastLoadComplete t k) s fun u =>
      slotAt u k.val = ⟨.valid, img, some (parseLast img), 0, false⟩ ∧ writePending u (imageKey k.val) = false) ∧
    (c ≠ 0 → Gives (.lastLoadComplete t k) s fun u =>
      slotAt u k.val = ⟨.refused, [], none, c, false⟩ ∧ writePending u (imageKey k.val) = false)) ∧
  (∀ (s : State) (t : Rrp) (o : Origin) (v : Nat), RowOpen (atTime s t) o 0x2216 0 v → switchStatus (atTime s t) v = 0 →
    (rrpBefore ⟨frameBefore (bits v 63 32), 0, 0⟩ t = false → Gives (.lastSwitchRequest t o v) s fun u =>
      AnswersStatus u o 0x2216 0 stPending ∧ u.lasts.request = some ⟨bits v 63 32, bits v 7 0 - 1, false, false⟩) ∧
    (rrpBefore ⟨frameBefore (bits v 63 32), 0, 0⟩ t = true → Gives (.lastSwitchRequest t o v) s fun u =>
      AnswersStatus u o 0x2216 0 stState ∧ u.lasts = { s.lasts with result := 3 })) ∧
  (∀ (s : State) (t : Rrp) (q : SwitchReq), s.lasts.request = some q → q.broadcast = false → q.armed = false →
    t = ⟨frameBefore q.frame, 0, 0⟩ →
    (armResult (atTime s t) q = 0 → Gives (.lastSwitchArm t) s fun u => u.lasts = { s.lasts with request := some { q with armed := true } }) ∧
    (armResult (atTime s t) q ≠ 0 → Gives (.lastSwitchArm t) s fun u =>
      u.lasts = { s.lasts with request := none, result := armResult (atTime s t) q })) ∧
  (∀ (s : State) (t : Rrp) (r : Bool) (q : SwitchReq), s.lasts.request = some q → q.armed = true → t = ⟨q.frame, 0, 0⟩ →
    (resident s q.slot).isSome = true → Gives (.lastSwitchExecute t r) s fun u => u.lasts.active = q.slot + 1 ∧
      u.lasts.request = none ∧ u.lasts.result = 1 ∧ writePending u (dkey 0x2216 0) = false) ∧
  ∀ (s : State) (t : Rrp) (r : Bool) (f : Nat), s.lasts.marginAt = some f → t = ⟨f, 0, 0⟩ → s.lasts.active = 1 →
    (resident s 2).isSome = true → Gives (.marginSwitch t r) s fun u => u.lasts.active = 3 ∧ u.lasts.marginAt = none ∧ u.lasts.result = 8

/-- Where the active last issues the event and its target may be reached: LATCH opens an output frame of a running output that does not stop, with nothing missing in it; GPU_WINDOW with a cluster that works opens a window of the context from now to its length on clusters of its set; DRAM_WINDOW opens its set and, where no request and no flattening pass waits for it, restarts the count and ends the action and violation of every item of DRAM bytes; FREQ_CHANGE begins the change to its rate, another than the present one, while DRAM serves and no change runs; CHECK_START starts its plan on a free channel; in a measuring interval TOUCH_BURST fires one burst more of its plan, which runs at the channel's step, in the slot under way. -/
def Obligations.RowEventsReachTheirTargets : Prop :=
  (∀ (s : State) (t : Rrp) (n : Fin 8) (j : Fin 2) (p : OutPlan), eventDue (atTime s t) 1 n.val j.val = true →
    reachable s 1 n.val = true → activePlan s n.val = some p → (outAt s n.val).scan = .starting ∨ (outAt s n.val).scan = .running →
    (outAt s n.val).stopping = none →
    Gives (.latch t n j) s fun u => (outAt u n.val).frame = openedFrame (atTime s t) p j.val ∧ (outAt u n.val).frameJ = j.val ∧
      (outAt u n.val).bandStart = t ∧ (outAt u n.val).missing = [] ∧ (outAt u n.val).spareFrom = none) ∧
  (∀ (s : State) (t : Rrp) (k : Fin 34) (set len : Nat), eventDue (atTime s t) 2 k.val (len * 4096 + set) = true →
    reachable s 2 k.val = true → (∃ c ∈ maskBits 12 set, clusterOk s c = true) →
    Gives (.gpuWindow t k set len) s fun u => ∃ w, (ctxAt u k.val).window = some w ∧ w.opened = t ∧
      w.closes = rrpAdd s.tb.rate t (rlTicks len) ∧ ∀ c ∈ w.clusters, c ∈ maskBits 12 set) ∧
  (∀ (s : State) (t : Rrp) (set : Nat), eventDue (atTime s t) 3 0 set = true → Gives (.dramWindow t set) s fun u =>
    u.lasts.windowSet = set ∧ u.lasts.windowOpen = true ∧
      (s.lasts.waiting = [] → (∀ n : Nat, (outAt s n).pass = none ∧ (outAt s n).passAsked = false) →
        ∀ (i : Nat) (item : Item), itemAt s i = some item → item.resource ≠ 1 →
          (monitorAt u i).count = 0 ∧ (monitorAt u i).engaged = false ∧ (monitorAt u i).violated = false)) ∧
  (∀ (s : State) (t : Rrp) (l : Last) (k r : Nat), eventDue (atTime s t) 5 0 k = true → reachable s 5 0 = true →
    activeLast s = some l → l.rates[k]? = some r → r ≠ s.mem.rate → dramServing s = true → s.mem.changing = none →
    Gives (.freqChange t k) s fun u => u.mem.changing = some r ∧ u.mem.rate = s.mem.rate) ∧
  (∀ (s : State) (t : Rrp) (l : Last) (c : Fin 16) (k : Nat) (p : CheckPlan), eventDue (atTime s t) 6 c.val k = true →
    reachable s 6 c.val = true → activeLast s = some l → l.checks[k]? = some p → (checkAt s c.val).job = none →
    Gives (.checkStart t c k) s fun u => (checkAt u c.val).valid = false ∧ (checkAt u c.val).error = 0 ∧
      ∃ j, (checkAt u c.val).job = some j ∧ j.start = p.start ∧ j.length = p.length ∧ j.algorithm = p.algorithm ∧ j.item = p.item) ∧
  ∀ (s : State) (t : Rrp) (n : Fin 8) (i k : Nat) (p : BurstPlan), (burstPlans s n.val).find? (fun e => e.1 = i) = some (i, p) →
    bit p.rates ((touchAt s n.val).step - 1) = true → measuring (atTime s t) n.val = true →
    eventDue (atTime s t) 4 n.val i = true → reachable s 4 n.val = true → (touchAt s n.val).st = .scanning →
    measureEnds (atTime s t) (touchAt s n.val).step = false →
    (touchAt s n.val).fired.find? (fun e => e.1 = i) = some (i, k) →
    Gives (.touchBurst t n i) s fun u => (touchAt u n.val).fired.head? = some (i, k + 1)

/-- An event that the active last issues for a target in a domain that is off or in an isolated region changes nothing of the device but Skipped Events, which rises by one, and the place that the row has reached: no violation is reported. A DRAM_WINDOW closes the previous window and opens the next whether or not it is skipped, and a skipped one, where nothing waits for it, is counted too. -/
def Obligations.SkippedRowEventsHaveNoEffect : Prop :=
  (∀ (s : State) (t : Rrp) (c : Instr) (kind target arg : Nat), Quiescent s → entryNum s 0x221A 0 + 1 < 2 ^ 32 →
    (∃ (n : Fin 8) (j : Fin 2), c = .latch t n j ∧ kind = 1 ∧ target = n.val ∧ arg = j.val) ∨
    (∃ (k : Fin 34) (set len : Nat), c = .gpuWindow t k set len ∧ kind = 2 ∧ target = k.val ∧ arg = len * 4096 + set) ∨
    (∃ (n : Fin 8) (e : Nat × BurstPlan), c = .touchBurst t n arg ∧ kind = 4 ∧ target = n.val ∧
      (burstPlans s n.val).find? (fun e => e.1 = arg) = some e ∧ bit e.2.rates ((touchAt s n.val).step - 1) = true ∧
      measuring (atTime s t) n.val = true) ∨
    (c = .freqChange t arg ∧ kind = 5 ∧ target = 0) ∨
    (∃ k : Fin 16, c = .checkStart t k arg ∧ kind = 6 ∧ target = k.val) →
    eventDue (atTime s t) kind target arg = true → reachable s kind target = false →
    Gives c s fun u => entryNum u 0x221A 0 = entryNum s 0x221A 0 + 1 ∧ { u with dict := s.dict, now := s.now, lasts := { u.lasts with row := s.lasts.row } } = s ∧
      ∀ k, k ≠ dkey 0x221A 0 → SMap.get unsetVal u.dict k = SMap.get unsetVal s.dict k) ∧
  ∀ (s : State) (t : Rrp) (set : Nat), eventDue (atTime s t) 3 0 set = true → Gives (.dramWindow t set) s fun u =>
    u.lasts.windowSet = set ∧ u.lasts.windowOpen = true ∧
      (reachable s 3 0 = false → entryNum s 0x221A 0 + 1 < 2 ^ 32 → s.lasts.waiting = [] →
        (∀ n : Nat, (outAt s n).pass = none ∧ (outAt s n).passAsked = false) →
        entryNum u 0x221A 0 = entryNum s 0x221A 0 + 1)

/-- While a DRAM window is open, a requester of a DRAM item that asks to move more than its allotment in that window makes its item's monitor violated, with one violation more and its action engaged from now unless that is REPORT, leaves the other monitors, and Latest Violation names the item and its action; this is said where no DROP action ends a decoding, a capture or a flattening pass. Once violated in the window, further excess only raises the peak. -/
def Obligations.ViolationsAreCountedOncePerWindow : Prop :=
  ∀ (s : State) (t : Rrp) (i measure : Nat) (item : Item) (m : Monitor), itemAt s i = some item → item.resource = 0 →
    s.lasts.windowOpen = true → allotment s s.lasts.windowSet i < measure → s.lasts.monitors[i - 1]? = some m →
    (m.violated = false → item.action ≠ 3 ∨ item.requester ∉ [0x48, 0x49, 0x4A] →
      Gives (.contractViolation t i measure) s fun u => u.lasts.monitors[i - 1]? = some { m with
        peak := Nat.max m.peak measure, violations := m.violations + 1, violated := true, engaged := item.action != 0, since := t, extra := 0 } ∧
      (∀ j, j ≠ i - 1 → u.lasts.monitors[j]? = s.lasts.monitors[j]?) ∧
      entryNum u 0x2221 1 = rrpNum t ∧ entryNum u 0x2221 2 = i ∧ entryNum u 0x2221 3 = item.action) ∧
    (m.violated = true → Gives (.contractViolation t i measure) s fun u =>
      u.lasts.monitors[i - 1]? = some { m with peak := Nat.max m.peak measure } ∧ u.health = s.health ∧ u.dict = s.dict)

/-- While a slice's window takes writes and the ring is disabled, a write of its CTRL sets LOG2_SIZE; ENABLE is set with it exactly where LOG2_SIZE is in range and the slice may write the ring's first and last page, for the flip ring only with FLIPC enabled and for the GPU ring only with its parameter buffer and save area writable too. A CTRL whose ENABLE is 1 keeps its value, but for the touch ring, whose ENABLE a write of 0 clears. -/
def Obligations.RingsEnableOnPagesTheirSliceMayWrite : Prop :=
  ∀ (s : State) (t : Rrp) (k : Fin 32) (v : Nat), windowOpen s k.val = true → SMap.wf zeroReg s.sregs = true →
    let ok := fun (base unit lo hi : Nat) (host : Bool) => bit v 31 && lo ≤ v % 16 && v % 16 ≤ hi &&
      ringPagesOk s k.val (sreg s k.val base) (unit * 2 ^ (v % 16)) host
    let C := fun (c : Instr) (ctrl base unit lo hi : Nat) (host : Bool) (ready : Prop) (enabled : Nat) =>
      (bit (sreg s k.val ctrl) 31 = false → (ok base unit lo hi host = true ∧ ready →
          Gives c s fun u => sreg u k.val ctrl = v % 16 + 2 ^ 31) ∧
        (¬(ok base unit lo hi host = true ∧ ready) → Gives c s fun u => sreg u k.val ctrl = v % 16)) ∧
      (bit (sreg s k.val ctrl) 31 = true → Gives c s fun u => sreg u k.val ctrl = enabled)
    C (.flipRingEnable t k v) 0x108 0x100 32 6 15 false (bit (sreg s k.val 0x120) 31 = true) (sreg s k.val 0x108) ∧
    C (.decRingEnable t k v) 0x308 0x300 64 4 12 true True (sreg s k.val 0x308) ∧
    C (.chkRingEnable t k v) 0x408 0x400 32 4 12 true True (sreg s k.val 0x408) ∧
    C (.touchRingEnable t k v) 0x508 0x500 32 4 12 true True (if bit v 31 then sreg s k.val 0x508 else sreg s k.val 0x508 % 16) ∧
    C (.gpuRingEnable t k v) 0x208 0x200 32 4 12 true (ringPagesOk s k.val (sreg s k.val 0x218)
      (Nat.max 1 (sreg s k.val 0x220 * 1024)) false = true ∧ ringPagesOk s k.val (sreg s k.val 0x228) (1536 * 1024) false = true) (sreg s k.val 0x208)

/-- A doorbell of an enabled ring, with a TAIL below its size, of a slice that neither drains nor is idle, sets the ring's tail: the flip ring takes nothing while a completion waits, the GPU ring of a context that the last holds nothing while the context does not run, the decoder ring nothing while MEDIA is off, and the check ring takes every entry up to the tail. Any other doorbell of the flip, GPU, decoder or check ring sets DISCARDED and counts it, and moves no tail. With no completion waiting and no record left, FLIPC_READ takes the value written. -/
def Obligations.DoorbellsMoveTheirTail : Prop :=
  (∀ (s : State) (t : Rrp) (k : Fin 32) (tail : Nat), windowOpen s k.val = true → tail < 65536 →
    (bellOk s k.val 0x108 tail = true → (sliceAt s k.val).waiting ≠ [] → Gives (.flipDoorbell t k tail) s fun u =>
      sliceAt u k.val = { sliceAt s k.val with flipTail := tail, flipBells := (sliceAt s k.val).flipBells ++ [(tail, t)] }) ∧
    (bellOk s k.val 0x208 tail = true → ctxRuns s k.val = false → (ctxRecOf s k.val).isSome = true →
      Gives (.gpuDoorbell t k tail) s fun u =>
        ctxAt u k.val = { ctxAt s k.val with
          tail := tail, arrivals := if tail = (ctxAt s k.val).head then (ctxAt s k.val).arrivals else (ctxAt s k.val).arrivals ++ [(tail, t)] }) ∧
    (bellOk s k.val 0x308 tail = true → mediaOn s = false → Gives (.decDoorbell t k tail) s fun u =>
      decRingAt u k.val = { decRingAt s k.val with
        tail := tail, arrivals := if tail = (decRingAt s k.val).head then (decRingAt s k.val).arrivals else (decRingAt s k.val).arrivals ++ [(tail, t)] }) ∧
    (bellOk s k.val 0x408 tail = true → sreg s k.val 0x408 % 16 ≤ 12 → (sliceAt s k.val).chkHead < 2 ^ (sreg s k.val 0x408 % 16) →
      Gives (.chkDoorbell t k tail) s fun u => (sliceAt u k.val).chkHead = tail ∧ (sliceAt u k.val).chkTail = tail)) ∧
  (∀ (s : State) (t : Rrp) (k : Fin 32) (tail : Nat), windowOpen s k.val = true → tail < 65536 → sreg s k.val 0x18 + 1 < 2 ^ 32 →
    let P := fun u => sreg u k.val 0x18 = sreg s k.val 0x18 + 1 ∧ bit (sreg u k.val 0x10) 7 = true ∧ u.slices = s.slices ∧
      u.gpu = s.gpu ∧ u.media = s.media;
    (bellOk s k.val 0x108 tail = false → Gives (.flipDoorbell t k tail) s P) ∧
    (bellOk s k.val 0x208 tail = false → Gives (.gpuDoorbell t k tail) s P) ∧
    (bellOk s k.val 0x308 tail = false → Gives (.decDoorbell t k tail) s P) ∧
    (bellOk s k.val 0x408 tail = false → Gives (.chkDoorbell t k tail) s P)) ∧
  ∀ (s : State) (t : Rrp) (k : Fin 32) (v : Nat), windowOpen s k.val = true → SMap.wf zeroReg s.sregs = true →
    (sliceAt s k.val).waiting = [] → (sliceAt s k.val).flipHead = (sliceAt s k.val).flipTail →
    Gives (.flipcReadWrite t k v) s fun u => sreg u k.val 0x128 = v % 65536 ∧ sliceAt u k.val = sliceAt s k.val

/-- A band of an output that composes and that passes its check comes from the output's own engine, or from S where S composes the output; one of the output's own engine that fails while S is free comes from S, which composes the rest of the frame, with the takeover armed and no offscreen work left. Data of a layer's content, or of a verified surface shown, that is not there at the deadline is missing in its band. An active line of a composed frame, after its first, is sent on DisplayPort as the lead buffer holds it where no word of it is bad, on LVDS split over the two links, and leaves the buffer. -/
def Obligations.BandsAreComposedCheckedAndSent : Prop :=
  (∀ (s : State) (t : Rrp) (n : Fin 8) (b : Nat) (again : Bool) (p : OutPlan), planNow s n.val = some p →
    composing s n.val = true → 8 * b < p.vActive →
    (Gives (.bandComplete t n b true again) s fun u => (outAt u n.val).bandStart = t ∧
      bandSource (outAt u n.val) b = some (if bySpare s n.val then .spare else .engine)) ∧
    (bySpare s n.val = false → spareFree s = true → Gives (.bandComplete t n b false again) s fun u =>
      bandSource (outAt u n.val) b = some .spare ∧ (outAt u n.val).spareFrom = some b ∧ (outAt u n.val).takeover = .armed ∧
        (outAt u n.val).armedAt = t ∧ u.spare.jobs = [])) ∧
  (∀ (s : State) (t : Rrp) (n : Fin 8) (b : Nat) (k : Fin 17) (spans : List (Nat × Nat × Nat)), spans ≠ [] →
    composing s n.val = true → (k.val < 16 ∧ (layerOf (outAt s n.val) k.val).isSome = true) ∨ (k.val = 16 ∧ surfaceFetched s n.val = true) →
    Gives (.bandDeadline t n b k spans) s fun u =>
      (outAt u n.val).missing = (outAt s n.val).missing ++ spans.map fun q => (b, k.val, q.1, q.2.1, q.2.2)) ∧
  ∀ (s : State) (t : Rrp) (n : Fin 8) (k : Nat) (p : OutPlan) (px : List Rgb), planNow s n.val = some p →
    (outAt s n.val).scan = .running → (outAt s n.val).carrying = true → k % p.vTotal ≠ 0 → k % p.vTotal < p.vActive →
    sentLine s n.val (k % p.vTotal) = some px →
    Gives (.scanoutLine t n k [] []) s fun u =>
      let links := fun (odd : Bool) =>
        ((enumFrom 0 px).filter fun e => bit e.1 0 = odd).map fun e => lvdsPx p.bpc (outAt s n.val).lvdsMap e.2
      (isDp p = true → (outAt s n.val).sendLive = true → u.emitted.head? =
        some (.video n.val (outAt s n.val).frameJ (k % p.vTotal) (px.flatMap fun q => [q.r, q.g, q.b]))) ∧
      (isDp p = false → u.emitted.head? = some (.lvds n.val (k % p.vTotal) (links false) (links true) (!px.isEmpty)
        (bit p.flags 2) (inVsync p (k % p.vTotal) == bit p.flags 3))) ∧
      ∀ e ∈ (outAt u n.val).lead, e.1 ≠ k % p.vTotal

/-- A flattening pass that was not abandoned, with no finished base waiting and no pass asked, leaves its base ready for a later latch, unless a later record of that latch takes the place of one of its own and a new pass is asked; the layers stay. S finishes the offscreen record at the front and keeps those behind it. A recorded frame counts, and the next one takes the next slot of its ring. A fence leaves its output once the frame that it waits for has ended. -/
def Obligations.CompositionWorkEnds : Prop :=
  (∀ (s : State) (t : Rrp) (n : Fin 8) (p : OutPlan) (q : Pass), activePlan s n.val = some p → (outAt s n.val).pass = some q →
    q.waiting = false → (outAt s n.val).ready = none → (outAt s n.val).passAsked = false → Gives (.flattenPassComplete t n) s fun u =>
      let ready := { q with toB := (outAt s n.val).base.elim false fun b => !b, done := some t }
      (outAt u n.val).layers = (outAt s n.val).layers ∧
      (((outAt u n.val).pass = none ∧ (outAt u n.val).ready = some ready) ∨ (outAt u n.val).passAsked = true ∨
        ∃ r, (outAt u n.val).pass = some r ∧ r.done = none) ∧
      (q.records = [] → (outAt u n.val).pass = none ∧ (outAt u n.val).ready = some ready)) ∧
  (∀ (s : State) (t : Rrp) (r : FlipRec) (rest : List FlipRec), s.spare.jobs = r :: rest →
    Gives (.offscreenComplete t) s fun u => u.spare = { s.spare with jobs := rest } ∧ u.outs = s.outs) ∧
  (∀ (s : State) (t : Rrp) (n : Fin 8) (p : OutPlan), planNow s n.val = some p → (outAt s n.val).recActive = true →
    Gives (.recordFrameComplete t n) s fun u => (outAt u n.val).recActive = false ∧
      (outAt u n.val).recCount = ((outAt s n.val).recCount + 1) % 2 ^ 32 ∧
      recordEntry u n.val 4 = (recordEntry s n.val 4 + 1) % recordEntry s n.val 2) ∧
  ∀ (s : State) (t : Rrp), Gives (.releaseFenceWrite t) s fun u => ∀ n, n < 8 →
    (outAt u n).fences = (outAt s n).fences.filter fun f => !frameLater t.frame f.v

/-- A cell bound to the dictionary whose entry was not written in time is timed out, and one that blinks takes the half of its blink. A surface not posted for more than MAX_AGE frames is older than that. The CRCs of a frame on the port stand in 0x3n31 after the comparison; where they differ the mismatch is counted, and the run of matching frames for pairing begins again. At the binding cut-off every cell of the output is judged. -/
def Obligations.ProtectedContentKeepsItsChecks : Prop :=
  (∀ (s : State) (t : Rrp) (n : Fin 8) (c : Fin 256) (q : Cell) (r : CellRun), cellAt s n.val c.val = some q →
    (outAt s n.val).cells[c.val]? = some r →
    (q.kind = 2 → q.timeout ≠ 0 → s.net.restarting = false → Gives (.cellTimeout t n c) s fun u => ∃ r',
      (outAt u n.val).cells[c.val]? = some r' ∧ r'.timedOut = true ∧ q.timeout < r'.unwritten) ∧
    Gives (.cellBlinkToggle t n c) s fun u =>
      (outAt u n.val).cells[c.val]? = some { r with blinkOff := blinkOffIn s q r t.frame }) ∧
  (∀ (s : State) (t : Rrp) (n : Fin 8) (k : Fin 2) (c : SurfaceCfg), surfaceCfg s n.val k.val = some c → c.maxAge ≠ 0 →
    s.sec.island ≠ 2 → Gives (.surfaceAgeExpire t n k) s fun u => c.maxAge < (surfaceAt u n.val k.val).age) ∧
  (∀ (s : State) (t : Rrp) (n : Fin 8), (outAt s n.val).crcAny = true → (outAt s n.val).link ≠ .testPattern →
    entryNum s (0x3032 + 0x100 * n.val) 0 + 1 < 2 ^ 32 → Gives (.protectedCrcCompare t n) s fun u =>
      let want := crcFinish crc32c (outAt s n.val).crcExp
      let sent := crcFinish crc32c (outAt s n.val).crcReg
      let ix := 0x3031 + 0x100 * n.val
      entryNum u ix 1 = want ∧ entryNum u ix 2 = sent ∧ entryNum u ix 3 = rrpNum (outAt s n.val).sendFrame ∧
      (outAt u n.val).crcAny = false ∧
      (sent ≠ want → (outAt u n.val).pairRun = 0 ∧ entryNum u (0x3032 + 0x100 * n.val) 0 = entryNum s (0x3032 + 0x100 * n.val) 0 + 1)) ∧
  ∀ (s : State) (t : Rrp) (n : Fin 8) (p : OutPlan) (a : AtlasOut) (j : Nat), activePlan s n.val = some p →
    atlasOut s n.val = some a → latchArg s n.val (rrpAdd s.tb.rate t (rlTicks 1)) = some j →
    Gives (.bindingCutoff t n) s fun u => (outAt u n.val).cells.length = a.cells.length ∧ ∀ r ∈ (outAt u n.val).cells, r.counting = true

/-- At vertical sync after a release condition an asserted pin is released. A starting pair asserts it after 2 matching frames, a rearming one after 60, while its output is healthy and the field outputs are not at their safe values. Pair Rearm starts the rearm of a released pair, and is refused in any other state. -/
def Obligations.PairPinsFollowTheirOutput : Prop :=
  (∀ (s : State) (t : Rrp) (n : Fin 8), (outAt s n.val).pair = .asserted → (outAt s n.val).pairCond = true →
    Gives (.healthyRelease t n) s fun u => (outAt u n.val).pair = .released ∧ (outAt u n.val).healthyLow = false ∧
      (outAt u n.val).pairCond = false) ∧
  (∀ (s : State) (t : Rrp) (n : Fin 8), pairHealthy s n.val = true →
    ((outAt s n.val).pair = .starting ∧ 2 ≤ (outAt s n.val).pairRun) ∨ ((outAt s n.val).pair = .rearming ∧ 60 ≤ (outAt s n.val).pairRun) →
    s.power.fioSafe = false → Gives (.healthyAssert t n) s fun u => (outAt u n.val).pair = .asserted ∧ (outAt u n.val).healthyLow = true) ∧
  ∀ (s : State) (t : Rrp) (o : Origin) (n : Fin 8) (v : Nat), RowOpen (atTime s t) o (0x3034 + 0x100 * n.val) 0 v →
    ((outAt s n.val).pair = .released → v = 1 → Gives (.pairRearm t o n v) s fun u =>
      AnswersStatus u o (0x3034 + 0x100 * n.val) 0 stOk ∧ (outAt u n.val).pair = .rearming ∧ (outAt u n.val).pairRun = 0) ∧
    ((outAt s n.val).pair ≠ .released → Gives (.pairRearm t o n v) s fun u =>
      AnswersStatus u o (0x3034 + 0x100 * n.val) 0 stMode ∧ u.outs = s.outs)

/-- A commit of a layer's matrix keeps the staged values for a later latch. Immediate Enable 0 on a running output forgets the immediate writes that wait, and is refused on any other output. An immediate descriptor is kept for a later band where immediate writes are enabled, the output runs and the descriptor is well formed. A stream pattern is refused on LVDS; ending one on DisplayPort trains the link again. -/
def Obligations.OutputWritesTakeEffectOrAreRefused : Prop :=
  (∀ (s : State) (t : Rrp) (o : Origin) (n : Fin 8) (k : Fin 16), RowOpen (atTime s t) o (0x3010 + 0x100 * n.val + k.val) 0x0D 1 →
    Gives (.matrixCommit t o n k 1) s fun u => AnswersStatus u o (0x3010 + 0x100 * n.val + k.val) 0x0D stOk ∧
      (outAt u n.val).matNext = (outAt s n.val).matNext ++ [(k.val, t, stagedMatrix s n.val k.val)]) ∧
  (∀ (s : State) (t : Rrp) (o : Origin) (n : Fin 8), RowOpen (atTime s t) o (0x3048 + 0x100 * n.val) 1 0 →
    (outRuns s n.val = true → Gives (.immediateEnable t o n 0) s fun u =>
      AnswersStatus u o (0x3048 + 0x100 * n.val) 1 stOk ∧ (outAt u n.val).immediate = []) ∧
    (outRuns s n.val = false → Gives (.immediateEnable t o n 0) s fun u =>
      AnswersStatus u o (0x3048 + 0x100 * n.val) 1 stMode ∧ u.outs = s.outs)) ∧
  (∀ (s : State) (t : Rrp) (o : Origin) (n : Fin 8) (b : Bytes) (p : OutPlan),
    writeStatus (atTime s t) o (0x3048 + 0x100 * n.val) 2 b = 0 → planNow s n.val = some p →
    entryNum s (0x3048 + 0x100 * n.val) 1 = 1 → outRuns s n.val = true → b.length = 64 →
    (immediateOk s p b = true → Gives (.immediateDescriptor t o n b) s fun u =>
      AnswersStatus u o (0x3048 + 0x100 * n.val) 2 stOk ∧
      (outAt u n.val).immediate = (outAt s n.val).immediate ++ [(t, (descOf b).layer, descOf b)]) ∧
    (immediateOk s p b = false → Gives (.immediateDescriptor t o n b) s fun u =>
      AnswersStatus u o (0x3048 + 0x100 * n.val) 2 stRange ∧ u.outs = s.outs)) ∧
  ∀ (s : State) (t : Rrp) (o : Origin) (n : Fin 8) (v : Nat) (p : OutPlan), RowOpen (atTime s t) o (0x3049 + 0x100 * n.val) 0 v →
    planNow s n.val = some p →
    (4 ≤ v → isDp p = false → Gives (.testPattern t o n v) s fun u =>
      AnswersStatus u o (0x3049 + 0x100 * n.val) 0 stMode ∧ u.dict = s.dict ∧ u.outs = s.outs) ∧
    (v < 4 → (outAt s n.val).link = .testPattern → Gives (.testPattern t o n v) s fun u =>
      AnswersStatus u o (0x3049 + 0x100 * n.val) 0 stOk ∧ (outAt u n.val).link = .training)

/-- HPD high on a running DisplayPort output without a PHY fault begins its link sequence, and HPD low ends its link, unless a PHY fault keeps the port stopped. A pulse during the sequence restarts it; one of an established link that has lost its lanes trains it again, and one that has not changes nothing. Training ends with the first configuration that did not fail, or fails. A failed sequence is tried again from its start while the sink is plugged. A PHY fault stops a running output's link; one of three retries counts, and one that finds the fault gone starts the link again. -/
def Obligations.LinksTrainAndFail : Prop :=
  (∀ (s : State) (t : Rrp) (n : Fin 8) (p : OutPlan), domainOn s (dispDomain n.val) = true → dpPlan s n.val = some p →
    (outAt s n.val).link ≠ .phyFault →
    (Gives (.hpdPlug t n) s fun u => (outAt u n.val).hpd = true ∧ (outAt u n.val).link = .reading) ∧
    ((outAt s n.val).hpd = true → (outAt s n.val).phyStopped = false → Gives (.hpdUnplug t n) s fun u => (outAt u n.val).hpd = false ∧
      (outAt u n.val).link = .noSink ∧ (outAt u n.val).sendLive = false ∧ entryNum u (0x3042 + 0x100 * n.val) 1 = 0 ∧
      entryNum u (0x3042 + 0x100 * n.val) 2 = 0)) ∧
  (∀ (s : State) (t : Rrp) (n : Fin 8) (b : Bytes) (p : OutPlan), dpPlan s n.val = some p →
    ((outAt s n.val).link = .training → Gives (.irqHpd t n b) s fun u => (outAt u n.val).link = .reading) ∧
    ((outAt s n.val).link = .up → laneLoss (entryNum s (0x3042 + 0x100 * n.val) 2) b = true → Gives (.irqHpd t n b) s fun u =>
      (outAt u n.val).link = .training ∧ (outAt u n.val).sendLive = false) ∧
    ((outAt s n.val).link = .up → laneLoss (entryNum s (0x3042 + 0x100 * n.val) 2) b = false → Gives (.irqHpd t n b) s fun u =>
      u.outs = s.outs)) ∧
  (∀ (s : State) (t : Rrp) (n : Fin 8) (caps edid : Bytes) (fails : List (Nat × Nat)) (p : OutPlan), dpPlan s n.val = some p →
    (outAt s n.val).link = .training →
    let cs := candidates s p (entryBytes s (0x3046 + 0x100 * n.val) 0)
    (∀ c, cs.find? (fun c => !fails.contains c) = some c → Gives (.linkTrainingComplete t n caps edid fails) s fun u =>
      (outAt u n.val).link = .up ∧ entryNum u (0x3042 + 0x100 * n.val) 1 = c.1 ∧ entryNum u (0x3042 + 0x100 * n.val) 2 = c.2) ∧
    ((∀ c ∈ cs, c ∈ fails) → Gives (.linkTrainingComplete t n caps edid fails) s fun u =>
      (outAt u n.val).link = .failed ∧ entryNum u (0x3042 + 0x100 * n.val) 1 = 0)) ∧
  (∀ (s : State) (t : Rrp) (n : Fin 8) (p : OutPlan), dpPlan s n.val = some p → (outAt s n.val).link = .failed →
    (outAt s n.val).hpd = true → Gives (.linkTrainingRetry t n) s fun u => (outAt u n.val).link = .reading) ∧
  (∀ (s : State) (t : Rrp) (n : Fin 8), outRuns s n.val = true → (outAt s n.val).phyStopped = false → Gives (.phyFault t n) s fun u =>
    (outAt u n.val).link = .phyFault ∧ (outAt u n.val).phyAttempts = (outAt s n.val).phyAttempts ∧ (outAt u n.val).sendLive = false) ∧
  ∀ (s : State) (t : Rrp) (n : Fin 8) (p : OutPlan), planNow s n.val = some p → outRuns s n.val = true →
    (outAt s n.val).link = .phyFault → (outAt s n.val).phyAttempts < 3 →
    (Gives (.phyRetry t n true) s fun u => (outAt u n.val).phyAttempts = (outAt s n.val).phyAttempts + 1 ∧
      (outAt u n.val).link = .phyFault) ∧
    Gives (.phyRetry t n false) s fun u => (outAt u n.val).phyAttempts = (outAt s n.val).phyAttempts + 1 ∧
      (outAt u n.val).link = (if isDp p then (if (outAt s n.val).hpd then .reading else .noSink) else .up)

/-- A well-formed AUX request of a running DisplayPort output is queued and sent; one that writes a protected address outside Service has result 4 and is not sent; an ill-formed one is refused. A reply takes the oldest request from the queue and sets the result: the status, and the data of a read that succeeded. -/
def Obligations.AuxTransactionsPassInOrder : Prop :=
  (∀ (s : State) (t : Rrp) (o : Origin) (n : Fin 8) (r : Bytes), writeStatus (atTime s t) o (0x3047 + 0x100 * n.val) 1 r = 0 →
    (auxFormatOk r = false → Gives (.auxRequest t o n r) s fun u =>
      AnswersStatus u o (0x3047 + 0x100 * n.val) 1 stRange ∧ u.outs = s.outs ∧ u.dict = s.dict) ∧
    (auxFormatOk r = true → (dpPlan s n.val).isSome = true → auxProtected r = false → Gives (.auxRequest t o n r) s fun u =>
      AnswersStatus u o (0x3047 + 0x100 * n.val) 1 stOk ∧ .aux n.val (getLe 3 r 1) (r.drop 5) ∈ u.emitted ∧
      (outAt u n.val).auxQueue = (outAt s n.val).auxQueue ++ [(getLe 3 r 1, r)]) ∧
    (auxFormatOk r = true → (dpPlan s n.val).isSome = true → auxProtected r = true → s.mode ≠ .service →
      Gives (.auxRequest t o n r) s fun u => u.emitted = .status o (dkey (0x3047 + 0x100 * n.val) 1) stOk :: s.emitted ∧
        entryBytes u (0x3047 + 0x100 * n.val) 2 = [4] ∧ u.outs = s.outs)) ∧
  ∀ (s : State) (t : Rrp) (n : Fin 8) (st errors a : Nat) (data r : Bytes) (rest : List (Nat × Bytes)),
    (outAt s n.val).auxQueue = (a, r) :: rest → Gives (.auxReply t n st data errors) s fun u =>
      (outAt u n.val).auxQueue = rest ∧
      entryBytes u (0x3047 + 0x100 * n.val) 2 = leBytes 1 st ++ (if u8 r 0 = 9 ∧ st = 0 then data.take (u8 r 4) else [])

/-- A window that has reached its length closes: each of its clusters is free or leaving. A cluster not at a boundary when its grace ends begins its forced save. A save done frees its cluster, which goes to the first context whose open window names it, where it is powered and not isolated. A fault of a powered cluster that is not isolated frees it, ends the guest job that it ran and is kept with those of the last hour; a failed reset or a third fault in an hour isolates the cluster. A guest job that a failure ended, or that has run to its end without a blocked access, leaves its context where its ring is empty, the failure in GPU_ERROR. The oldest picture of a feed that waits for its scaling has its compositor job join the queue, and a compositor job that completes while context 32 runs leaves it. -/
def Obligations.GpuWindowsCloseAndClustersAreFreed : Prop :=
  (∀ (s : State) (t : Rrp) (k : Fin 34) (w : GpuWindow), (ctxAt s k.val).window = some w → rrpBefore t w.closes = false →
    Gives (.gpuWindowClose t k) s fun u => (ctxAt u k.val).window = none ∧
      ∀ c, c < 12 → (clusterAt s c).holder = some k.val → (clusterAt u c).vacating = true ∨ (clusterAt u c).holder = none) ∧
  (∀ (s : State) (t : Rrp) (c : Fin 12), (clusterAt s c.val).vacating = true →
    (Gives (.preemptGraceExpire t c) s fun u => clusterAt u c.val = { clusterAt s c.val with saving := true }) ∧
    Gives (.clusterSaveComplete t c) s fun u => (clusterAt u c.val).vacating = false ∧ (clusterAt u c.val).saving = false ∧
      (clusterAt u c.val).holder = if clusterOk s c.val then (rangeFrom 0 34).find? (fun k =>
        match (ctxAt s k).window with
        | some w => w.clusters.contains c.val
        | none => false) else none) ∧
  (∀ (s : State) (t : Rrp) (c : Fin 12) (ok : Bool), clusterOk s c.val = true → Gives (.clusterFault t c ok) s fun u =>
    (clusterAt u c.val).holder = none ∧ (clusterAt u c.val).faults = t :: recentFaults (atTime s t) c.val ∧
      (clusterAt u c.val).isolated = (!ok || decide (2 ≤ (recentFaults (atTime s t) c.val).length)) ∧
      ∀ k, k < 32 → (clusterAt s c.val).holder = some k → (ctxAt u k).job = none) ∧
  (∀ (s : State) (t : Rrp) (k : Fin 34) (j : GpuJob), k.val < 32 → gpuOn s = true → (ctxAt s k.val).job = some j →
    (ctxAt s k.val).head = (ctxAt s k.val).tail →
    (∀ st d, j.ended = some (st, d) → st ≠ 0 → d < 2 ^ 24 → Gives (.gpuJobComplete t k) s fun u =>
      (ctxAt u k.val).job = none ∧ sreg u k.val 0x234 = st * 2 ^ 24 + d) ∧
    (j.ended = none → ctxRuns s k.val = true → j.cmdLen ≤ j.pos → (ctxAt s k.val).pass = none → j.blocked = false →
      Gives (.gpuJobComplete t k) s fun u => (ctxAt u k.val).job = none ∧ sreg u k.val 0x234 = sreg s k.val 0x234)) ∧
  (∀ (s : State) (t : Rrp) (f : Fin 32) (p : FeedPic), (feedAt s f.val).scaling.find? (fun q => !q.issued) = some p →
    mediaOn s = true → gpuOn s = true → s.gpu.quads < 4096 → Gives (.compositorJobIssue t f) s fun u =>
      u.gpu.compJobs = s.gpu.compJobs ++ [(f.val, p.no)] ∧ u.gpu.quads = s.gpu.quads + 1) ∧
  ∀ (s : State) (t : Rrp) (q : Nat × Nat) (rest : List (Nat × Nat)), ctxRuns s 32 = true → s.gpu.compJobs = q :: rest →
    Gives (.gpuJobComplete t 32) s fun u => u.gpu.compJobs = rest

/-- Each packet that the running job has next takes the job past it. BIND_PROGRAM of a container that passes its checks binds it, and of one that does not ends the job with status 8 and the code. BIND_RESOURCES sets the descriptors of its stage, SET_STATE the two state words, and a SET_TARGET that its checks let through opens a pass of its size and samples with nothing binned. NOP and BARRIER change nothing else in the context. -/
def Obligations.PacketsChangeTheirContext : Prop :=
  ∀ (s : State) (t : Rrp) (k : Fin 34) (j : GpuJob) (b : Bytes) (n : Nat), let x := atTime s t; let c := ctxAt s k.val
    (PacketAt x k.val 0 n j b → Gives (.nop t k) s fun u => PastPacket u k.val n j ∧
      (ctxAt u k.val).progs = c.progs ∧ (ctxAt u k.val).res = c.res ∧ (ctxAt u k.val).state = c.state ∧ (ctxAt u k.val).pass = c.pass) ∧
    (PacketAt x k.val 0x0A n j b → Gives (.barrier t k) s fun u => PastPacket u k.val n j ∧
      (ctxAt u k.val).progs = c.progs ∧ (ctxAt u k.val).res = c.res ∧ (ctxAt u k.val).state = c.state ∧ (ctxAt u k.val).pass = c.pass) ∧
    (PacketAt x k.val 0x01 n j b → u32 b 0 ≤ 2 → ∀ i : Bytes, jobRead x k.val (u64 b 4) (Nat.min (u32 b 12) 1048576) = (i, x) →
      let code := shaderCheck i (u32 b 0) (u32 b 12) (c.checked.contains (u64 b 4, u32 i 24))
      (code = 0 → Gives (.bindProgram t k) s fun u => PastPacket u k.val n j ∧ ∃ p, vecAt (ctxAt u k.val).progs (u32 b 0) none = some p ∧
        p.addr = u64 b 4 ∧ p.bindings = shaderBindings i) ∧
      (code ≠ 0 → Gives (.bindProgram t k) s fun u => JobFails u k.val 8 code ∧ (ctxAt u k.val).progs = c.progs)) ∧
    (PacketAt x k.val 0x02 n j b → u32 b 0 ≤ 2 → u64 b 4 % 32 = 0 → 1 ≤ u32 b 12 → u32 b 12 ≤ 64 →
      ∀ i : Bytes, jobRead x k.val (u64 b 4) (32 * u32 b 12) = (i, x) → Gives (.bindResources t k) s fun u => PastPacket u k.val n j ∧
        vecAt (ctxAt u k.val).res (u32 b 0) [] = (rangeFrom 0 (u32 b 12)).map fun q => resourceOf (sub i (32 * q) 32)) ∧
    (PacketAt x k.val 0x04 n j b → u32 b 0 < 1024 → bits (u32 b 0) 3 2 ≠ 3 → u32 b 4 < 256 → Gives (.setState t k) s fun u =>
      PastPacket u k.val n j ∧ (ctxAt u k.val).state = (u32 b 0, u32 b 4)) ∧
    (PacketAt x k.val 0x03 n j b → ∀ y, setTarget k.val x j b = some y → (ctxAt y k.val).pass.isSome = true →
      Gives (.setTarget t k) s fun u => PastPacket u k.val n j ∧ ∃ p, (ctxAt u k.val).pass = some p ∧
        p.samples = bits (u32 b 0) 7 4 ∧ p.width = bits (u32 b 4) 15 0 ∧ p.height = bits (u32 b 4) 31 16 ∧
        p.pbUsed = 0 ∧ p.tiles = [] ∧ p.frags = [] ∧ p.stored = [])

/-- Draws that pass the checks and fit the parameter buffer run past their packet, use the buffer and put each tile that they touch into the pass; a primitive that goes beyond the buffer has the pass make a partial render, which stores the tiles with a list and frees the buffer, or, where the pass may make none, ends the job with status 1. Draws and compute work that fail a check end the job with status 8 and its code; a shader fault ends it with status 0x0A; other compute work runs past its packet. END_PASS ends the pass. WAIT_MEM goes on where the value is reached, and waits else, until a re-read finds it. WRITE_MEM writes its 8 bytes. HITTEST_SCENE 0 unbinds the channel from its next touch frame. -/
def Obligations.PacketsDoTheirWork : Prop :=
  ∀ (s : State) (t : Rrp) (k : Fin 34) (j : GpuJob) (b : Bytes) (n : Nat), let x := atTime s t; let c := ctxAt s k.val
    (∀ (i : Instr) (qs : List Prim) (fault : Bool) (p : RenderPass), (i = .draw t k qs fault ∧ PacketAt x k.val 0x05 n j b) ∨
        (i = .drawIndexed t k qs fault ∧ PacketAt x k.val 0x06 n j b ∧ u32 b 8 ≤ 1) → c.pass = some p →
      (workCheck c true false ≠ 0 → Gives i s fun u => JobFails u k.val 8 (workCheck c true false)) ∧
      (workCheck c true false = 0 → fault = true → Gives i s fun u => JobFails u k.val 0x0A j.pos) ∧
      (workCheck c true false = 0 → fault = false → p.pbUsed + (qs.map fun q => q.bytes).sum ≤ pbBudget s k.val →
        Gives i s fun u => PastPacket u k.val n j ∧ ∃ r, (ctxAt u k.val).pass = some r ∧
          r.pbUsed = p.pbUsed + (qs.map fun q => q.bytes).sum ∧ r.partials = p.partials ∧ r.stored = p.stored ∧
          ∀ e, e ∈ r.tiles ↔ e ∈ p.tiles ∨ ∃ q ∈ qs, e ∈ q.tiles) ∧
      ∀ q, qs = [q] → workCheck c true false = 0 → fault = false → pbBudget s k.val < p.pbUsed + q.bytes →
        (partialOk p = true → q.bytes ≤ pbBudget s k.val → Gives i s fun u => PastPacket u k.val n j ∧
          ∃ r, (ctxAt u k.val).pass = some r ∧ r.pbUsed = q.bytes ∧ r.partials = p.partials + 1 ∧
            (∀ e, e ∈ r.tiles ↔ e ∈ q.tiles) ∧ ∀ e, e ∈ r.stored ↔ e ∈ p.stored ∨ e ∈ p.tiles) ∧
        (partialOk p = false → Gives i s fun u => JobFails u k.val 1 j.pos ∧ (ctxAt u k.val).pass = none)) ∧
    ((∀ o, o = 0 ∨ o = 4 ∨ o = 8 → 1 ≤ u32 b o ∧ u32 b o ≤ 65535) →
      (PacketAt x k.val 0x07 n j b → workCheck c false false = 0 →
        (Gives (.dispatch t k false) s fun u => PastPacket u k.val n j) ∧
        Gives (.dispatch t k true) s fun u => JobFails u k.val 0x0A j.pos) ∧
      (PacketAt x k.val 0x07 n j b → workCheck c false false ≠ 0 → Gives (.dispatch t k false) s fun u =>
        JobFails u k.val 8 (workCheck c false false)) ∧
      (PacketAt x k.val 0x08 n j b → workCheck c false true = 0 →
        (Gives (.traceRays t k false) s fun u => PastPacket u k.val n j) ∧
        Gives (.traceRays t k true) s fun u => JobFails u k.val 0x0A j.pos) ∧
      (PacketAt x k.val 0x08 n j b → workCheck c false true ≠ 0 → Gives (.traceRays t k false) s fun u =>
        JobFails u k.val 8 (workCheck c false true))) ∧
    (PacketAt x k.val 0x09 n j b → Gives (.endPass t k) s fun u => PastPacket u k.val n j ∧ (ctxAt u k.val).pass = none) ∧
    (∀ v : Bytes, u64 b 0 % 8 = 0 → jobRead x k.val (u64 b 0) 8 = (v, x) → PacketAt x k.val 0x0B n j b →
      (u64 b 8 ≤ leNat v → Gives (.waitMem t k) s fun u => PastPacket u k.val n j) ∧
      (leNat v < u64 b 8 → Gives (.waitMem t k) s fun u => (ctxAt u k.val).job = some { j with waiting := true })) ∧
    (∀ (v : Bytes) (w : GpuJob), c.job = some w → w.waiting = true →
      let y := updJob x k.val fun q => { q with waiting := false }
      u64 b 0 % 8 = 0 → jobRead y k.val (u64 b 0) 8 = (v, y) → PacketAt y k.val 0x0B n j b → u64 b 8 ≤ leNat v →
      Gives (.waitMemSatisfied t k) s fun u => PastPacket u k.val n j) ∧
    (PacketAt x k.val 0x0C n j b → sliceMay x k.val true (u64 b 0) 8 false = true → isHost (u64 b 0) = false → Quiescent s →
      (∀ g, groupLost s g = false) → (∀ i, i < 8 → mirrored s (u64 b 0 + i) = false) → Gives (.writeMem t k) s fun u =>
        PastPacket u k.val n j ∧ memBytes u (u64 b 0) 8 = sub b 8 8) ∧
    (PacketAt x k.val 0x0D n j b → u32 b 0 ≤ 7 → ownerSlice s 0x03 (u32 b 0) = some k.val → u64 b 4 = 0 →
      Gives (.hittestScene t k) s fun u => PastPacket u k.val n j ∧ vecAt u.gpu.hitNext (u32 b 0) none = some none)

/-- While MEDIA works the input keeps what the source sends. A frame that begins on an input that captures goes to the capture job of the owning slice, and is missed and counted only where none is queued; with no owner it goes to the live feeds of the input. A frame that ends completes its job. An EDID of 256 bytes is stored and holds HPD low until its restore, after which HPD follows Capture Enable; one of any other length is refused. -/
def Obligations.CaptureInputsFollowTheirSource : Prop :=
  (∀ (s : State) (t : Rrp) (i : Fin 2) (g : Sent) (w h m : Nat), mediaOn s = true → Gives (.captureSignalChange t i g w h m) s fun u =>
    (captureAt u i.val).signal = g ∧ (captureAt u i.val).width = w % 65536 ∧ (captureAt u i.val).height = h % 65536 ∧
      (captureAt u i.val).job = none) ∧
  (∀ (s : State) (t : Rrp) (i : Fin 2) (k : Nat), captureState s i.val = 3 → ownerSlice s 0x02 i.val = some k →
    (∀ j a, (decRingAt s k).cur = some (j, a) → isCapture j = true → captureInput j = i.val →
      Gives (.captureFrameStart t i) s fun u => (captureAt u i.val).job = some (k, j)) ∧
    ((decRingAt s k).cur = none → captureQueued (atTime s t) k i.val = false → entryNum s 0x5704 (i.val + 1) + 1 < 2 ^ 32 →
      Gives (.captureFrameStart t i) s fun u => entryNum u 0x5704 (i.val + 1) = entryNum s 0x5704 (i.val + 1) + 1 ∧
        u.media = s.media) ∧
    ((decRingAt s k).cur = none → captureQueued (atTime s t) k i.val = true → Gives (.captureFrameStart t i) s fun u =>
      entryNum u 0x5704 (i.val + 1) = entryNum s 0x5704 (i.val + 1) ∧ u.media = s.media)) ∧
  (∀ (s : State) (t : Rrp) (i : Fin 2), captureState s i.val = 3 → ownerSlice s 0x02 i.val = none → secureOwned s 0x02 i.val = false →
    feedsOn s (i.val + 1) ≠ [] → Gives (.captureFrameStart t i) s fun u => (captureAt u i.val).toFeeds = true) ∧
  (∀ (s : State) (t : Rrp) (i : Fin 2) (bpc k : Nat) (px : List (List Rgb)) (j : DecJob), mediaOn s = true →
    (captureAt s i.val).job = some (k, j) → (decRingAt s k).head = (decRingAt s k).tail →
    Gives (.captureFrameComplete t i bpc px) s fun u => (captureAt u i.val).job = none ∧ (decRingAt u k).cur = none) ∧
  (∀ (s : State) (t : Rrp) (o : Origin) (i : Fin 2) (e : Bytes), writeStatus (atTime s t) o 0x5703 (i.val + 1) e = 0 →
    (e.length = 256 → Gives (.captureEdidWrite t o i e) s fun u => AnswersStatus u o 0x5703 (i.val + 1) stOk ∧
      entryBytes u 0x5703 (i.val + 1) = e ∧ (captureAt u i.val).hpdHold = true ∧
      (mediaOn s = true → (captureAt u i.val).hpd = false)) ∧
    (e.length ≠ 256 → Gives (.captureEdidWrite t o i e) s fun u => AnswersStatus u o 0x5703 (i.val + 1) stLength ∧
      u.media = s.media)) ∧
  ∀ (s : State) (t : Rrp) (i : Fin 2), Gives (.captureHpdRestore t i) s fun u => (captureAt u i.val).hpdHold = false ∧
    (mediaOn s = true → (captureAt u i.val).hpd = decide (entryNum s 0x5700 (i.val + 1) = 1))

/-- A decode job that the decoder is at leaves the head of its ring as it ends. A packet in sequence with its marker makes a picture of a live feed ready. Its decoding, in a pool that holds the buffers of the feed, makes it the newest complete picture, or the last of those that wait for scaling, with the next number of the feed; a picture that cannot be decoded is discarded and the feed waits for its next IDR or IRAP picture, which any other picture leaves it waiting for. A feed is enabled where its conditions hold, refused with state 7 where they do not, and stopped by 0. Without a new picture for Hold Frames it falls back. -/
def Obligations.FeedsTakePicturesAndShowThem : Prop :=
  (∀ (s : State) (t : Rrp) (k : Fin 32) (p : Picture) (j : DecJob) (a : Rrp), (decRingAt s k.val).cur = some (j, a) →
    isCapture j = false → mediaOn s = true → engagedWith s 0x48 2 = false → decodesNow s k.val a = true → (decRingAt s k.val).head = (decRingAt s k.val).tail →
    Gives (.decoderJobComplete t k p) s fun u => (decRingAt u k.val).cur = none) ∧
  (∀ (s : State) (t : Rrp) (e : Fin 2) (g port : Nat) (b : Bytes) (f : Fin 32), mediaOn s = true → domainOn s 17 = true →
    isolatedRegion s .net = false →
    let q := feedAt s f.val; let d := fun i => entryNum s (0x5740 + f.val) i
    q.joined = true → q.live = true → d 2 = 3 + e.val → d 3 = g → d 4 = port → d 5 % 128 = rtpPt b → rtpOk (d 5 / 128) b = true →
    rtpMarker b = true → q.ssrc = some (rtpSsrc b) → q.nextSeq = some (rtpSeq b) → q.held = [] → q.gap = false → q.curTs = none →
    Gives (.rtpPacket t e g port b) s fun u => (feedAt u f.val).pictureReady = q.pictureReady ++ [t] ∧
      (feedAt u f.val).nextSeq = some ((rtpSeq b + 1) % 65536)) ∧
  (∀ (s : State) (t : Rrp) (f : Fin 32) (p : Picture) (r : Rrp) (rest : List Rrp), let q := feedAt s f.val
    let good := pictureLimits (entryNum s (0x5740 + f.val) 5 / 128) p && p.syntaxOk && p.refsOk
    q.live = true → q.pictureReady = r :: rest → mediaOn s = true → engagedWith s 0x48 2 = false →
    (good = true → (q.waitIrap = true → p.irap = true) → poolHolds s f.val = true → (∀ e, q.newest = some e → e.no ≤ q.made) →
      Gives (.feedPictureComplete t f p) s fun u => (feedAt u f.val).pictureReady = rest ∧
        (feedAt u f.val).waitIrap = false ∧ (feedAt u f.val).made = q.made + 1 ∧
        ∃ e, e.no = q.made ∧ e.width = p.width ∧ e.height = p.height ∧ e.deep = p.deep ∧
          if feedScale s f.val then (feedAt u f.val).scaling.getLast? = some e ∧ e.issued = false
          else (feedAt u f.val).newest = some e ∧ e.done = t) ∧
    (good = false → Gives (.feedPictureComplete t f p) s fun u => (feedAt u f.val).pictureReady = rest ∧
      (feedAt u f.val).waitIrap = true ∧ (feedAt u f.val).newest = q.newest) ∧
    (good = true → q.waitIrap = true → p.irap = false → Gives (.feedPictureComplete t f p) s fun u =>
      (feedAt u f.val).pictureReady = rest ∧ (feedAt u f.val).waitIrap = true ∧ (feedAt u f.val).newest = q.newest)) ∧
  (∀ (s : State) (t : Rrp) (o : Origin) (f : Fin 32) (v : Nat), RowOpen (atTime s t) o (0x5740 + f.val) 0x0B v →
    (v = 0 → Gives (.feedEnable t o f v) s fun u => AnswersStatus u o (0x5740 + f.val) 0x0B stOk ∧ feedAt u f.val = resetFeed) ∧
    (v ≠ 0 → feedMayEnable (atTime s t) f.val v = true → Gives (.feedEnable t o f v) s fun u =>
      AnswersStatus u o (0x5740 + f.val) 0x0B stOk ∧ (feedAt u f.val).joined = true ∧ (feedAt u f.val).live = decide (v = 2)) ∧
    (v ≠ 0 → feedMayEnable (atTime s t) f.val v = false → Gives (.feedEnable t o f v) s fun u =>
      AnswersStatus u o (0x5740 + f.val) 0x0B stRange ∧ entryNum u (0x5740 + f.val) 0x0C = 7 ∧ u.media = s.media)) ∧
  ∀ (s : State) (t : Rrp) (f : Fin 32), let q := feedAt s f.val; let hold := entryNum s (0x5740 + f.val) 0x0A
    q.live = true → q.suspended = false → hold ≠ 0 → hold ≤ frameDiff t.frame q.lastNew →
    Gives (.feedHoldExpire t f) s fun u => feedAt u f.val = { q with fallback := true }

/-- A channel that the active last plans makes its start scan at step 1 and, once that has lasted 20 ms, scans with no contact. Where a measuring interval of its step ends, the slot that ends keeps its number, step, plans and bursts, the next slot begins, and a VT40 is told. A touch frame takes the counts of the slot, and the main die knows the contacts that it reports. Without a contact for the Step Down Time a channel steps down to the next step served, no further than Idle Floor. A suspect node steady for its hold is released, with the contacts that hold it, and a contact open for longer than Stale Time is marked. A lost channel keeps no contact. -/
def Obligations.TouchChannelsStartScanAndStop : Prop :=
  (∀ (s : State) (t : Rrp) (n : Fin 8), fieldOn s = true → burstPlans s n.val ≠ [] → (2 ≤ n.val → (touchAt s n.val).linkUp = true) →
    (touchAt s n.val).st ≠ .startScan → (touchAt s n.val).st ≠ .scanning → Gives (.touchStartScan t n) s fun u =>
      (touchAt u n.val).st = .startScan ∧ (touchAt u n.val).step = 1 ∧ (touchAt u n.val).scanFrom = t) ∧
  (∀ (s : State) (t : Rrp) (n : Fin 8) (nodes tx rx : List Nat), (touchAt s n.val).st = .startScan →
    waited (atTime s t) (touchAt s n.val).scanFrom 20 = true → Gives (.startScanComplete t n nodes tx rx) s fun u => (touchAt u n.val).st = .scanning ∧ (touchAt u n.val).contacts = [] ∧
      (touchAt u n.val).first = true ∧ (touchAt u n.val).idleSince = t ∧
      (touchAt u n.val).raw = (rangeFrom 0 (txCount s n.val * rxCount s n.val)).map fun i => nodes.getD i 0) ∧
  (∀ (s : State) (t : Rrp) (n : Fin 8), (touchAt s n.val).st = .scanning →
    (∀ counts, measureEnds (atTime s t) (touchAt s n.val).step = true → (touchAt s n.val).slotEnd ≠ some t →
      Gives (.touchSlotEnd t n counts) s fun u => let c := touchAt s n.val
        (touchAt u n.val).fired = [] ∧ (touchAt u n.val).slotEnd = some t ∧
        (touchAt u n.val).ended = some ⟨t, c.slotNo, c.step, burstPlans s n.val, c.fired⟩ ∧
        (touchAt u n.val).slotNo = (c.slotNo + 1) % 256 ∧
        (2 ≤ n.val → u.emitted.head? = some (.vt40 n.val 0x02 (leBytes 1 c.slotNo)))) ∧
    (∀ o, (touchAt s n.val).ended = some o → Gives (.touchFrameComplete t n) s fun u => (touchAt u n.val).first = false ∧
      (touchAt u n.val).ended = none ∧ (touchAt u n.val).raw = (touchAt (takeCounts s n.val o) n.val).raw ∧
      (touchAt u n.val).known = (touchAt u n.val).contacts) ∧
    (∀ k, (touchAt s n.val).contacts = [] →
      waited (atTime s t) (touchAt s n.val).idleSince (entryNum s (touchIndex n.val 3) (touchAt s n.val).step) = true → (rangeFrom ((touchAt s n.val).step + 1) (6 - (touchAt s n.val).step)).find? (stepServed s n.val) = some k →
      k ≤ entryNum s (touchIndex n.val 2) 0 → Gives (.touchStepDown t n) s fun u => (touchAt u n.val).nextStep = some k) ∧
    (∀ node, (∃ q ∈ (touchAt s n.val).suspects, q.node = node ∧
        waited (atTime s t) q.since (1000 * entryNum s (touchIndex n.val 0x0B) 0) = true) → Gives (.suspectHoldExpire t n node) s fun u =>
      (∀ q ∈ (touchAt u n.val).suspects, q.node ≠ node) ∧ ∀ q ∈ (touchAt u n.val).contacts, node ∉ q.nodes) ∧
    Gives (.touchChannelLost t n) s fun u => (touchAt u n.val).st = .lost ∧ (touchAt u n.val).contacts = [] ∧
      (touchAt u n.val).suspects = [] ∧ (touchAt u n.val).testing = false) ∧
  ∀ (s : State) (t : Rrp) (n : Fin 8) (c : Fin 16), let limit := entryNum s (touchIndex n.val 9) 0
    limit ≠ 0 → Gives (.contactStale t n c) s fun u => ∀ q ∈ (touchAt s n.val).contacts, q.id = c.val →
      waited (atTime s t) q.opened (1000 * limit) = true → { q with flags := Nat.lor q.flags 2 } ∈ (touchAt u n.val).contacts

/-- A self-test requested of a scanning channel is pending, and ends with 8 touch frames, its write answered. A reference captured without blobs ends with 64 touch frames: their means are stored. A well-formed IDENTITY brings the link of a channel up and starts its scan; COUNTS of a complete plan of the slot that ended last are kept for its touch frame; a malformed frame is counted, and the sixteenth within 1 s whose CRC fails loses the link; a fault in STATUS or a lost link takes the link down, with RESET and IDENTIFY sent, which a retry repeats while the link is down. -/
def Obligations.TouchTestsAndLinks : Prop :=
  (∀ (s : State) (t : Rrp) (o : Origin) (n : Fin 8), RowOpen (atTime s t) o (touchIndex n.val 0x10) 0 1 →
    ((touchAt s n.val).st = .scanning → Gives (.touchSelfTestRequest t o n 1) s fun u =>
      AnswersStatus u o (touchIndex n.val 0x10) 0 stPending ∧ (touchAt u n.val).testing = true ∧
      entryNum u (touchIndex n.val 0x12) 0 = 3) ∧
    ((touchAt s n.val).st ≠ .scanning → Gives (.touchSelfTestRequest t o n 1) s fun u =>
      AnswersStatus u o (touchIndex n.val 0x10) 0 stMode ∧ u.touch = s.touch)) ∧
  (∀ (s : State) (t : Rrp) (n : Fin 8), (touchAt s n.val).testing = true → 8 ≤ (touchAt s n.val).testFrames.length →
    (touchAt s n.val).st = .scanning → Gives (.touchSelfTestComplete t n) s fun u => (touchAt u n.val).testing = false ∧
      (entryNum u (touchIndex n.val 0x12) 0 = 1 ∨ entryNum u (touchIndex n.val 0x12) 0 = 2) ∧
      writePending u (dkey (touchIndex n.val 0x10) 0) = false) ∧
  (∀ (s : State) (t : Rrp) (o : Origin) (n : Fin 8), RowOpen (atTime s t) o (touchIndex n.val 0x0D) 0 1 →
    let blobs := ((releaseSets s n.val).any fun b => decide (16 * threshold s n.val 1 ≤ nodeSignal s n.val (peakOf s n.val b))) ||
      !(touchAt s n.val).contacts.isEmpty
    (blobs = false → Gives (.captureReference t o n 1) s fun u => AnswersStatus u o (touchIndex n.val 0x0D) 0 stOk ∧
      (touchAt u n.val).capturing = true ∧ (touchAt u n.val).captureFrames = []) ∧
    (blobs = true → Gives (.captureReference t o n 1) s fun u =>
      AnswersStatus u o (touchIndex n.val 0x0D) 0 stState ∧ u.touch = s.touch)) ∧
  (∀ (s : State) (t : Rrp) (n : Fin 8), (touchAt s n.val).capturing = true → 64 ≤ (touchAt s n.val).captureFrames.length →
    Gives (.captureReferenceComplete t n) s fun u => (touchAt u n.val).capturing = false ∧
      (let fs := (touchAt s n.val).captureFrames.take 64
       entry u (touchIndex n.val 0x0C) 0 = .raw ((meanLists (fs.map fun f => f.1) ++ meanLists (fs.map fun f => f.2.1) ++
         meanLists (fs.map fun f => f.2.2)).flatMap fun x => leBytes 2 x)) ∧
      entry u (touchIndex n.val 0x0C) 0 = SMap.get unsetVal u.store (dkey (touchIndex n.val 0x0C) 0)) ∧
  ∀ (s : State) (t : Rrp) (n : Fin 8), 2 ≤ n.val → fieldOn s = true →
    (∀ (w p : Bytes) (d : Nat), vt40Payload 0x83 w = some p → Gives (.vt40Identity t n w d) s fun u =>
      (touchAt u n.val).linkUp = true ∧ entryNum u (touchIndex n.val 0x19) 0 = u32 p 0 ∧
      (burstPlans s n.val ≠ [] → (touchAt s n.val).st = .linkDown → (touchAt u n.val).st = .startScan)) ∧
    (∀ (w : Bytes) (d : Nat), entryNum s (touchIndex n.val 0x1A) 0 + 1 < 2 ^ 32 →
      let recent := (touchAt s n.val).crcFails.filter fun x => elapsed s.tb.rate x t < msTicks s.tb.rate 1000
      let lost := !vt40Crc w && (touchAt s n.val).linkUp && decide (15 ≤ recent.length)
      let P := fun u => entryNum u (touchIndex n.val 0x1A) 0 = entryNum s (touchIndex n.val 0x1A) 0 + 1 ∧
        (touchAt u n.val).linkUp = ((touchAt s n.val).linkUp && !lost) ∧
        (vt40Crc w = false → lost = false → (touchAt u n.val).crcFails = t :: recent) ∧
        (lost = false → (touchAt u n.val).st = (touchAt s n.val).st);
      (vt40Payload 0x81 w = none → Gives (.vt40Counts t n w) s P) ∧ (vt40Payload 0x82 w = none → Gives (.vt40Status t n w) s P) ∧
      (vt40Payload 0x83 w = none → Gives (.vt40Identity t n w d) s P)) ∧
    (∀ (w p : Bytes), vt40Payload 0x81 w = some p → p.length = 8 + 2 * u8 p 6 → 1 ≤ u8 p 6 → u8 p 6 ≤ 120 →
      ∀ o, (touchAt s n.val).ended = some o → u8 p 0 = o.no → ((completePlans s o).any fun e => e.1 = u16 p 2) = true →
      Gives (.vt40Counts t n w) s fun u => (touchAt u n.val).got =
        (touchAt s n.val).got ++ [(u16 p 2, u16 p 4, (rangeFrom 0 (u8 p 6)).map fun i => u16 p (8 + 2 * i))]) ∧
    (let P := fun u => (touchAt u n.val).linkUp = false ∧ (touchAt u n.val).st = .linkDown ∧
        u.emitted.take 2 = [.vt40 n.val 0x04 [], .vt40 n.val 0x05 []];
      (touchAt s n.val).st = .scanning →
      (Gives (.vt40LinkLost t n) s P) ∧ ∀ (w p : Bytes), vt40Payload 0x82 w = some p → u32 p 0 ≠ 0 → Gives (.vt40Status t n w) s P) ∧
    ((touchAt s n.val).linkUp = false → Gives (.vt40IdentifyRetry t n) s fun u =>
      u.emitted.take 2 = [.vt40 n.val 0x04 [], .vt40 n.val 0x05 []] ∧ u.touch = s.touch)

/-- On an enabled idle channel with no trigger taken in this tick, an edge of the pin of its polarity, a write of a slice and a dictionary write play an effect that is ready, with the gain of the effect, and drive its targets, each in a mode that accepts its source. A write of a slice in another mode is counted as dropped, and a dictionary write is refused. A merged effect starts when its wait ends. -/
def Obligations.HapticTriggersPlayTheirEffect : Prop :=
  (∀ (s : State) (t : Rrp) (h : Fin 8) (e : Nat), fieldOn s = true → hapticEnabled s h.val = true → effectReady s e = true →
    (hapticAt s h.val).st = .idle → (∀ p, (hapticAt s h.val).lastTick = some p → p.1 ≠ tickOf s t) →
    let P := fun u => (hapticAt u h.val).st = .playing ∧ (hapticAt u h.val).effect = e ∧
      (hapticAt u h.val).gain = effectGain s e ∧ (hapticAt u h.val).start = t ∧
      .hapticDrive h.val (effectTargets s h.val (effectGain s e) (effectOf s e)) ∈ u.emitted
    (∀ (up : Bool) (r : Nat), acceptsPin s.mode = true → (hapticAt s h.val).trig ≠ up → decide (entryNum s (hapticIndex h.val 4) 2 = 1) = up →
      entryNum s (hapticIndex h.val 4) 1 = e → Gives (.hapticPinTrigger t h up r) s P) ∧
    (∀ (k : Fin 32) (v r : Nat), windowOpen s k.val = true → discarding s k.val = false → bits v 15 8 = h.val → v % 256 = e →
      ownerSlice s 0x04 h.val = some k.val → acceptsWrite s.mode = true → Gives (.hapticTrigger t k v r) s P) ∧
    (∀ (o : Origin) (r : Nat), RowOpen (atTime s t) o (hapticIndex h.val 6) 1 e → acceptsWrite s.mode = true →
      Gives (.hapticNTrigger t o h e r) s fun u => AnswersStatus u o (hapticIndex h.val 6) 1 stOk ∧ P u)) ∧
  (∀ (s : State) (t : Rrp) (o : Origin) (h : Fin 8) (e r : Nat), RowOpen (atTime s t) o (hapticIndex h.val 6) 1 e →
    acceptsWrite s.mode = false → Gives (.hapticNTrigger t o h e r) s fun u =>
      AnswersStatus u o (hapticIndex h.val 6) 1 stMode ∧ u.haptics = s.haptics) ∧
  (∀ (s : State) (t : Rrp) (h : Fin 8) (k : Fin 32) (v r : Nat), windowOpen s k.val = true → discarding s k.val = false →
    bits v 15 8 = h.val → ownerSlice s 0x04 h.val = some k.val → acceptsWrite s.mode = false →
    entryNum s (hapticIndex h.val 7) 2 + 1 < 2 ^ 32 → Gives (.hapticTrigger t k v r) s fun u =>
      entryNum u (hapticIndex h.val 7) 2 = entryNum s (hapticIndex h.val 7) 2 + 1 ∧ u.haptics = s.haptics) ∧
  ∀ (s : State) (t : Rrp) (h : Fin 8) (e g : Nat), (hapticAt s h.val).merge = some (e, g) → (hapticAt s h.val).st = .waiting →
    Gives (.mergeStart t h) s fun u => (hapticAt u h.val).st = .playing ∧ (hapticAt u h.val).effect = e ∧
      (hapticAt u h.val).gain = g ∧ (hapticAt u h.val).start = t ∧ (hapticAt u h.val).merge = none

/-- An effect that asks for braking brakes once its last sample has played. A channel that ends it or its braking with nothing waiting and no measurement due is idle, and braking that 10 ms do not end is counted. A fault stops the channel with its cause, until Restart. A measurement that is due after 24 hours, requested in Service, or tried again 60 s after one was aborted is made on an enabled idle channel, and after 20 ms sets Capacitance and its RRP; a request on CAN in another mode is refused. -/
def Obligations.HapticChannelsEndBrakeFaultAndMeasure : Prop :=
  (∀ (s : State) (t : Rrp) (h : Fin 8), (hapticAt s h.val).st = .playing →
    sampleTicks s.tb.rate (u16 (effectOf s (hapticAt s h.val).effect) 2) ≤ elapsed s.tb.rate (hapticAt s h.val).start t →
    (bit (u8 (effectOf s (hapticAt s h.val).effect) 1) 0 = true → Gives (.effectEnd t h) s fun u => (hapticAt u h.val).st = .braking) ∧
    (bit (u8 (effectOf s (hapticAt s h.val).effect) 1) 0 = false → (hapticAt s h.val).waiting = none →
      (hapticAt s h.val).measureDue = false → Gives (.effectEnd t h) s fun u => (hapticAt u h.val).st = .idle)) ∧
  (∀ (s : State) (t : Rrp) (h : Fin 8), (hapticAt s h.val).st = .braking → (hapticAt s h.val).waiting = none →
    (hapticAt s h.val).measureDue = false →
    (Gives (.brakeEnd t h) s fun u => (hapticAt u h.val).st = .idle ∧ u.dict = s.dict) ∧
    (msTicks s.tb.rate 10 ≤ elapsed s.tb.rate (hapticAt s h.val).start t →
      entryNum s (hapticIndex h.val 7) 4 + 1 < 2 ^ 32 → Gives (.brakeTimeout t h) s fun u => (hapticAt u h.val).st = .idle ∧
      entryNum u (hapticIndex h.val 7) 4 = entryNum s (hapticIndex h.val 7) 4 + 1)) ∧
  (∀ (s : State) (t : Rrp) (h : Fin 8) (cause : Nat), fieldOn s = true → 1 ≤ cause → cause ≤ 5 →
    Gives (.hapticFault t h cause) s fun u => (hapticAt u h.val).st = .fault ∧ (hapticAt u h.val).waiting = none ∧
      entryNum u (hapticIndex h.val 7) 7 = cause) ∧
  (∀ (s : State) (t : Rrp) (o : Origin) (h : Fin 8), RowOpen (atTime s t) o (hapticIndex h.val 6) 2 1 →
    (hapticAt s h.val).st = .fault → Gives (.hapticRestart t o h 1) s fun u => AnswersStatus u o (hapticIndex h.val 6) 2 stOk ∧
      (hapticAt u h.val).st = .idle ∧ entryNum u (hapticIndex h.val 7) 7 = 0) ∧
  (∀ (s : State) (t : Rrp) (h : Fin 8), (hapticAt s h.val).st = .idle → hapticEnabled s h.val = true →
    (fieldOn s = true → (hapticAt s h.val).aborted = false →
      (∀ x, (hapticAt s h.val).measuredAt = some x → 24 * 3600 * msTicks s.tb.rate 1000 ≤ elapsed s.tb.rate x t) → Gives (.hapticMeasureDue t h) s fun u => (hapticAt u h.val).st = .measuring) ∧
    (∀ o : Origin,
      (RowOpen (atTime s t) o (hapticIndex h.val 6) 3 1 → s.mode = .service → (hapticAt s h.val).aborted = false → Gives (.measureRequest t o h 1) s fun u =>
        AnswersStatus u o (hapticIndex h.val 6) 3 stOk ∧ (hapticAt u h.val).st = .measuring) ∧
      (dictOn s = true → openTickets s .can < 16 → o.path = .can → pathRemoved s .can (hapticIndex h.val 6) = false → s.mode ≠ .service →
        Gives (.measureRequest t o h 1) s fun u => AnswersStatus u o (hapticIndex h.val 6) 3 stMode ∧ u.haptics = s.haptics)) ∧
    (∀ x, (hapticAt s h.val).measureDue = true → (hapticAt s h.val).aborted = true → (hapticAt s h.val).retryFrom = some x →
      60 * msTicks s.tb.rate 1000 ≤ elapsed s.tb.rate x t → Gives (.hapticMeasureRetry t h) s fun u => (hapticAt u h.val).st = .measuring ∧ (hapticAt u h.val).aborted = false)) ∧
  ∀ (s : State) (t : Rrp) (h : Fin 8) (pf : Nat), (hapticAt s h.val).st = .measuring →
    msTicks s.tb.rate 20 ≤ elapsed s.tb.rate (hapticAt s h.val).start t → Gives (.hapticMeasureComplete t h pf) s fun u =>
    entryNum u (hapticIndex h.val 7) 5 = pf % 2 ^ 32 ∧ entryNum u (hapticIndex h.val 7) 6 = rrpNum t ∧
      (hapticAt u h.val).measureDue = false ∧
      (entryNum s (hapticIndex h.val 7) 8 = 0 → (hapticAt u h.val).st = .idle)

/-- An operation of a program memory leaves in DEST what its row of Table 13-5 gives: NOP nothing, COPY A, MIX the saturated sum, MAC the product with its coefficient alone or added to D, GAIN A scaled by the gain in force, HPF the filter's output from its state, DELAY what A was L executions ago, SELECT A or B, CLAMP A within its coefficient. No other register of the program, and nothing of the device outside the audio router, changes. -/
def Obligations.AudioOperationsWriteTheirDestination : Prop :=
  ∀ (s : State) (p : Fin 3) (i : Nat) (m : ProgMem), Quiescent s → memAt s p.val = some m → i < m.prog.ops.length →
    SMap.wf zeroSample m.regs = true →
    let w := progWord m i
    let W := fun (c : Instr) (v : Int) => Gives c s fun u => { u with audio := s.audio } = s ∧ ∃ m', memAt u p.val = some m' ∧
      m'.prog = m.prog ∧ m'.execs = m.execs ∧ audReg m' (opDest w) = v ∧ ∀ a, a ≠ opDest w → audReg m' a = audReg m a
    (opCode w = 0 → Gives (.audioNop p i) s fun u => u = s) ∧
    (opCode w = 1 → W (.copy p i) (valA m i)) ∧
    (opCode w = 2 → W (.mix p i) (sat32 (valA m i + valB m i))) ∧
    (opCode w = 3 → W (.mac p i) (let q := sat32 ((valA m i * progCoef m (opCoef w) + 2 ^ 27).fdiv (2 ^ 28))
      if bit w 0 then q else sat32 (valD m i + q))) ∧
    (opCode w = 4 → W (.gainRamp p i) (sat32 ((valA m i * linearGain (gainAt s (opCoef w)).cur + 2 ^ 27).fdiv (2 ^ 28)))) ∧
    (opCode w = 5 → W (.hpf p i) (let h := hpfAt m i; let k := hpfCoefs (opFlags w % 4)
      sat32 ((k.1 * (valA m i - 2 * h.x1 + h.x2) - k.2.1 * h.y1 - k.2.2 * h.y2 + 2 ^ 29).fdiv (2 ^ 30)))) ∧
    (opCode w = 6 → W (.delay p i) (SMap.get zeroSample m.delay
      (m.prog.coefs.getD (opCoef w + 1) 0 + m.execs % m.prog.coefs.getD (opCoef w) 0))) ∧
    (opCode w = 7 → W (.select p i) (if selectOn s w then valB m i else valA m i)) ∧
    (opCode w = 8 → W (.clamp p i) (min (progCoef m (opCoef w)) (max (-progCoef m (opCoef w)) (valA m i))))

/-- A gain target written begins a ramp from the gain in force over 48 samples for each millisecond of its ramp time. At every sample position of the raster, while the router is on and waits for no restart, each gain makes one step and the 64 outputs are taken. An accepted start enables a stream of its owner from the first sample of the next frame, and one that fails a check takes the fields alone; a stop clears ENABLE. At the end of a fade the incoming program runs alone and a waiting one comes in. -/
def Obligations.AudioGainsStreamsAndSwaps : Prop :=
  (∀ (s : State) (t : Rrp) (o : Origin) (g : Fin 256) (v : Nat), RowOpen (atTime s t) o (0x5100 + g.val) 1 v →
    Gives (.gainTargetWrite t o g v) s fun u => AnswersStatus u o (0x5100 + g.val) 1 stOk ∧ gainAt u g.val =
      { gainAt s g.val with from_ := (gainAt s g.val).cur.getD (-32767), target := gainOf v,
                            len := 48 * entryNum s (0x5100 + g.val) 2, pos := 0 }) ∧
  (∀ (s : State) (t : Rrp) (sdin : List (List Nat)), audioOnRaster (atTime s t) = true → s.audio.restart = none →
    Gives (.audioSample t sdin) s fun u => (∀ g, g < 256 → gainAt u g = stepGain (gainAt s g)) ∧ u.audio.tx.length = 64) ∧
  (∀ (s : State) (t : Rrp) (k : Fin 32) (i : Fin 64) (v : Nat), windowOpen s k.val = true → streamOwner s i.val = some k.val →
    discarding s k.val = false →
    let c := andMask (v % 2 ^ 31 + 2 ^ 31) 0x7800000F; let q := streamAt s i.val
    (bit q.ctrl 31 = false →
      let ok := bit c 30 = captures s i.val ∧ streamFormat c ≠ 3 ∧ 6 ≤ c % 16 ∧ q.base % 4096 = 0 ∧
        sliceMay s k.val (bit c 30) q.base 1 false = true ∧
        sliceMay s k.val (bit c 30) (q.base + streamFrames c * streamFrame c - 1) 1 false = true
      (ok → Gives (.audStreamEnable t k i v) s fun u => (streamAt u i.val).ctrl = c + 2 ^ 31 ∧ (streamAt u i.val).hwPos = 0 ∧
        (streamAt u i.val).starting = true ∧ (streamAt u i.val).startRrp = firstSample (atTime s t) ∧
        (streamAt u i.val).blocked = false) ∧
      (¬ok → Gives (.audStreamEnable t k i v) s fun u => streamAt u i.val = { q with ctrl := c }) ∧
      Gives (.audStreamDisable t k i v) s fun u => streamAt u i.val = { q with ctrl := andMask (v % 2 ^ 31) 0x7800000F }) ∧
    (bit q.ctrl 31 = true → (Gives (.audStreamEnable t k i v) s fun u => u.audio = s.audio) ∧
      Gives (.audStreamDisable t k i v) s fun u => streamAt u i.val = { q with ctrl := q.ctrl - 2 ^ 31 })) ∧
  ∀ (s : State) (t : Rrp), s.audio.fadeLen ≠ 0 → s.audio.fadeLen ≤ s.audio.fadePos → Gives (.swapFadeEnd t) s fun u =>
    u.audio.running = s.audio.incoming ∧ u.audio.incoming = s.audio.waiting ∧ u.audio.waiting = none ∧ u.audio.fadeLen = 0 ∧
      ∀ r, s.audio.running = some r → memAt u r.val = none

/-- A request that the contract of the active last admits at once is carried out. A write that the memory division allows, where no group is lost and nothing of it is mirrored, makes its bytes read as written and leaves every other byte. An allowed read outside ECC ranges that DRAM can answer is answered with its bytes. A blocked access is refused, and no byte changes. A request of a requester to which the active last gives no item waits, and no byte changes. -/
def Obligations.DramAccessesReadAndWrite : Prop :=
  (∀ (s : State) (t : Rrp) (q : DramReq), Quiescent s → Admitted s q →
    (∀ bs, q.data = some bs → accessAllowed s q.who true q.addr bs.length = true → (∀ g, groupLost s g = false) →
      (∀ i, i < bs.length → mirrored s (q.addr + i) = false) → Gives (.dramAccess t q) s fun u =>
        memBytes u q.addr bs.length = bs ∧ ∀ a, a < q.addr ∨ q.addr + bs.length ≤ a → memByte u a = memByte s a) ∧
    (∀ bs, q.data = none → accessAllowed s q.who false q.addr q.len = true → inEcc s q.addr = false →
      poisonedWords s q.addr q.len = [] → physBytes s q.addr q.len = some bs → Gives (.dramAccess t q) s fun u =>
        u.emitted = .dramRead q.requester q.addr bs :: s.emitted ∧ SameBytes s u) ∧
    ((∀ bs, q.data = some bs → accessAllowed s q.who true q.addr bs.length = false) →
      (q.data = none → accessAllowed s q.who false q.addr q.len = false) → Gives (.dramAccess t q) s fun u =>
        u.emitted.head? = some (.dramRefused q.requester q.addr false) ∧ SameBytes s u)) ∧
  ∀ (s : State) (t : Rrp) (q : DramReq), Quiescent s → s.lasts.waiting = [] → dramServing s = true → dramItem s q.requester = none →
    Gives (.dramAccess t q) s fun u => u.lasts.waiting = [⟨none, q⟩] ∧ u.emitted = s.emitted ∧ SameBytes s u

/-- A mirrored read repeated from the shadow is counted: of a lost primary with nothing else, and of an uncorrectable word with its error. A port's panic level is set from what waits. A refresh of a channel on which a port at level 2 has requests is postponed while fewer than 8 are owed; with no port at level 2 none stays owed. A change of rate that succeeds takes the new rate and the other timing set, and one that falls back keeps rate and set; each is counted. A lost group, or a channel whose compensation does not converge, marks its group lost. -/
def Obligations.DramControllerKeepsItsService : Prop :=
  (∀ (s : State) (t : Rrp) (a : Nat) (fails : Bool), mirrored s a = true → s.mem.late = [] → Quiescent s →
    entryNum s 0x560A 0 + 1 < 2 ^ 32 → entryNum s 0x5609 0 + 1 < 2 ^ 32 →
    (groupLost s (groupOf s a) = true → Gives (.mirrorReread t a 0 fails) s fun u =>
      entryNum u 0x560A 0 = entryNum s 0x560A 0 + 1 ∧ u.health = s.health ∧ SameBytes s u) ∧
    (inEcc s a = true → Gives (.mirrorReread t a 1 fails) s fun u => entryNum u 0x560A 0 = entryNum s 0x560A 0 + 1 ∧
      entryNum u 0x5609 0 = entryNum s 0x5609 0 + 1 ∧ SameBytes s u) ∧
    (groupLost s (groupOf s a) = false → Gives (.mirrorReread t a 2 fails) s fun u =>
      entryNum u 0x560A 0 = entryNum s 0x560A 0 + 1 ∧ u.health = s.health ∧ SameBytes s u)) ∧
  (∀ (s : State) (t : Rrp) (p : Fin 12) (inc : Bool) (l w c : Nat), Gives (.panicEvaluate t p inc l w c) s fun u =>
    vecAt u.mem.panic p.val 0 = panicLevel s p.val inc l w ∧ vecAt u.mem.panicChannels p.val 0 = c ∧
      u.mem.rate = s.mem.rate ∧ u.dict = s.dict) ∧
  (∀ (s : State) (t : Rrp) (c : Fin 16),
    (channelPanics s c.val = true → vecAt s.mem.owed c.val 0 < 8 → entryNum s 0x560B 0 + 1 < 2 ^ 32 → Gives (.dramRefresh t c) s fun u =>
      vecAt u.mem.owed c.val 0 = vecAt s.mem.owed c.val 0 + 1 ∧ entryNum u 0x560B 0 = entryNum s 0x560B 0 + 1) ∧
    ((∀ l ∈ s.mem.panic.toList, l ≠ 2) → Gives (.dramRefresh t c) s fun u => vecAt u.mem.owed c.val 0 = 0 ∧ u.dict = s.dict)) ∧
  (∀ (s : State) (t : Rrp) (r : Nat), s.mem.changing = some r →
    (∀ back, entryNum s 0x560C 0 + 1 < 2 ^ 32 → Gives (.freqChangeComplete t true back) s fun u =>
      u.mem.changing = none ∧ u.mem.rate = r ∧ u.mem.setInUse = !s.mem.setInUse ∧ entryNum u 0x560C 0 = entryNum s 0x560C 0 + 1) ∧
    (entryNum s 0x560D 0 + 1 < 2 ^ 32 → Gives (.freqChangeComplete t false true) s fun u =>
      u.mem.changing = none ∧ u.mem.rate = s.mem.rate ∧ u.mem.setInUse = s.mem.setInUse ∧ entryNum u 0x560D 0 = entryNum s 0x560D 0 + 1)) ∧
  (∀ (s : State) (t : Rrp) (g : Fin 4), groupLost s g.val = false → s.mem.bitsN ≠ 0 → Gives (.channelGroupLost t g) s fun u =>
    groupLost u g.val = true ∧ ∀ h, h < 4 → h ≠ g.val → groupLost u h = groupLost s h) ∧
  ∀ (s : State) (t : Rrp) (c : Fin 16), dramServing s = true →
    (Gives (.wckDqCompensation t c false) s fun u => groupLost u (c.val / 4) = true) ∧
    Gives (.wckDqCompensation t c true) s fun u => u.mem = s.mem ∧ u.health = s.health

/-- A faulty bank stays faulty; one of the comb restarts the management core, and one of a pair whose other bank is lost loses the pair. A secure bank lost with its partner leaves layer P empty. A check started on a free unowned channel runs, and one on a running channel is refused and shown. A job that ends has its result latched, or its error with a result of zero, and advances SEQ. -/
def Obligations.CombBanksFailAndChecksRun : Prop :=
  (∀ (s : State) (t : Rrp) (b : Fin 64) (n : Nat), domainOn s 2 = true → vecAt s.mem.banks b.val true = false →
    Gives (.combBankFault t false b n) s fun u => vecAt u.mem.banks b.val false = true ∧ u.net.restarting = true ∧
      (vecAt s.mem.banks ((b.val + 32) % 64) false = true → u.mem.pairLost = true) ∧
      (vecAt s.mem.banks ((b.val + 32) % 64) false = false → u.mem.pairLost = s.mem.pairLost)) ∧
  (∀ (s : State) (t : Rrp) (b : Fin 64) (n : Nat), domainOn s 3 = true → b.val < 8 → vecAt s.mem.secBanks b.val true = false →
    Gives (.combBankFault t true b n) s fun u => vecAt u.mem.secBanks b.val false = true ∧ u.mem.banks = s.mem.banks ∧
      (vecAt s.mem.secBanks ((b.val + 4) % 8) false = true → u.sentinel.atlas = none)) ∧
  (∀ (s : State) (t : Rrp) (o : Origin) (c : Fin 16) (d : Bytes) (j : CheckJob), writeStatus (atTime s t) o (checkIndex c.val) 3 d = 0 →
    parseCheckStart d = some j → u8 d 17 ≤ 1 → ownerSlice s 0x07 c.val = none →
    ((checkAt s c.val).job = none → Gives (.checkCStart t o c d) s fun u => AnswersStatus u o (checkIndex c.val) 3 stOk ∧
      (checkAt u c.val).job = some j ∧ (checkAt u c.val).valid = false ∧ (checkAt u c.val).error = 0) ∧
    ((checkAt s c.val).job ≠ none → Gives (.checkCStart t o c d) s fun u => AnswersStatus u o (checkIndex c.val) 3 stBusy ∧
      (checkAt u c.val).refused = true ∧ (checkAt u c.val).job = (checkAt s c.val).job)) ∧
  ∀ (s : State) (t : Rrp) (c : Fin 16) (j : CheckJob), (checkAt s c.val).job = some j → j.paused = false →
    let E := fun (u : State) (error : Nat) (r : Bytes) => (checkAt u c.val).job = none ∧ (checkAt u c.val).valid = true ∧
      (checkAt u c.val).error = error ∧ (checkAt u c.val).seq = ((checkAt s c.val).seq + 1) % 256 ∧ (checkAt u c.val).result = r
    (checkArgsOk c.val j = false → ∀ e, Gives (.checkJobComplete t c e) s fun u => E u 3 (zeroBytes 32)) ∧
    (checkArgsOk c.val j = true → (Gives (.checkJobComplete t c true) s fun u => E u 1 (zeroBytes 32)) ∧
      ∀ bs, (checkBytes (atTime s t) j).1 = .ok bs → Gives (.checkJobComplete t c false) s fun u => E u 0 (checkResult j.algorithm bs))

/-- DRAIN makes an active slice drain, and its last work done makes it idle. RESUME makes a draining or idle slice active. RESET of a quiescent slice makes it active with every register of its window but SLICE_DISCARDS at reset, and one of a busy slice is NOT_QUIESCENT. A write of more than one bit, or in another state, is REFUSED. A forced reset ends the slice's work at once, and finishes with the slice active and its event set; of an unbound slice it is refused. -/
def Obligations.SlicesDrainResumeAndReset : Prop :=
  (∀ (s : State) (t : Rrp) (k : Fin 32) (v : Nat), windowOpen s k.val = true →
    let R := fun (u : State) (r : Nat) (st : SliceState) => (sliceAt u k.val).result = r ∧ (sliceAt u k.val).st = st
    let st := (sliceAt s k.val).st
    (v % 8 = 0 ∨ v % 8 = 1 → Gives (.drain t k v) s fun u => if st = .active then R u 1 .draining else R u 3 st) ∧
    (v % 8 = 0 ∨ v % 8 = 4 → Gives (.resume t k v) s fun u => if st = .draining ∨ st = .idle then R u 1 .active else R u 3 st) ∧
    (v % 8 = 0 ∨ v % 8 = 2 → busyMask s k.val ≠ 0 → Gives (.reset t k v) s fun u => R u 2 st ∧ u.sregs = s.sregs) ∧
    (v % 8 = 0 ∨ v % 8 = 2 → busyMask s k.val = 0 → SMap.wf zeroReg s.sregs = true → Gives (.reset t k v) s fun u => R u 0 .active ∧
      (sliceAt u k.val).flipHead = 0 ∧ (sliceAt u k.val).flipTail = 0 ∧ ∀ off, off < 65536 → off ≠ 0x18 → sreg u k.val off = 0) ∧
    (v % 8 = 3 ∨ v % 8 = 5 ∨ v % 8 = 7 → Gives (.drain t k v) s fun u => R u 3 st) ∧
    (v % 8 = 5 ∨ v % 8 = 6 ∨ v % 8 = 7 → Gives (.resume t k v) s fun u => R u 3 st) ∧
    (v % 8 = 3 ∨ v % 8 = 6 ∨ v % 8 = 7 → Gives (.reset t k v) s fun u => R u 3 st)) ∧
  (∀ (s : State) (t : Rrp) (k : Fin 32), (sliceAt s k.val).st = .draining → busyMask s k.val = 0 → Gives (.drainDone t k) s fun u =>
    (sliceAt u k.val).st = .idle ∧ bit (sreg u k.val 0x10) 4 = true) ∧
  (∀ (s : State) (t : Rrp) (o : Origin) (k : Fin 32), RowOpen (atTime s t) o (0x5410 + k.val) 4 1 →
    ((sliceAt s k.val).st ≠ .unbound → (sliceAt s k.val).st ≠ .resetting → Gives (.sliceForcedReset t o k 1) s fun u =>
      AnswersStatus u o (0x5410 + k.val) 4 stOk ∧ (sliceAt u k.val).st = .resetting ∧ (sliceAt u k.val).forced = true ∧
      (sliceAt u k.val).waiting = [] ∧ (ctxAt u k.val).job = none) ∧
    ((sliceAt s k.val).st = .unbound → Gives (.sliceForcedReset t o k 1) s fun u =>
      AnswersStatus u o (0x5410 + k.val) 4 stState ∧ u.slices = s.slices)) ∧
  ∀ (s : State) (t : Rrp) (k : Fin 32), (sliceAt s k.val).st = .resetting → (sliceAt s k.val).forced = true →
    Gives (.forcedResetComplete t k) s fun u => (sliceAt u k.val).st = .active ∧ (sliceAt u k.val).forced = false ∧
      bit (sreg u k.val 0x10) 5 = true

/-- A register write of 4 aligned bytes sets a scratch register of the slice's window, and 8 bytes a 64-bit ring base while its ring is disabled; one of the wrong size or alignment is a window violation. A register of a mailbox read is answered with what it holds. A BAR0 read of a window bound to its port is answered with the register, and one of a window that is not answers zero. Of BAR4 requests that the contract admits at once, a read that the memory division allows is answered with its bytes, a refused one with zeros and counted, and an allowed write stores its bytes. -/
def Obligations.HostAccessesReachTheirWindow : Prop :=
  (∀ (s : State) (t : Rrp) (k : Fin 32) (off v : Nat), windowOpen s k.val = true → SMap.wf zeroReg s.sregs = true →
    (0x700 ≤ off → off < 0x7FC → off % 4 = 0 → v < 2 ^ 32 → Gives (.registerWrite t (.slice k) off 4 v) s fun u =>
      sreg u k.val off = v ∧ u.slices = s.slices) ∧
    (off = 0x100 ∨ off = 0x200 ∨ off = 0x300 ∨ off = 0x400 ∨ off = 0x500 → bit (sreg s k.val (off + 8)) 31 = false → v < 2 ^ 64 →
      Gives (.registerWrite t (.slice k) off 8 v) s fun u => sreg u k.val off = v) ∧
    (∀ size, off < 65536 → accessFits off size = false → entryNum s (0x5400 + (sliceAt s k.val).port) 5 + 1 < 2 ^ 32 →
      Gives (.registerWrite t (.slice k) off size v) s fun u => u.sregs = s.sregs ∧
        entryNum u (0x5400 + (sliceAt s k.val).port) 5 = entryNum s (0x5400 + (sliceAt s k.val).port) 5 + 1)) ∧
  (∀ (s : State) (t : Rrp) (p : Fin 4) (off : Nat), mailboxServed s p = true → off < 4096 → off % 4 = 0 →
    Gives (.registerWrite t (.mailbox p) off 4 none) s fun u => u.emitted = .hostRead p.val (mailboxWord s p off) :: s.emitted ∧
      u.net = s.net) ∧
  (∀ (s : State) (t : Rrp) (p : Fin 4) (k : Fin 32) (off size : Nat) (pasid : Option Nat), portUp s p.val = true → off < 65536 →
    accessFits off size = true →
    let c := fun d => Instr.bar0Access t p (65536 * k.val + off) size d pasid
    ((sliceAt s k.val).st ≠ .unbound → (sliceAt s k.val).port = p.val → windowCheckOk s p.val k.val pasid = true →
      Gives (.bar0Access t p (65536 * k.val + off) size none pasid) s fun u =>
        u.emitted.head? = some (.hostRead p.val (readWindow (atTime s t) k.val off size).1)) ∧
    ((sliceAt s k.val).st = .unbound ∨ (sliceAt s k.val).port ≠ p.val →
      (Gives (c none) s fun u => u.emitted = .hostRead p.val 0 :: s.emitted) ∧ ∀ v, Gives (c (some v)) s fun u =>
        u.emitted = s.emitted ∧ u.slices = s.slices ∧ u.sregs = s.sregs)) ∧
  ∀ (s : State) (t : Rrp) (p : Fin 4) (off len : Nat) (pasid : Option Nat), portUp s p.val = true → off < 2 ^ 36 → Quiescent s →
    let who := (bar4Who s p.val pasid).1
    let q := fun (d : Option Bytes) => DramReq.mk who (bar4Who s p.val pasid).2 off len d 0 false false
    (∀ bs, Admitted s (q none) → accessAllowed s who false off len = true → poisonedWords s off len = [] → physBytes s off len = some bs → Gives (.bar4Access t p off len none pasid) s fun u =>
      u.emitted = .hostData p.val bs :: s.emitted ∧ SameBytes s u) ∧
    (Admitted s (q none) → accessAllowed s who false off len = false → Gives (.bar4Access t p off len none pasid) s fun u =>
      u.emitted.head? = some (.hostData p.val (zeroBytes len)) ∧ SameBytes s u) ∧
    (∀ bs, Admitted s (q (some bs)) → accessAllowed s who true off bs.length = true → (∀ g, groupLost s g = false) →
      (∀ i, i < bs.length → mirrored s (off + i) = false) → Gives (.bar4Access t p off len (some bs) pasid) s fun u =>
        memBytes u off bs.length = bs ∧ ∀ a, a < off ∨ off + bs.length ≤ a → memByte u a = memByte s a) ∧
    (∀ bs, Admitted s (q (some bs)) → accessAllowed s who true off bs.length = false → Gives (.bar4Access t p off len (some bs) pasid) s fun u => SameBytes s u)

/-- A port whose PERST# is deasserted trains unless it is disabled, and its link comes up at the speed and width reached. Before the lock a configuration request is answered with a retry until 900 ms have passed. After that a read of the vendor register is answered, and MSI-X, PASID and the power state follow a write. A port reset begins a forced reset of every bound slice of the port, clears its MSI-X state, and empties its mailbox; PERST# of a port that the lock disabled is ignored. -/
def Obligations.PortsTrainAnswerAndReset : Prop :=
  (∀ (s : State) (t : Rrp) (p : Fin 4), (portAt s p.val).perst = true → Gives (.perstDeassert t p) s fun u =>
    (portAt u p.val).perst = false ∧ (portAt u p.val).retryOver = false ∧
      (portAt u p.val).link = if (portAt s p.val).disabled then 3 else if domainOn s 15 then 1 else 0) ∧
  (∀ (s : State) (t : Rrp) (p : Fin 4), (portAt s p.val).perst = false →
    (s.lasts.lock = none → Gives (.configRetryTimeout t p) s fun u => (portAt u p.val).retryOver = true) ∧
    ∀ speed width, (portAt s p.val).link = 1 → mayTrain s p.val = true → Gives (.portLinkUp t p speed width) s fun u =>
      portAt u p.val = { portAt s p.val with link := 2, speed := speed, width := width }) ∧
  (∀ (s : State) (t : Rrp) (p : Fin 4), portUp s p.val = true →
    (∀ f d, s.lasts.lock = none → (portAt s p.val).retryOver = false → Gives (.pcieConfigRequest t p f d) s fun u =>
      u.emitted = .cfgRetry p.val :: s.emitted ∧ u.ports = s.ports) ∧
    ((portAt s p.val).retryOver = true → (Gives (.pcieConfigRequest t p .vendorDevice none) s fun u =>
        u.emitted = .cfgRead p.val 0x88401F8C :: s.emitted) ∧ ∀ v,
      (Gives (.pcieConfigRequest t p .msixControl (some v)) s fun u =>
        (portAt u p.val).msixEnable = bit v 15 ∧ (portAt u p.val).msixMask = bit v 14) ∧
      (Gives (.pcieConfigRequest t p .pasidControl (some v)) s fun u => (portAt u p.val).pasidEnable = bit v 0) ∧
      Gives (.pcieConfigRequest t p .powerControl (some v)) s fun u => (portAt u p.val).d3hot = decide (v % 4 = 3))) ∧
  (∀ (s : State) (t : Rrp) (p : Fin 4), (portAt s p.val).disabled = true → Gives (.portReset t p 0) s fun u =>
    u.slices = s.slices ∧ u.net.mailboxes = s.net.mailboxes) ∧
  ∀ (s : State) (t : Rrp) (p : Fin 4) (c : Fin 6), c ≠ 0 ∨ (portAt s p.val).disabled = false → Gives (.portReset t p c) s fun u =>
    (∀ k, k < 32 → (sliceAt s k).port = p.val → (sliceAt s k).st ≠ .unbound → (sliceAt u k).st = .resetting) ∧
    (portAt u p.val).msixEnable = false ∧ (portAt u p.val).msixPending = [] ∧ (portAt u p.val).pasidEnable = false ∧
    (portAt u p.val).d3hot = false ∧ vecAt u.net.mailboxes p.val resetMailbox = resetMailbox

/-- A call that the running island takes from a slice is answered by what the call does. VS_POST shows its slice's next frame, or answers why not. PAGE_TRANSFER changes every owner word, or none. PAGE_QUERY, SVAR_WRITE, MEASURE_EXTEND and QUOTE answer what they read or write. A record that is handed in is answered OK or REFUSED, with its effect only where it is accepted. A call with too few arguments is BAD_ARGS, and one while the island restarts is BUSY. The reply sets the mailbox registers, and the slice is free for its next call. -/
def Obligations.SecureCallsAreAnswered : Prop :=
  (∀ (s : State) (t : Rrp) (k : Fin 32) (c : SecureCall), (sliceAt s k).call = some c → c.taken = false →
    let x := atTime s t
    let a := callArgs c.desc
    let Has := fun n need => callNo c.desc = n ∧ s.sec.island = 1 ∧ need ≤ u16 c.desc 2 ∧ u16 c.desc 2 ≤ 244
    let R := fun (u : State) (st : Nat) (b : Bytes) => (sliceAt u k).call = some { c with taken := true, reply := some (st, b) };
    (Has 1 24 → ∀ f, u8 a 0 < 8 → u8 a 1 < 2 → surfaceCfg s (u8 a 0) (u8 a 1) = some f → zeros a 2 2 = true → u64 a 8 % 256 = 0 →
      u32 a 16 % 64 = 0 → f.width * surfaceBpp f ≤ u32 a 16 → surfaceFits s (u8 a 0) (u8 a 1) = true →
      (f.slice ≠ k.val ∨ safetySlice s k = false → Gives (.vsPost t k) s fun u => R u 3 [] ∧ u.outs = s.outs) ∧
      (f.slice = k.val → safetySlice s k = true →
        (∀ g, (surfaceAt s (u8 a 0) (u8 a 1)).lastTag = some g → frameLater (u32 a 4) g = false →
          Gives (.vsPost t k) s fun u => R u 2 [] ∧ u.outs = s.outs) ∧
        ∀ bs, (∀ g, (surfaceAt s (u8 a 0) (u8 a 1)).lastTag = some g → frameLater (u32 a 4) g = true) →
          (readStaging k (u64 a 8) (u32 a 16) (f.width * surfaceBpp f) f.height x).1 = some bs →
          (crcOf crc32c bs ≠ u32 a 20 → Gives (.vsPost t k) s fun u => R u 1 [] ∧ (surfaceAt u (u8 a 0) (u8 a 1)).eligible = none) ∧
          (crcOf crc32c bs = u32 a 20 → Gives (.vsPost t k) s fun u => R u 0 (leBytes 8 (rrpNum t)) ∧
            (surfaceAt u (u8 a 0) (u8 a 1)).eligible = some t ∧ (surfaceAt u (u8 a 0) (u8 a 1)).eligibleTag = u32 a 4 ∧
            bs ∈ (surfaceAt u (u8 a 0) (u8 a 1)).bufs.toList))) ∧
    (Has 2 16 → u64 a 0 % 4096 = 0 → 1 ≤ u32 a 8 → u32 a 8 ≤ 262144 → ownerForm (u32 a 12) = true → s.sec.divMode = 2 →
      let pages := rangeFrom (u64 a 0 / 4096) (u32 a 8);
      ((∀ p ∈ pages, mayTransfer s k (u32 a 12) (ownerWord s (p * 4096)) = true) → SMap.wf (fun _ => none) s.sec.owners = true →
        Gives (.pageTransfer t k) s fun u => R u 0 [] ∧ ∀ p, SMap.get (fun _ => none) u.sec.owners p =
          if p ∈ pages then some (u32 a 12) else SMap.get (fun _ => none) s.sec.owners p) ∧
      (∀ p ∈ pages, mayTransfer s k (u32 a 12) (ownerWord s (p * 4096)) = false →
        Gives (.pageTransfer t k) s fun u => R u 3 [] ∧ u.sec = s.sec)) ∧
    (Has 3 8 → let w := ownerWord s (u64 a 0); Gives (.pageQuery t k) s fun u => R u 0 (leBytes 4 (if wordMine s k w then w else andMask w 0xC0000000)) ∧
      u.sec = s.sec) ∧
    (Has 4 8 → zeros a 1 3 = true → (safetySlice s k = true → SMap.wf zeroVar s.sentinel.vars = true → Gives (.svarWrite t k) s fun u => R u 0 [] ∧
        ∀ i, SMap.get zeroVar u.sentinel.vars i = if i = u8 a 0 then u32 a 4 else SMap.get zeroVar s.sentinel.vars i) ∧
      (safetySlice s k = false → Gives (.svarWrite t k) s fun u => R u 3 [] ∧ u.sentinel = s.sentinel)) ∧
    (Has 5 36 → zeros a 1 3 = true →
      (12 ≤ u8 a 0 → u8 a 0 ≤ 15 → let m := sha256 (mrAt s (u8 a 0) ++ sub a 4 32); Gives (.measureExtend t k) s fun u => R u 0 m ∧ mrAt u (u8 a 0) = m ∧
        ∀ i, i ≠ u8 a 0 → mrAt u i = mrAt s i) ∧
      (u8 a 0 < 12 ∨ 15 < u8 a 0 → Gives (.measureExtend t k) s fun u => R u 4 [] ∧ u.sec = s.sec)) ∧
    (Has 6 32 → Gives (.quote t k) s fun u => ∃ sig, sig.length = 96 ∧ u.sec = s.sec ∧
      R u 0 (leBytes 1 s.sec.lifeCycle ++ zeroBytes 3 ++ leBytes 4 (entryNum s 0x5E03 0) ++ sha384 (s.sec.mrs.toList.flatMap id) ++ sig)) ∧
    (Has 7 8 → ∀ r, sliceRead x k (u64 a 0) 296 false = (.ok r, x) →
      (keyRecordOk s r = false → Gives (.keyProvision t k) s fun u => R u 9 [] ∧ u.sec = s.sec) ∧
      (keyRecordOk s r = true → Gives (.keyProvision t k) s fun u => R u 0 [] ∧ u.sec.counter = u32 r 8 ∧
        mrAt u 11 = sha256 (mrAt s 11 ++ sha256 r) ∧ (u8 r 4 = 0 → u.sec.ownerHash = some (sha384 (sub r 24 96)) ∧ u.sec.keys = s.sec.keys))) ∧
    (Has 8 12 → safetySlice s k = true → 132 ≤ u32 a 8 → u32 a 8 ≤ 1140 → ∀ r, sliceRead x k (u64 a 0) (u32 a 8) false = (.ok r, x) →
      (divisionOk s r = false → Gives (.divisionSet t k) s fun u => R u 9 [] ∧ u.sec = s.sec) ∧
      (divisionOk s r = true → Gives (.divisionSet t k) s fun u => R u 0 [] ∧ u.sec.counter = u32 r 8 ∧ u.sec.reserve = u16 r 6 ∧
        u.sec.grants = (records r 20 16 (u16 r 4)).map grantRec ∧ u.sec.grantsInForce = s.sec.grantsInForce)) ∧
    (Has 9 8 → ∀ r, sliceRead x k (u64 a 0) 104 false = (.ok r, x) →
      (u8 r 0 < 4 → andMask (unlockable s (0x8000 ≤ u16 r 2)) 3 = 3 → u16 r 2 ≠ 0 → responseSigned s r = true → Gives (.debugUnlock t k) s fun u =>
        R u 0 [] ∧ u.sec.debug = Nat.lor s.sec.debug (u8 r 0) ∧ u.sec.holdoff = false) ∧
      (responseSigned s r = false ∨ 4 ≤ u8 r 0 → Gives (.debugUnlock t k) s fun u => R u 9 [] ∧ u.sec = { s.sec with holdoff := true, refusedAt := t })) ∧
    (∀ i need, (i, need) ∈ [(Instr.vsPost t k, 1, 24), (.pageTransfer t k, 2, 16), (.pageQuery t k, 3, 8), (.svarWrite t k, 4, 8), (.measureExtend t k, 5, 36),
        (.quote t k, 6, 32), (.keyProvision t k, 7, 8), (.divisionSet t k, 8, 12), (.debugUnlock t k, 9, 8)] → callNo c.desc = need.1 →
      (s.sec.island ≠ 1 → Gives i s fun u => R u 6 [] ∧ u.sec = s.sec) ∧
      (s.sec.island = 1 → 244 < u16 c.desc 2 ∨ u16 c.desc 2 < need.2 → Gives i s fun u => R u 4 [] ∧ u.sec = s.sec))) ∧
  ∀ (s : State) (t : Rrp) (k : Fin 32) (c : SecureCall) (st : Nat) (b : Bytes), (sliceAt s k).call = some c → c.reply = some (st, b) →
    b.length ≤ 256 → SMap.wf zeroReg s.sregs = true → Gives (.secureCallReply t k) s fun u => (sliceAt u k).call = none ∧
      sreg u k 0x1000 = 2 ^ 31 + callNo c.desc ∧ sreg u k 0x1004 = u32 c.desc 4 ∧ sreg u k 0x1008 = st * 2 ^ 24 + b.length ∧
      ∀ i, i < b.length / 4 → sreg u k (0x1010 + 4 * i) = u32 b (4 * i)

/-- A key or division record or a debug response in the debug mailbox is accepted exactly where its checks pass, and answered so. A life-cycle token takes effect only where it is well formed and signed. A holdoff that has lasted 1 s ends with a new challenge. An island that hangs is restarted, or stopped at its third restart within an hour, and it resumes only with the firmware that it booted. A tamper or a cause of wipe empties layer P, or is latched while SEC is off. A new atlas is taken where it is accepted. -/
def Obligations.IslandMailboxAndRestart : Prop :=
  (∀ (s : State) (t : Rrp) (r : Bytes), domainOn s 2 = true ∨ s.sec.bootStopped = true → (s.sec.island = 0 ∨ s.sec.island = 1) →
    let A := fun (u : State) (ok : Bool) => u.emitted.head? = some (.debugReply ok)
    (keyRecordOk s r = false → Gives (.mailboxKeyRecord t r) s fun u => A u false ∧ u.sec = s.sec) ∧
    (keyRecordOk s r = true → Gives (.mailboxKeyRecord t r) s fun u => A u true ∧ u.sec.counter = u32 r 8 ∧
      mrAt u 11 = sha256 (mrAt s 11 ++ sha256 r)) ∧
    (divisionOk s r = false → Gives (.mailboxDivisionRecord t r) s fun u => A u false ∧ u.sec = s.sec) ∧
    (divisionOk s r = true → Gives (.mailboxDivisionRecord t r) s fun u => A u true ∧ u.sec.counter = u32 r 8 ∧
      u.sec.grants = (records r 20 16 (u16 r 4)).map grantRec ∧ u.sec.reserve = u16 r 6 ∧ u.sec.grantsInForce = s.sec.grantsInForce) ∧
    (responseSigned s r = false → Gives (.mailboxDebugResponse t r) s fun u => A u false ∧ u.sec = { s.sec with holdoff := true, refusedAt := t }) ∧
    (responseSigned s r = true → u16 r 2 ≠ 0 → u8 r 0 < 16 → andMask (u8 r 0) (andMask (unlockable s (0x8000 ≤ u16 r 2)) 15) = u8 r 0 →
      Gives (.mailboxDebugResponse t r) s fun u => A u true ∧ u.sec.debug = Nat.lor s.sec.debug (u8 r 0) ∧
        mrAt u 10 = sha256 (mrAt s 10 ++ sha256 r))) ∧
  (∀ (s : State) (t : Rrp) (r : Bytes), domainOn s 2 = true → (s.sec.island = 0 ∨ s.sec.island = 1) → responseSigned s r = true →
    let g := u8 r 0 % 128;
    (128 ≤ u8 r 0 → tokenAllowed s g (u16 r 2) = true → Gives (.lifeCycleToken t r) s fun u => u.emitted.head? = some (.debugReply true) ∧
      u.sec.lifeCycle = g ∧ u.sec.keys = (if g = 4 then [] else s.sec.keys) ∧ u.sentinel.atlas = none ∧ u.mode = .bringup ∧
      u.power.step = 0) ∧
    (u8 r 0 < 128 ∨ tokenAllowed s g (u16 r 2) = false → Gives (.lifeCycleToken t r) s fun u =>
      u.emitted.head? = some (.debugReply false) ∧ u.sec = { s.sec with holdoff := true, refusedAt := t } ∧ u.mode = s.mode)) ∧
  (∀ (s : State) (t : Rrp) (b : Bytes), entryNum s 0x5E04 1 = 2 ∨ entryNum s 0x5E04 1 = 3 → s.sentinel.state = 0 → domainOn s 3 = true →
    s.sec.island = 1 → runningComp s 6 0 = some b →
    (atlasCheck b = 0 → Gives (.atlasReplaceComplete t) s fun u =>
      u.sentinel = { s.sentinel with state := 1, error := 0, atlas := some (parseAtlas b) }) ∧
    (atlasCheck b ≠ 0 → Gives (.atlasReplaceComplete t) s fun u =>
      u.sentinel = { s.sentinel with state := 2, error := atlasCheck b, atlas := none })) ∧
  (∀ (s : State) (t : Rrp), s.sec.holdoff = true → waited (atTime s t) s.sec.refusedAt 1000 = true → Gives (.challengeHoldoffExpire t) s fun u =>
    u.sec.holdoff = false ∧ u.sec.challenge.length = 32 ∧ u.sec.debug = s.sec.debug) ∧
  (∀ (s : State) (t : Rrp), s.sec.island = 1 → domainOn s 3 = true →
    let recent := s.sec.restartTimes.filter fun x => elapsed s.tb.rate x t < 3600 * msTicks s.tb.rate 1000
    (recent.length < 2 → Gives (.islandWatchdogExpire t) s fun u => u.sec.island = 2 ∧
      ∀ k c, (sliceAt s k).call = some c → c.reply = none → (sliceAt u k).call = some { c with taken := true, reply := some (6, []) }) ∧
    (2 ≤ recent.length → Gives (.islandWatchdogExpire t) s fun u => u.sec.island = 3)) ∧
  (∀ (s : State) (t : Rrp) (v : Bool) (d : Bytes), s.sec.island = 2 →
    (v = true → d = s.sec.mr1Digest → Gives (.islandRestartComplete t v d) s fun u => u.sec.island = 1) ∧
    (v = false ∨ d ≠ s.sec.mr1Digest → Gives (.islandRestartComplete t v d) s fun u => u.sec.island = 3)) ∧
  (∀ (s : State) (t : Rrp),
    (domainOn s 3 = true → (Gives (.tamperAssert t) s fun u => u.sentinel.atlas = none ∧ u.sec = s.sec) ∧
      ∀ c, 1 ≤ c → c ≤ 4 → Gives (.secureCombWipe t c) s fun u => u.sentinel.atlas = none ∧ u.sec = s.sec) ∧
    (domainOn s 3 = false → Gives (.tamperAssert t) s fun u =>
      u = { s with now := t, sec := { s.sec with tamperLatched := true }, dram := u.dram, stores := [], dramLost := false }))

/-- While the power controller is not isolated, a write of Mode Request that Table 1-5 and its authority allow starts a transition; any other is refused with its result. A request for the origin before the commit point aborts the transition, and any other valid one waits. At a frame boundary not before its frame a transition is committed with its switch and mode, or is stopped where its slot was not found to hold at the frame before. It ends in the target mode once no block delays it. In Service a domain is lowered, delayed or refused on request; a block asked again that no longer delays lets its domain go, and one that delays for its Delay Limit is forced, its regions isolated. A switch that does not answer is retried, then isolates its regions. -/
def Obligations.ModesChangeByRequestAndEvent : Prop :=
  (∀ (s : State) (t : Rrp) (p : Path) (v : Nat), RowOpen (atTime s t) ⟨p, 0, 0, 0⟩ 0x2002 0 v → s.power.slot = none →
    isolatedRegion s .aon = false →
    let A := fun (u : State) (st r : Nat) => AnswersStatus u ⟨p, 0, 0, 0⟩ 0x2002 0 st ∧ u.power.result = r ∧ u.mode = s.mode
    let may := fun (m : Mode) => m ≠ .service ∨ bit s.sec.debug 0 = true ∨ bit (entryNum s 0x2005 0) (pathBit p) = true;
    (s.power.transition = none →
      (∀ m, requestedMode v = some m → validTransition s.mode m = true → may m → Gives (.modeRequest t p v) s fun u => A u stOk 1 ∧
        u.power.transition = some ⟨s.mode, m, decide (s.mode = .service), nextBoundary s.tb.rate t 4⟩) ∧
      (∀ m, requestedMode v = some m → validTransition s.mode m = true → ¬ may m → Gives (.modeRequest t p v) s fun u => A u stState 8 ∧
        u.power.transition = none) ∧
      ((∀ m, requestedMode v = some m → validTransition s.mode m = false) → Gives (.modeRequest t p v) s fun u => A u stMode 7 ∧
        u.power.transition = none)) ∧
    (∀ tr m, s.power.transition = some tr → requestedMode v = some m → tr.target ≠ m → validTransition tr.target m = true → may m →
      v ≠ 3 ∨ s.mode = .service →
      (tr.committed = false → tr.origin = m ∨ (m = .run ∧ tr.origin = .degraded) → Gives (.modeRequest t p v) s fun u => A u stOk 3 ∧
        u.power.transition = none) ∧
      (tr.committed = true ∨ (tr.origin ≠ m ∧ ¬ (m = .run ∧ tr.origin = .degraded)) → Gives (.modeRequest t p v) s fun u => A u stOk 4 ∧
        u.power.transition = some tr ∧ u.power.slot = some (m, false)))) ∧
  (∀ (s : State) (t : Rrp) (tr : Transition) (reached trained : Bool) (ds : List (Fin 18)), s.power.transition = some tr → tr.committed = false →
    s.power.slot = none →
    let G := Gives (.transitionCommit t reached trained ds) s
    let Commits := fun (u : State) => u.power.transition = some { tr with committed := true }
    let Stops := fun (u : State) => u.power.transition = none ∧ u.mode = s.mode
    let i := returnSlot s
    let Holds := fun (k : Nat) => switchJudged (atTime s t) = true ∧ (resident s k).isSome = true;
    (rrpPos t = 0 → frameLater tr.frame t.frame = false →
      (tr.target = .hold → Holds 3 → Gives (.transitionCommit t reached trained ds) s fun u => Commits u ∧ u.mode = .hold ∧ u.lasts.active = 4) ∧
      (tr.target = .quiet → Holds 3 → G fun u => Commits u ∧ u.mode = s.mode ∧ u.lasts.active = 4) ∧
      (tr.target = .hold ∨ tr.target = .quiet → ¬ Holds 3 → G Stops) ∧
      (tr.target = .run → trained = true → Holds i → G fun u => Commits u ∧ u.mode = slotMode i ∧ u.lasts.active = i + 1) ∧
      (tr.target = .run → trained = false ∨ ¬ Holds i → G Stops) ∧
      (tr.target = .service → G fun u => Commits u ∧ u.mode = .service)) ∧
    (tr.target = .watch → G Commits) ∧
    (tr.target ≠ .watch → rrpPos t ≠ 0 ∨ frameLater tr.frame t.frame = true → Quiescent s → G fun u => u = { s with now := t })) ∧
  (∀ (s : State) (t : Rrp) (tr : Transition), s.power.transition = some tr → tr.committed = true → s.power.slot = none →
    let G := Gives (.transitionComplete t) s
    let Ends := fun (u : State) (m : Mode) => u.power.transition = none ∧ u.mode = m;
    ((∀ a ∈ s.power.asking, a.2 = false) →
      (tr.target = .quiet → Gives (.transitionComplete t) s fun u => Ends u .quiet ∧ u.mem.selfRefresh = true) ∧
      (tr.target = .hold → G fun u => Ends u s.mode ∧
        if entryNum s 0x210A 0 = 1 then u.mem.off = true else u.mem.selfRefresh = true) ∧
      (tr.target = .watch → G fun u => Ends u .watch ∧ u.power.enables = Vector.replicate 6 false ∧ u.power.guard.cycles = 0) ∧
      (tr.target = .bringup → G fun u => Ends u .bringup ∧ u.power.step = 0 ∧ domainOn u 1 = true ∧ domainOn u 3 = true ∧ domainOn u 2 = false) ∧
      (tr.target = .run ∨ tr.target = .service → G fun u => Ends u s.mode)) ∧
    ((∃ a ∈ s.power.asking, a.2 = true) → Quiescent s → G fun u => u = { s with now := t })) ∧
  (∀ (s : State) (t : Rrp) (p : Path) (d : Nat) (ready : Bool), RowOpen (atTime s t) ⟨p, 0, 0, 0⟩ 0x2104 0 d → s.mode = .service → d < 18 →
    isolatedRegion s .aon = false →
    let A := fun (u : State) (st a : Nat) => AnswersStatus u ⟨p, 0, 0, 0⟩ 0x2104 0 st ∧ u.power.offAnswer = a;
    (claimed s d = true → Gives (.domainOffRequest t p d ready) s fun u => A u stState 3 ∧ u.power.domains = s.power.domains) ∧
    (claimed s d = false → required s d = true → Gives (.domainOffRequest t p d ready) s fun u => A u stState 2 ∧
      u.power.domains = s.power.domains) ∧
    (claimed s d = false → required s d = false → domainOn s d = true →
      Gives (.domainOffRequest t p d ready) s fun u => A u stOk (if ready then 0 else 1) ∧
        vecAt u.power.domains d 0 = (if ready then 0 else 2) ∧ asked u d = (asked s d || !ready)) ∧
    (claimed s d = false → required s d = false → domainOn s d = false → Gives (.domainOffRequest t p d ready) s fun u => A u stOk 0 ∧
      u.power.domains = s.power.domains)) ∧
  ∀ (s : State) (t : Rrp) (d : Fin 18),
    (asked s d = true → vecAt s.power.domains d 0 = 2 →
      (outputStopping s d.val = false → Gives (.handshakeRetry t d true) s fun u => asked u d = false ∧ vecAt u.power.domains d 0 = 0) ∧
      (waited (atTime s t) (vecAt s.power.askedAt d.val zeroRrp) (entryNum s 0x2101 (d.val + 1)) = true →
        Gives (.delayLimitExpire t d) s fun u => asked u d = false ∧ vecAt u.power.domains d 0 = 3 ∧
        ∀ g ∈ domainRegions d, isolatedRegion u g = true)) ∧
    (Quiescent s → Gives (.handshakeRetry t d false) s fun u => u = { s with now := t }) ∧
    (s.mode ≠ .watch → s.mode ≠ .off → d ≠ 0 → domainOn s d = true → let n := vecAt s.power.switchTries d 0;
      (n < entryNum s 0x2109 3 → Gives (.switchGoodTimeout t d) s fun u => vecAt u.power.switchTries d 0 = n + 1 ∧ domainOn u d = true) ∧
      (entryNum s 0x2109 3 ≤ n → d ≠ 16 → Gives (.switchGoodTimeout t d) s fun u => vecAt u.power.domains d 0 = 4 ∧
        ∀ g ∈ domainRegions d, isolatedRegion u g = true))

/-- AON raises FLD where EPO_N is high, and each power-good or ready oscillator raises the next group, up to Bring-up. A wait that runs out repeats the sequence, or ends it in Watch with its cause, FAULT_N and a holdoff, which expires. EPO_N, a thermal trip and a failed group take the device to Off with every enable dropped. A supply out of range, or a sensor above 110 degrees, opens or repeats its record. -/
def Obligations.SuppliesRiseInOrderAndFallTogether : Prop :=
  (∀ (s : State) (e : Bool), aonOn s = false → Gives (.aonPowerOnReset e) s fun u => aonOn u = true ∧ u.mode = s.mode ∧
    (e = true → u.power.waking = true ∧ u.power.wakeTries = 0 ∧ ∀ g, g < 6 → vecAt u.power.enables g false = decide (g = 0)) ∧
    (e = false → u.power.enables = s.power.enables)) ∧
  (∀ (s : State) (g : Fin 6), vecAt s.power.enables g false = true → Gives (.powerGood g) s fun u => vecAt u.power.goods g false = true ∧
    u.power.oscEnable = (s.power.oscEnable || decide (g = 0)) ∧
    (s.power.waking = true → (∀ j, j ≤ g.val → vecAt s.power.enables j false = true) → g.val + 1 < 6 →
      vecAt s.power.enables (g.val + 1) false = false → (g.val = 1 → s.power.oscReady = true) → vecAt u.power.enables (g.val + 1) false = true) ∧
    (s.power.waking = true → (∀ j, j < 6 → vecAt s.power.enables j false = true) → (∀ j, j < 6 → j ≠ g.val → vecAt s.power.goods j false = true) →
      s.power.oscReady = true → s.power.resetN = false → s.mode = .off ∨ s.mode = .watch → u.mode = .bringup ∧ u.power.waking = false)) ∧
  (∀ (s : State), s.power.oscEnable = true → Gives .oscReady s fun u => u.power.oscReady = true ∧ u.power.goods = s.power.goods) ∧
  (∀ (s : State), s.power.waking = true →
    (s.power.wakeTries < entryNum s 0x2109 3 → Gives .powerGoodTimeout s fun u => u.power.wakeTries = s.power.wakeTries + 1 ∧
      u.power.waking = true ∧ u.mode = s.mode ∧ ∀ g, g < 6 → vecAt u.power.enables g false = decide (g = 0)) ∧
    (entryNum s 0x2109 3 ≤ s.power.wakeTries → Gives .powerGoodTimeout s fun u => u.mode = .watch ∧ u.power.waking = false ∧
      u.power.wakeHoldoff = true ∧ u.power.wakeFailCause = waitCause s ∧ 1 ∈ u.power.faultN ∧ u.power.enables = Vector.replicate 6 false)) ∧
  (∀ (s : State), Quiescent s → Gives .wakeHoldoffExpire s fun u => u = { s with power := { s.power with wakeHoldoff := false } }) ∧
  (∀ (s : State), let Off := fun (u : State) => u.mode = .off ∧ u.power.enables = Vector.replicate 6 false ∧ u.power.goods = Vector.replicate 6 false ∧
      u.power.transition = none ∧ u.power.slot = none ∧ u.dram = [];
    (aonOn s = true → Gives .epoAssert s Off ∧ Gives .thermalTrip s fun u => Off u ∧ u.power.tripped = true) ∧
    (∀ g : Fin 7, g ≠ 0 → vecAt s.power.goods (g.val - 1) false = true → Gives (.supplyGroupFail g) s Off) ∧
    (Gives (.supplyGroupFail 0) s fun u => Off u ∧ u.power = { resetPower with tripped := s.power.tripped }) ∧
    (Quiescent s → Gives .tripCoolDown s fun u => u = { s with power := { s.power with tripped := false } })) ∧
  ∀ (s : State) (t : Rrp) (n : Nat) (c : Int), findRecord s (causeKey 0x71 0) ≠ none ∨ freeSlot s ≠ none →
    let P := fun (u : State) => ∃ i r, findRecord u (causeKey 0x71 0) = some (i, r) ∧ r.st = .active ∧ r.latest = t;
    Gives (.supplyOutOfRange t n) s P ∧ (11000 < c → Gives (.overTemperature t n c) s P) ∧
      (c ≤ 11000 → Quiescent s → Gives (.overTemperature t n c) s fun u => u = { s with now := t })

/-- RESET_N low resets every domain but AON. Its release raises the groups, or begins Bring-up where they are good. Each step of Bring-up follows the one before it, brings its domains up, and stops the boot where its firmware verifies in neither bank. Training that passes sets the density, and one that fails goes to Hold where the hold last holds. Step 9 switches at a frame boundary to the slot that holds. -/
def Obligations.ResetsAndBringupRunTheirSteps : Prop :=
  (∀ (s : State), aonOn s = true →
    (s.power.resetN = false → Gives .resetAssert s fun u => u.mode = .off ∧ u.power.resetN = true ∧ u.power.waking = false ∧ u.dram = [] ∧
      ∀ d, d < 18 → vecAt u.power.domains d 0 = if d = 0 then 1 else 0) ∧
    ∀ e, s.power.resetN = true →
      (supplied s = true → s.mode = .off ∨ s.mode = .watch → Gives (.resetRelease e) s fun u => u.mode = .bringup ∧ u.power.resetN = false) ∧
      (supplied s = false → e = true → s.power.waking = false → Gives (.resetRelease e) s fun u => u.power.resetN = false ∧ u.power.waking = true ∧
        ∀ g, g < 6 → vecAt u.power.enables g false = decide (g = 0))) ∧
  (∀ (s : State) (t : Rrp) (k straps : Nat) (fe : List (Fin 8)) (fc : List (Fin 12)) (mv : Int) (reached : Bool),
    s.sec.bootStopped = false → s.power.transition = none → (∀ d, d < 18 → vecAt s.power.domains d 0 ≠ 4) →
    let G := Gives (.bringupStep t k straps fe fc mv reached) s
    let On := fun (u : State) (d : Nat) => domainOn u d = true ∧ u.power.step = k
    let good := fun (ty : Nat) => firmwareOk s 0 ty || firmwareOk s 1 ty;
    (s.mode ≠ .bringup → Quiescent s → Gives (.bringupStep t k straps fe fc mv reached) s fun u => u = { s with now := t }) ∧
    (s.mode = .bringup → k = s.power.step + 1 →
      (k = 1 → s.power.tripped = false → G fun u => On u 3 ∧ u.power.sampled = ⟨straps % 64, bit straps 6, bit straps 7⟩ ∧
        u.sec.divMode = (if s.sec.divFuse = 1 then 1 else if s.sec.divFuse = 2 then 2 else if bit straps 7 then 2 else 1) ∧
        (s.sec.lifeCycle = 4 → u.sec.bootStopped = true) ∧
        (s.sec.lifeCycle ≠ 4 → (bootState s).trial = false → good 2 = true → u.sec.island = 1 ∧ u.sec.bootStopped = false) ∧
        (s.sec.lifeCycle ≠ 4 → (bootState s).trial = false → good 2 = false → u.sec.bootStopped = true)) ∧
      (k = 2 → if good 3 then G fun u => On u 1 ∧ u.sec.bootStopped = false
        else G fun u => u.sec.bootStopped = true ∧ 0 ∈ u.power.faultN) ∧
      (k = 3 → if good 1 then G fun u => On u 2 ∧ u.net.nmt = .preOperational ∧ (keysUsable s = true → u.sec.grantsInForce = s.sec.grants ∧
          u.sec.reserveInForce = s.sec.reserve)
        else G fun u => u.sec.bootStopped = true ∧ 0 ∈ u.power.faultN) ∧
      (k = 4 → G fun u => On u 14) ∧
      (k = 5 → Quiescent s → G fun u => u = { s with now := t, power := { s.power with step := 5 } }) ∧
      (k = 6 → G fun u => On u 16) ∧
      (k = 7 → G fun u => On u 15 ∧ On u 17) ∧
      (k = 8 → s.mem.bitsN ≠ 0 → G fun u => On u 13 ∧ On u 12) ∧
      (k = 9 → s.mem.bitsN ≠ 0 → rrpPos t = 0 → ∀ i, bringupSlot s = some i → G fun u => u.mode = slotMode i ∧ u.lasts.active = i + 1))) ∧
  ∀ (s : State) (t : Rrp) (d : Vector Nat 4) (pass : Bool), s.mode = .bringup → 6 ≤ s.power.step → s.mem.bitsN = 0 → domainOn s 16 = true →
    (∀ n, n = 4 ∨ n = 8 ∨ n = 16 → d = Vector.replicate 4 n → Gives (.dramTrainingComplete t d true) s fun u =>
      u.mem.bitsN = densityBits n ∧ entryNum u 0x5600 0 = 4 * n ∧ u.mem.groups = Vector.replicate 4 1) ∧
    (pass = false ∨ (∃ i, i < 4 ∧ vecAt d i 0 ≠ vecAt d 0 0) → slotHolds (judgeDram (atTime s t)) 3 true = true → Gives (.dramTrainingComplete t d pass) s fun u =>
      u.mem.bitsN = 0 ∧ u.mode = .hold)

/-- A wake pin at its level, or a wake frame that names the node, wakes the device from Watch where it is configured to, and from Quiet requests Run. In Watch a period of the guard runs its table: a step with WAKE that holds long enough wakes, and a step that does not hold counts from zero. A read of an entry of Table 17-11 is answered, another is aborted, and the heartbeat shows the stopped state. -/
def Obligations.GuardWakesAndAnswers : Prop :=
  (∀ (s : State), s.mode = .watch → s.power.waking = false → s.power.wakeHoldoff = false →
    let W := fun (cause : Nat) (u : State) => u.power.waking = true ∧ u.power.wakeCause = cause ∧ vecAt u.power.enables 0 false = true;
    (∀ (p : Fin 4) (l : Bool), bit (entryNum s 0x2106 (p.val + 1)) 1 = l → bit (entryNum s 0x2106 (p.val + 1)) 0 = true →
      Gives (.wakePin p l) s fun u => W (p.val + 1) u ∧ vecAt u.power.wakePins p.val false = l) ∧
    (∀ d, d ≠ [] → (u8 d 0 = 0 ∨ u8 d 0 = s.power.nodeId) → entryNum s 0x2108 1 = 1 → Gives (.can0WakeFrame (entryNum s 0x2108 2) d) s (W 5)) ∧
    (∀ (g : GuardStep) (xs : List Int), s.power.guard.steps = [g] → s.power.guard.hits.length = 1 → s.power.guard.prev.length = 1 →
      s.power.guard.cycles + 1 < 2 ^ 32 → isolatedRegion s .aon = false → 1 ≤ g.count → g.source = 3 ∨ g.source = 4 ∨ g.source = 5 ∨ g.source = 6 → ∀ v, xs.head? = some v →
      let k := Nat.min g.count ((s.power.guard.hits[0]?).getD 0 + 1);
      (guardHolds g ((s.power.guard.prev[0]?).getD none) v = true → k = g.count → g.action = 1 → Gives (.guardPeriod xs) s (W 0x20)) ∧
      (guardHolds g ((s.power.guard.prev[0]?).getD none) v = true → k < g.count ∨ g.action = 3 → Gives (.guardPeriod xs) s fun u =>
        u.power.guard.hits = [k] ∧ u.power.guard.prev = [some v] ∧ u.power.waking = false ∧ u.power.guard.cycles = s.power.guard.cycles + 1) ∧
      (guardHolds g ((s.power.guard.prev[0]?).getD none) v = false → Gives (.guardPeriod xs) s fun u =>
        u.power.guard.hits = [0] ∧ u.power.guard.prev = [some v] ∧ u.power.waking = false ∧
        u.power.guard.watchMs = s.power.guard.watchMs + s.power.guard.period)) ∧
    (∀ q : Usdo, q.bus = 0 → q.node = s.power.nodeId →
      (∀ b, q.write = false → guardEntry s q.index q.sub = some b → Gives (.guardUsdoRead q) s fun u => u.emitted = .usdo 0 q.index q.sub b :: s.emitted) ∧
      (q.write = true ∨ guardEntry s q.index q.sub = none → Gives (.guardUsdoRead q) s fun u =>
        u.emitted = .usdoAbort 0 q.index q.sub stMode :: s.emitted)) ∧
    (s.power.heartbeatMs ≠ 0 → Gives .guardHeartbeat s fun u => u.emitted = .can 0 (0x700 + s.power.nodeId) [4] :: s.emitted)) ∧
  ∀ (s : State), s.mode = .quiet → s.power.transition = none → s.power.slot = none →
    let Q := fun (u : State) => u.mode = .quiet ∧ ∃ tr, u.power.transition = some tr ∧ tr.target = .run;
    (∀ (p : Fin 4) (l : Bool), bit (entryNum s 0x2106 (p.val + 1)) 1 = l → bit (entryNum s 0x2107 0) p.val = true → Gives (.wakePin p l) s Q) ∧
    (∀ d, d ≠ [] → (u8 d 0 = 0 ∨ u8 d 0 = nodeIdOf s) → bit (entryNum s 0x2107 0) 4 = true →
      Gives (.can0WakeFrame (entryNum s 0x2108 2) d) s Q) ∧
    (Quiescent s → (∀ xs, Gives (.guardPeriod xs) s fun u => u = s) ∧ Gives .guardHeartbeat s fun u => u = s)

/-- A report opens a record in the lowest free slot with its key, effect and times, or is an echo of the open record of its key; with no slot free it is dropped and counted, and the overflow record stands. While NET serves, a token from another device is kept and counted, and dropped 60 s after its FIRST_RRP; with NET off or isolated none is taken. At 4 RL the lowest pair's node is the reporter. A class with a clear condition makes its record clearing once the condition holds, and it closes into the history 60 s later. An EMCY held for the inhibit time is sent at its end on CAN0 where that is enabled. -/
def Obligations.FaultsAreRecordedDecidedAndClosed : Prop :=
  (∀ (s : State) (t : Rrp) (cls inst eff : Nat), let key := causeKey cls inst;
    (∀ i r, findRecord s key = some (i, r) → Gives (.faultReport t cls inst eff) s fun u => findRecord u key = some (i, { r with
      effect := Nat.max r.effect eff, st := .active, latest := t, echoes := Nat.min (2 ^ 32 - 1) (r.echoes + 1) }) ∧ u.dict = s.dict) ∧
    (∀ i, findRecord s key = none → freeSlot s = some i → entryNum s 0x5807 0 + 1 < 2 ^ 32 → Gives (.faultReport t cls inst eff) s fun u =>
      entryNum u 0x5807 0 = entryNum s 0x5807 0 + 1 ∧ ∃ r, findRecord u key = some (i, r) ∧ r.key = key ∧ r.effect = eff ∧ r.st = .active ∧
        r.first = t ∧ r.latest = t ∧ r.echoes = 0 ∧ r.code = classCode cls ∧ r.decided = !bit key 23) ∧
    (findRecord s key = none → freeSlot s = none → entryNum s 0x5806 0 + 1 < 2 ^ 32 → Gives (.faultReport t cls inst eff) s fun u =>
      entryNum u 0x5806 0 = entryNum s 0x5806 0 + 1 ∧ (∃ i r, findRecord u overflowKey = some (i, r) ∧ r.st = .active) ∧
        ∀ i, i < 63 → ∀ r, vecAt s.health.slots i none = some r → r.key ≠ overflowKey → vecAt u.health.slots i none = some r)) ∧
  (∀ (s : State) (t : Rrp) (cell : Bytes), let p := (cell.drop 4).take 24; let tok : Token := ⟨u32 p 0, rrpOf (u64 p 4), u8 p 12, u8 p 13⟩;
    (netOn s = true → cellOk cell = true → s.hive.excluded = false → tok.node ≠ nodeIdOf s → Gives (.hiveTokenReceive t cell) s fun u =>
      u.health.tokens = tok :: s.health.tokens.filter (fun q => !(q.key = tok.key && q.node = tok.node)) ∧
      ∀ i r, findRecord s tok.key = some (i, r) → findRecord u tok.key =
        some (i, { r with devices := 1 + ((tokenNodes u tok.key).filter fun n => n ≠ nodeIdOf s).length })) ∧
    (netOn s = false ∨ (cellOk cell = true ∧ (s.hive.excluded = true ∨ tok.node = nodeIdOf s)) → Quiescent s → Gives (.hiveTokenReceive t cell) s fun u =>
      u = { s with now := t }) ∧
    (netOn s = true → cellOk cell = false → s.hive.cellErrors + 1 < 2 ^ 32 → Gives (.hiveTokenReceive t cell) s fun u =>
      u.hive.cellErrors = s.hive.cellErrors + 1 ∧ u.health = s.health)) ∧
  (∀ (s : State) (t : Rrp) (key node : Nat), Gives (.hiveTokenExpire t key node) s fun u =>
    u.health.tokens = s.health.tokens.filter fun q => !(q.key = key && q.node = node && waited (atTime s t) q.first 60000)) ∧
  (∀ (s : State) (t : Rrp) (key : Nat), ∀ i r, findRecord s key = some (i, r) →
    (r.decided = false → rlTicks 4 ≤ elapsed s.tb.rate r.first t → Gives (.reporterDecision t key) s fun u =>
      findRecord u key = some (i, { r with reporter := reporterOf s r, decided := true }) ∧
      (reporterOf s r ≠ nodeIdOf s → entryNum s 0x5808 0 + 1 < 2 ^ 32 → entryNum u 0x5808 0 = entryNum s 0x5808 0 + 1 ∧ u.emitted = s.emitted)) ∧
    (r.decided = true ∨ elapsed s.tb.rate r.first t < rlTicks 4 → Quiescent s → Gives (.reporterDecision t key) s fun u => u = { s with now := t }) ∧
    (causeKey (key / 2 ^ 24) (key % 2 ^ 16) = key →
      (classClears (key / 2 ^ 24) = true → clearDue (atTime s t) r = true → r.st = .active → Gives (.faultClear t key) s fun u =>
        findRecord u key = some (i, { r with st := .clearing, clearedAt := t }) ∧ u.health.history = s.health.history) ∧
      (classClears (key / 2 ^ 24) = false ∨ clearDue (atTime s t) r = false → Quiescent s → Gives (.faultClear t key) s fun u =>
        u = { s with now := t })) ∧
    (r.st = .clearing → waited (atTime s t) r.clearedAt 60000 = true → Gives (.faultRecordClose t key) s fun u => vecAt u.health.slots i none = none ∧
      u.health.history = ({ r with st := .closed } :: s.health.history).take 256) ∧
    (r.st ≠ .clearing ∨ waited (atTime s t) r.clearedAt 60000 = false → Quiescent s → Gives (.faultRecordClose t key) s fun u => u = { s with now := t })) ∧
  ∀ (s : State) (t : Rrp) (n : Nat),
    ((∀ e ∈ s.net.emcyHeld, e.node ≠ n) → Gives (.emcyInhibitExpire t n) s fun u => n ∉ u.net.inhibit ∧ u.emitted = s.emitted) ∧
    ∀ e, s.net.emcyHeld.find? (fun e => e.node = n) = some e → s.net.restarting = false → domainOn s 2 = true →
      (n = nodeIdOf s → entryNum s 0x1D00 1 = 1 → Gives (.emcyInhibitExpire t n) s fun u => u.net.emcyHeld = s.net.emcyHeld.erase e ∧
        .can 0 (emcyCob s) (emcyBytes s e) ∈ u.emitted) ∧
      (n ≠ nodeIdOf s → entryNum s 0x1D00 1 = 1 → Gives (.emcyInhibitExpire t n) s fun u => u.net.emcyHeld = s.net.emcyHeld.erase e ∧
        .can 0 (0x80 + n) (emcyBytes s e) ∈ u.emitted)

/-- At a day boundary the day's end closes the inspection record, signed while the island runs, and opens the next; at any other time it changes nothing. A checkpoint keeps the open record. An evaluation shows the monitor's worst value and its grade, and the margin class is the worst grade that has held. A channel below the minimum eye loses its group. The prediction takes the day's values and shows 0xFFFF with too few days. -/
def Obligations.InspectionAndAgeingAreKept : Prop :=
  (∀ (s : State) (t : Rrp) (g : Nat), let d := s.health.insp;
    (dayOver (atTime s t) g = false → Quiescent s → Gives (.inspectionDayEnd t g) s fun u => u = { s with now := t }) ∧
    (dayOver (atTime s t) g = true → Gives (.inspectionDayEnd t g) s fun u =>
    u.health.insp = { resetInspection with
      day := (d.day + 1) % 2 ^ 16, start := t, startTime := (if s.tb.ptpEver then g else 0), classStart := entryNum s 0x5A00 0 } ∧
    u.health.checkpoint = none ∧ u.health.boundaryAt = t ∧ u.health.records.length = Nat.min 400 (s.health.records.length + 1) ∧
    entryNum u 0x5A11 0 = u.health.records.length ∧
    (s.sec.island = 1 → u.health.records.head? = some (signRecord (inspectionBody (atTime s t) d 0))) ∧
    (s.sec.island = 2 → u.health.records.head? = some (inspectionBody (atTime s t) d 0 ++ zeroBytes 96)) ∧
    (s.sec.island ≠ 1 → s.sec.island ≠ 2 → u.health.records.head? = some (inspectionBody (atTime s t) d 1 ++ zeroBytes 96)))) ∧
  (∀ (s : State) (t : Rrp), Quiescent s → Gives (.inspectionCheckpoint t) s fun u =>
    u = { s with now := t, health := { s.health with checkpoint := some s.health.insp } }) ∧
  (let Evaluated := fun (s u : State) (m : Nat) (v : Int) =>
      entryNum u 0x5A02 (m + 1) = ofSint 16 v ∧ entryNum u 0x5A03 (m + 1) = gradeOf m v ∧
      vecAt u.health.ledger.grades m [] = (gradeOf m v :: vecAt s.health.ledger.grades m []).take 3 ∧
      marginClass u = Nat.max (marginClass s) (heldGrade m ((gradeOf m v :: vecAt s.health.ledger.grades m []).take 3))
  (∀ (s : State) (t : Rrp) (slacks : Vector Int 64), Gives (.pathDelayEval t slacks) s fun u =>
    ∃ v ∈ slacks.toList, (∀ x ∈ slacks.toList, v ≤ x) ∧ Evaluated s u 0 v ∧
      ∀ i, i < 64 → entryNum u 0x5A04 (i + 1) = ofSint 16 (vecAt slacks i 0)) ∧
  (∀ (s : State) (t : Rrp) (d : Int),
    (s.tb.st = .locked → Gives (.oscDriftEval t d) s fun u => Evaluated s u 3 (if d < 0 then -d else d)) ∧
    (s.tb.st ≠ .locked → Quiescent s → Gives (.oscDriftEval t d) s fun u => u = { s with now := t })) ∧
  ∀ (s : State) (t : Rrp) (c : Fin 16) (w h : Nat), dramServing s = true →
    (150 ≤ w → 35 ≤ h →
      (Gives (.eyeMarginStep t c w h false) s fun u => entryNum u 0x5A05 (c.val + 1) = w ∧ u.mem = s.mem ∧ u.health = s.health) ∧
      Gives (.eyeMarginStep t c w h true) s fun u => ∃ v : Nat, Evaluated s u 2 (v : Int) ∧
        (∃ i, i < 16 ∧ entryNum u 0x5A05 (i + 1) = v) ∧ ∀ i, i < 16 → v ≤ entryNum u 0x5A05 (i + 1)) ∧
    (w < 150 ∨ h < 35 → Gives (.eyeMarginStep t c w h false) s fun u => entryNum u 0x5A05 (c.val + 1) = w ∧ groupLost u (c.val / 4) = true)) ∧
  ∀ (s : State) (t : Rrp), Gives (.predictionDaily t) s fun u => u.health.ledger.today = Vector.replicate 4 none ∧
    (∀ m, m < 4 → vecAt u.health.ledger.daily m [] = match vecAt s.health.ledger.today m none with
      | some v => (v :: vecAt s.health.ledger.daily m []).take 90
      | none => vecAt s.health.ledger.daily m []) ∧
    entryNum u 0x5A01 0 ≤ 0xFFFF ∧
    ((∀ m, m < 4 → (vecAt s.health.ledger.daily m []).length < 29) → entryNum u 0x5A01 0 = 0xFFFF)

/-- A complete load is checked while the island does not restart: it makes the bank valid with its components, or refused with the code of the first check that fails, and ends its write. A request for a frame is accepted with a valid bank, and refused too late or without one. At its frame the bank goes on trial and the device resets into Bring-up. A confirmation makes the trial bank the confirmed one. Without one, or without service in time, the device falls back with its cause. -/
def Obligations.ImagesAreLoadedActivatedAndConfirmed : Prop :=
  (∀ (s : State) (t : Rrp), let b := inactiveBank s; let c := imageCheck (atTime s t) (bankAt s b).image;
    (bankAt s b).st = 1 → writePending s updateKey = true → s.sec.island ≠ 2 →
    (c = 0 → Gives (.updateLoadComplete t) s fun u => bankAt u b = { bankAt s b with st := 2, comps := fullComps (atTime s t) (bankAt s b).image } ∧
      u.update.st = 2 ∧ u.update.status = 0 ∧ writePending u updateKey = false) ∧
    (c ≠ 0 → Gives (.updateLoadComplete t) s fun u => bankAt u b = { bankAt s b with st := 3, comps := [] } ∧
      u.update.st = 3 ∧ u.update.status = c ∧ writePending u updateKey = false)) ∧
  (∀ (s : State) (t : Rrp) (o : Origin) (f : Nat), s.update.activation = none → f < 2 ^ 32 →
    let valid := (bankAt s (inactiveBank s)).st = 2
    let mode := s.mode = .run ∨ s.mode = .degraded ∨ s.mode = .hold ∨ s.mode = .quiet
    let inRange := frameLater f t.frame = true ∧ frameDiff f t.frame ≤ 2 ^ 24
    let early := rrpBefore ⟨frameBefore f, 0, 0⟩ t = false
    let Set := fun (u : State) => u.update = { s.update with activation := some (f, false), st := 4 };
    (RowOpen (atTime s t) o 0x5C05 0 f →
      (mode → inRange → valid → early → Gives (.updateActivationFrame t o f) s fun u => AnswersStatus u o 0x5C05 0 stOk ∧ Set u) ∧
      (mode → inRange → valid → ¬ early → Gives (.updateActivationFrame t o f) s fun u => AnswersStatus u o 0x5C05 0 stState ∧
        u.update = { s.update with result := 3 }) ∧
      (mode → inRange → ¬ valid → Gives (.updateActivationFrame t o f) s fun u => AnswersStatus u o 0x5C05 0 stState ∧
        u.update = { s.update with result := 5 }) ∧
      (mode → ¬ inRange → Gives (.updateActivationFrame t o f) s fun u => AnswersStatus u o 0x5C05 0 stRange ∧ u.update = s.update) ∧
      (¬ mode → Gives (.updateActivationFrame t o f) s fun u => AnswersStatus u o 0x5C05 0 stMode ∧ u.update = s.update)) ∧
    ∀ ns, RowOpen (atTime s t) o 0x5C06 0 ns →
      (vecAt s.tb.status 1 .absent ≠ .qualified → Gives (.updateActivationTime t o ns) s fun u => AnswersStatus u o 0x5C06 0 stMode ∧
        u.update = s.update) ∧
      (vecAt s.tb.status 1 .absent = .qualified → s.tb.active = 2 → (frameAt s ns).1 = f → mode → inRange → valid → early →
        Gives (.updateActivationTime t o ns) s fun u => AnswersStatus u o 0x5C06 0 stOk ∧ Set u)) ∧
  (∀ (s : State) (f : Nat), s.update.activation = some (f, false) → let t : Rrp := ⟨f, 0, 0⟩;
    ((∀ tr, s.power.transition = some tr → tr.committed = true → tr.target ≠ .watch) → Gives (.updateActivate t) s fun u =>
      u.mode = .bringup ∧ u.power.step = 0 ∧ u.update.activation = none ∧ u.update.result = 1 ∧ (bootState u).trial = true ∧
      (bootState u).trialBoots = 0 ∧ confirmedBank u = confirmedBank s ∧ (bankAt u (inactiveBank s)).st = 5) ∧
    (∀ tr, s.power.transition = some tr → tr.committed = true → tr.target = .watch → Gives (.updateActivate t) s fun u =>
      u.mode = s.mode ∧ u.update = { s.update with activation := none, result := 4, st := 2 }) ∧
    (∀ x : Rrp, x ≠ t → Quiescent s → Gives (.updateActivate x) s fun u => u = { s with now := x })) ∧
  (∀ (s : State) (t : Rrp) (o : Origin), RowOpen (atTime s t) o 0x5C08 0 1 →
    (onTrial s = true → s.mode = .run ∨ s.mode = .degraded → Gives (.updateConfirm t o 1) s fun u => AnswersStatus u o 0x5C08 0 stOk ∧
      confirmedBank u = inactiveBank s ∧ onTrial u = false ∧ (bankAt u (inactiveBank s)).st = 4 ∧ (bankAt u (confirmedBank s)).st = 2 ∧
      u.update.oldStore = none ∧ u.update.floor = newFloor s (bankAt s (inactiveBank s)).image ∧ u.store = s.store) ∧
    (onTrial s = false ∨ (s.mode ≠ .run ∧ s.mode ≠ .degraded) → Gives (.updateConfirm t o 1) s fun u => AnswersStatus u o 0x5C08 0 stMode ∧
      u.update = s.update)) ∧
  ∀ (s : State) (t : Rrp), onTrial s = true →
    let Back := fun (cause : Nat) (u : State) => u.mode = .bringup ∧ u.power.step = 0 ∧ onTrial u = false ∧ confirmedBank u = confirmedBank s ∧
      u.update.fallbackCause = cause ∧ u.update.fallbackReport = true ∧ u.update.oldStore = none ∧ (bankAt u (inactiveBank s)).st = 2;
    (entryNum s 0x5C09 0 ≤ s.update.bootFrames → Gives (.confirmationTimeout t) s (Back 1)) ∧ (s.mode = .bringup → Gives .noServiceTimeout s (Back 2))

/-- A die link lost outside Off and Watch, whether FIELD is on or off, makes the field side safe and its inputs unknown; restored, it makes them known again while FIELD is in service. A restart of the management core retires every ticket, kept reply, open DOMAIN write and forwarded access, and answers a busy mailbox UNAVAILABLE with the header of the request as it was submitted; it returns pre-operational. An isolated region stays so, with its domain shown isolated. A forwarded access without an answer is NODE_UNREACHABLE, and an idle source is dropped. -/
def Obligations.PartsAreLostAndReturn : Prop :=
  (∀ (s : State) (t : Rrp) (n : Nat), s.dieLink = true → s.mode ≠ .off → s.mode ≠ .watch →
    (3 < n → findRecord s (causeKey 0x42 0) ≠ none ∨ freeSlot s ≠ none → Gives (.dieLinkTransfer t n) s fun u =>
      u.dieLink = true ∧ ∃ i r, findRecord u (causeKey 0x42 0) = some (i, r) ∧ r.st = .active ∧ r.latest = t) ∧
    (n ≤ 3 → Quiescent s → Gives (.dieLinkTransfer t n) s fun u => u = { s with now := t }) ∧
    Gives (.dieLinkLoss t) s fun u => u.dieLink = false ∧ u.fioUnknown = true ∧ u.power.fioSafe = true ∧
      ∀ c, c < 8 → (touchAt s c).st = .scanning → (touchAt u c).st = .lost ∧ (touchAt u c).contacts = []) ∧
  (∀ (s : State) (t : Rrp), s.dieLink = false → Gives (.dieLinkRestored t) s fun u => u.dieLink = true ∧
    u.fioUnknown = (!domainOn s 1 || isolatedRegion s .field) ∧
    u.power.fioSafe = !domainOn s 2) ∧
  (∀ (s : State) (t : Rrp), domainOn s 2 = true → s.net.restarting = false → Gives (.mgmtCoreRestart t) s fun u => u.net.restarting = true ∧
    u.net.tickets = [] ∧ u.net.domains = [] ∧ u.net.forwards = [] ∧ (∀ q ∈ u.net.sources, q.kept = [] ∧ q.openSeqs = []) ∧
    (∀ p, p < 4 → let m := vecAt s.net.mailboxes p resetMailbox; m.busy = true →
      (vecAt u.net.mailboxes p resetMailbox).ready = some (unavailableReply m.sent (nodeIdOf s))) ∧
    u.mode = s.mode ∧ u.lasts.active = s.lasts.active ∧ u.outs = s.outs) ∧
  (∀ (s : State) (t : Rrp), s.net.restarting = true → Gives (.mgmtRestartComplete t) s fun u => u.net.restarting = false ∧
    u.net.nmt = .preOperational ∧ u.lasts = s.lasts ∧ u.outs = s.outs) ∧
  (∀ (s : State) (t : Rrp) (g : Region),
    (isolatedRegion s g = false → Gives (.regionIsolate t g) s fun u => isolatedRegion u g = true ∧
      (∀ h, isolatedRegion s h = true → isolatedRegion u h = true) ∧
      ∀ d, regionDomain g = some d → domainOn s d = true → vecAt u.power.domains d 0 = 4) ∧
    (isolatedRegion s g = true → Quiescent s → Gives (.regionIsolate t g) s fun u => u = { s with now := t })) ∧
  ∀ (s : State) (t : Rrp),
    (∀ f, s.net.forwards.find? (fun q => q.no = f.no) = some f → Gives (.forwardTimeout t f.no) s fun u =>
      u.net.forwards = s.net.forwards.erase f ∧
      (f.broadcast = false → f.origin.path = .svc → Answered f.origin f.msg f.msg.node stUnreachable [] u)) ∧
    ∀ a p, Quiescent s → Gives (.sourceIdleDrop t a p) s fun u =>
      u = { s with now := t, net := { s.net with sources := s.net.sources.filter fun q => !(q.addr = a && q.port = p) } }

/-- Frame a is later than frame b exactly where (a − b) mod 2^32 lies between 1 and 2^31 − 1. A frame that is not later than the current one is in the past: no frame is later than itself, and of two frames at most one is later than the other. -/
def Obligations.LaterFramesFollowSerialArithmetic : Prop :=
  ∀ a b : Nat, a < 2 ^ 32 → b < 2 ^ 32 →
    (frameLater a b = true ↔ ∃ d, 1 ≤ d ∧ d ≤ 2 ^ 31 - 1 ∧ a = (b + d) % 2 ^ 32) ∧
    (frameLater a b = true ↔ 1 ≤ ((a : Int) - b) % 2 ^ 32 ∧ ((a : Int) - b) % 2 ^ 32 ≤ 2 ^ 31 - 1) ∧
    frameLater a a = false ∧ ¬ (frameLater a b = true ∧ frameLater b a = true)

/-- A well-formed write, segment write or end of a segmented write that arrives in a datagram on a port that is served while the dictionary runs, and whose MAC does not verify or for which no installation key is present, is answered AUTH_FAIL. Authentication Failures rises by one, and nothing else of the device changes. -/
def Obligations.WritesWithoutAGoodMacAreRefused : Prop :=
  ∀ (s : State) (t : Rrp) (o : Origin) (m : Msg) (slow : Bool), o.path = .eth → m.short = false → ethServed s o.eth = true → dictOn s = true →
    datagramKey s = none ∨ (∃ k, datagramKey s = some k ∧ m.mac ≠ (hmacSha256 k (msgBytes m)).take 16) →
    entryNum s 0x1D0A 0 + 1 < 2 ^ 32 → Quiescent s →
    let Refused := fun (u : State) => entryNum u 0x1D0A 0 = entryNum s 0x1D0A 0 + 1 ∧
      (∃ mac, u.emitted = .reply o (msgBytes (replyMsg m (nodeIdOf s) 4 []) ++ mac) :: s.emitted) ∧
      { u with emitted := s.emitted, dict := s.dict } = { s with now := t } ∧
      ∀ ix sub, sub < 256 → (ix, sub) ≠ (0x1D0A, 0) → entry u ix sub = entry s ix sub
    formatOk m = true →
      (m.op = 2 → Gives (.write t o m slow) s Refused) ∧ (m.op = 5 → Gives (.writeSeg t o m) s Refused) ∧
      (m.op = 6 → Gives (.writeSegEnd t o m slow) s Refused)

/-- A pin trigger, a dictionary trigger, a merge start, an effect's or a brake's end, a fault, a restart, and every measurement command change nothing of the device but the haptic channels, dictionary values, health records, the messages that wait or are sent, free values and the present time. Of an output, only a dictionary write may change one thing: how long the cells bound to the written entry have gone unwritten (R195). No byte of memory, no last, no slice and no other unit changes. -/
def Obligations.HapticCommandsKeepTheRest : Prop :=
  ∀ (s u : State) (t : Rrp) (o : Origin) (h : Fin 8) (rising : Bool) (x v : Nat), Quiescent s →
    (∀ i ∈ [Instr.hapticNTrigger t o h v x, .hapticRestart t o h v, .measureRequest t o h v], exec i s = .next u →
      { u with outs := s.outs, haptics := s.haptics, dict := s.dict, health := s.health, net := s.net, emitted := s.emitted,
               free := s.free, now := s.now } = s ∧
        ∀ n, n < 8 → { outAt u n with cells := (outAt s n).cells } = outAt s n) ∧
    ∀ i ∈ [Instr.hapticPinTrigger t h rising x, .mergeStart t h, .effectEnd t h, .brakeEnd t h, .brakeTimeout t h,
        .hapticFault t h v, .hapticMeasureDue t h, .hapticMeasureComplete t h v, .hapticMeasureRetry t h],
      exec i s = .next u →
        { u with haptics := s.haptics, dict := s.dict, health := s.health, net := s.net, emitted := s.emitted, free := s.free, now := s.now } = s

/-- A start scan and its end, a slot's end, a step down, a suspect's or contact's expiry, a lost channel, a self-test or reference and its end, and every frame and event of a VT40 link change nothing of the device but the touch channels, dictionary values, the slice registers, memory and vectors that touch records reach, health records, the messages that wait or are sent, free values and the present time. Of the secure side only the times of recorded blocked accesses may change; of the lasts, only the bytes and violations that records count on their item; of the DRAM controller, only the words that records write anew; of an output, only how long the cells bound to a written entry have gone unwritten. Those that write no record leave memory. -/
def Obligations.TouchCommandsKeepTheRest : Prop :=
  ∀ (s u : State) (t : Rrp) (o : Origin) (n : Fin 8) (nodes tx rx : List Nat) (counts : List (Nat × List Nat)) (w : Bytes) (x v : Nat) (c : Fin 16),
    Quiescent s →
    (∀ i ∈ [Instr.touchStartScan t n, .startScanComplete t n nodes tx rx, .touchSlotEnd t n counts, .touchStepDown t n, .contactStale t n c,
        .touchSelfTestComplete t n, .vt40IdentifyRetry t n],
      exec i s = .next u →
        { u with touch := s.touch, dict := s.dict, health := s.health, net := s.net, emitted := s.emitted, free := s.free, now := s.now } = s) ∧
    (∀ i ∈ [Instr.touchSelfTestRequest t o n v, .captureReference t o n v], exec i s = .next u →
      { u with outs := s.outs, touch := s.touch, dict := s.dict, health := s.health, net := s.net, emitted := s.emitted, free := s.free,
               now := s.now } = s ∧
        ∀ k, k < 8 → { outAt u k with cells := (outAt s k).cells } = outAt s k) ∧
    (exec (.captureReferenceComplete t n) s = .next u →
      { u with touch := s.touch, dict := s.dict, store := s.store, now := s.now } = s) ∧
    (∀ i ∈ [Instr.suspectHoldExpire t n v, .touchChannelLost t n, .vt40Status t n w, .vt40LinkLost t n, .vt40Counts t n w,
        .vt40Identity t n w x],
      exec i s = .next u →
        { u with touch := s.touch, dict := s.dict, health := s.health, net := s.net, emitted := s.emitted, free := s.free, now := s.now,
                 sregs := s.sregs, ports := s.ports, dram := s.dram, sec := s.sec, lasts := s.lasts, mem := s.mem } = s ∧
          { u.sec with divFaultAt := s.sec.divFaultAt } = s.sec ∧ { u.lasts with monitors := s.lasts.monitors } = s.lasts ∧
          { u.mem with poisoned := s.mem.poisoned } = s.mem)
end

