-- ==== Sys2Proof/Laws/SMap.lean ====
section
/-! SUPPORT. Sparse maps: a read after a write, and that every operation keeps the canonical form. -/

namespace Sys2Proof.Machine

variable {α : Type}

/-- A key below every listed one reads as its default. -/
theorem SMap.get_of_above (d : Nat → α) (m : SMap α) (k : Nat) (h : SMap.above k m = true) : SMap.get d m k = d k := by
  cases m with
  | nil => rfl
  | cons e m =>
    have : k < e.1 := by simp [SMap.above] at h; exact h.1
    obtain ⟨k', v⟩ := e
    simp only [SMap.get, if_pos this]

/-- A bound on the keys may be lowered. -/
theorem SMap.above_mono {m : SMap α} {j k : Nat} (h : SMap.above k m = true) (hj : j ≤ k) : SMap.above j m = true := by
  simp only [SMap.above, List.all_eq_true, decide_eq_true_eq] at *
  intro e he
  exact lt_of_le_of_lt hj (h e he)

/-- What a map holds after a key is put: the new pair, and pairs that it held. -/
theorem SMap.mem_put {m : SMap α} {k : Nat} {v : α} {e : Nat × α} (h : e ∈ SMap.put m k v) : e = (k, v) ∨ e ∈ m := by
  induction m with
  | nil => exact Or.inl (by simpa [SMap.put] using h)
  | cons x m ih =>
    obtain ⟨k', w⟩ := x
    simp only [SMap.put] at h
    split at h
    · simpa using h
    · split at h
      · rcases List.mem_cons.1 h with h | h
        · exact Or.inl h
        · exact Or.inr (List.mem_cons_of_mem _ h)
      · rcases List.mem_cons.1 h with h | h
        · exact Or.inr (h ▸ List.mem_cons_self)
        · exact (ih h).imp id (List.mem_cons_of_mem _)

/-- What a map holds without a key, it held. -/
theorem SMap.mem_drop {m : SMap α} {k : Nat} {e : Nat × α} (h : e ∈ SMap.drop m k) : e ∈ m := by
  induction m with
  | nil => exact h
  | cons x m ih =>
    obtain ⟨k', w⟩ := x
    simp only [SMap.drop] at h
    split at h
    · exact h
    · split at h
      · exact List.mem_cons_of_mem _ h
      · rcases List.mem_cons.1 h with h | h
        · exact h ▸ List.mem_cons_self
        · exact List.mem_cons_of_mem _ (ih h)

/-- A bound on the keys of a map, as a statement about its pairs. -/
theorem SMap.above_iff {m : SMap α} {k : Nat} : SMap.above k m = true ↔ ∀ e ∈ m, k < e.1 := by
  simp only [SMap.above, List.all_eq_true, decide_eq_true_eq]

/-- A map put at a key keeps every bound below that key. -/
theorem SMap.above_put {m : SMap α} {j k : Nat} {v : α} (h : SMap.above j m = true) (hj : j < k) :
    SMap.above j (SMap.put m k v) = true := by
  refine SMap.above_iff.2 fun e he => ?_
  rcases SMap.mem_put he with rfl | he
  · exact hj
  · exact SMap.above_iff.1 h e he

/-- A map without a key keeps every bound. -/
theorem SMap.above_drop {m : SMap α} {j k : Nat} (h : SMap.above j m = true) : SMap.above j (SMap.drop m k) = true :=
  SMap.above_iff.2 fun e he => SMap.above_iff.1 h e (SMap.mem_drop he)

variable [DecidableEq α]

theorem SMap.wf_put {d : Nat → α} {m : SMap α} {k : Nat} {v : α} (h : SMap.wf d m = true) (hv : v ≠ d k) :
    SMap.wf d (SMap.put m k v) = true := by
  induction m with
  | nil => simp [SMap.put, SMap.wf, SMap.above, hv]
  | cons e m ih =>
    obtain ⟨k', w⟩ := e
    simp only [SMap.wf, Bool.and_eq_true, Bool.not_eq_true', decide_eq_false_iff_not] at h
    obtain ⟨⟨hw, ha⟩, hm⟩ := h
    simp only [SMap.put]
    split
    · rename_i hk
      simp only [SMap.wf, Bool.and_eq_true, Bool.not_eq_true', decide_eq_false_iff_not]
      refine ⟨⟨hv, ?_⟩, ⟨hw, ha⟩, hm⟩
      simp only [SMap.above, List.all_cons, Bool.and_eq_true, decide_eq_true_eq]
      exact ⟨hk, SMap.above_mono ha (le_of_lt hk)⟩
    · rename_i hk
      split
      · rename_i he
        subst he
        simp only [SMap.wf, Bool.and_eq_true, Bool.not_eq_true', decide_eq_false_iff_not]
        exact ⟨⟨hv, ha⟩, hm⟩
      · rename_i he
        simp only [SMap.wf, Bool.and_eq_true, Bool.not_eq_true', decide_eq_false_iff_not]
        exact ⟨⟨hw, SMap.above_put ha (by omega)⟩, ih hm⟩

theorem SMap.wf_drop {d : Nat → α} {m : SMap α} {k : Nat} (h : SMap.wf d m = true) : SMap.wf d (SMap.drop m k) = true := by
  induction m with
  | nil => exact h
  | cons e m ih =>
    obtain ⟨k', w⟩ := e
    have h' := h
    simp only [SMap.wf, Bool.and_eq_true, Bool.not_eq_true', decide_eq_false_iff_not] at h
    obtain ⟨⟨hw, ha⟩, hm⟩ := h
    simp only [SMap.drop]
    split
    · exact h'
    · split
      · exact hm
      · simp only [SMap.wf, Bool.and_eq_true, Bool.not_eq_true', decide_eq_false_iff_not]
        exact ⟨⟨hw, SMap.above_drop ha⟩, ih hm⟩

/-- A write keeps the canonical form. -/
theorem SMap.wf_set {d : Nat → α} {m : SMap α} {k : Nat} {v : α} (h : SMap.wf d m = true) :
    SMap.wf d (SMap.set d m k v) = true := by
  unfold SMap.set
  split
  · exact SMap.wf_drop h
  · rename_i hv
    exact SMap.wf_put h hv

/-- Writes in order keep the canonical form. -/
theorem SMap.wf_setAll {d : Nat → α} (ws : List (Nat × α)) {m : SMap α} (h : SMap.wf d m = true) :
    SMap.wf d (SMap.setAll d m ws) = true := by
  induction ws generalizing m with
  | nil => exact h
  | cons w ws ih => exact ih (SMap.wf_set h)

omit [DecidableEq α] in
theorem SMap.get_put (d : Nat → α) (m : SMap α) (k j : Nat) (v : α) :
    SMap.get d (SMap.put m k v) j = if j = k then v else SMap.get d m j := by
  induction m with
  | nil =>
    simp only [SMap.put, SMap.get]
    split_ifs <;> first | rfl | omega
  | cons e m ih =>
    obtain ⟨k', w⟩ := e
    simp only [SMap.put]
    split_ifs <;> simp only [SMap.get] <;> split_ifs <;> first | rfl | omega | simp_all

theorem SMap.get_drop (d : Nat → α) {m : SMap α} (h : SMap.wf d m = true) (k j : Nat) :
    SMap.get d (SMap.drop m k) j = if j = k then d j else SMap.get d m j := by
  induction m with
  | nil => simp [SMap.drop, SMap.get]
  | cons e m ih =>
    obtain ⟨k', w⟩ := e
    simp only [SMap.wf, Bool.and_eq_true, Bool.not_eq_true', decide_eq_false_iff_not] at h
    obtain ⟨⟨_, ha⟩, hm⟩ := h
    have ih := ih hm
    simp only [SMap.drop]
    by_cases h1 : k < k'
    · by_cases h2 : j = k
      · subst h2; simp [h1, SMap.get]
      · simp [h1, h2]
    · by_cases h3 : k' = k
      · subst h3
        simp only [lt_self_iff_false, if_false, if_true, SMap.get]
        by_cases h4 : j = k'
        · subst h4; simp only [if_true]; exact SMap.get_of_above d m j ha
        · simp only [h4, if_false]
          by_cases h5 : j < k'
          · simp only [h5, if_true]; exact SMap.get_of_above d m j (SMap.above_mono ha (le_of_lt h5))
          · simp [h5, Ne.symm h4]
      · simp only [h1, h3, if_false, SMap.get, ih]
        split_ifs <;> first | rfl | omega

/-- A read after a write: the value written at its key, and every other key as before. -/
theorem SMap.get_set (d : Nat → α) {m : SMap α} (h : SMap.wf d m = true) (k j : Nat) (v : α) :
    SMap.get d (SMap.set d m k v) j = if j = k then v else SMap.get d m j := by
  unfold SMap.set
  split
  · rename_i hv
    rw [SMap.get_drop d h]
    split_ifs with hj
    · subst hj; exact hv.symm
    · rfl
  · exact SMap.get_put d m k j v

/-- The canonical form of DRAM is kept by every write of a byte, and by the writes of a command. -/
theorem Memory.wf_set {m : SMap Byte} (h : Memory.wf m = true) (a : Nat) (b : Byte) :
    Memory.wf (SMap.set dramDefault m a b) = true := SMap.wf_set h

theorem Memory.wf_applyStores {m : SMap Byte} (h : Memory.wf m = true) (ws : List (Nat × Byte)) :
    Memory.wf (applyStores m ws) = true := SMap.wf_setAll _ h

theorem Memory.wf_nil : Memory.wf [] = true := rfl

end Sys2Proof.Machine
end

