-- ==== Sys2Proof/Laws/State.lean ====
section
/-! SUPPORT. Each named update of the state, field by field: the field it writes, and the fields that it leaves. -/

namespace Sys2Proof.Machine

variable (s : State)

/-- The time of an event is the present time. -/
@[simp] theorem atTime_now (t : Rrp) : (atTime s t).now = t := rfl
@[simp] theorem emit_emitted (e : Emit) : (emit s e).emitted = e :: s.emitted := rfl
@[simp] theorem atTime_pending (t : Rrp) : (atTime s t).pending = s.pending := rfl
@[simp] theorem atTime_mode (t : Rrp) : (atTime s t).mode = s.mode := rfl
@[simp] theorem atTime_dieLink (t : Rrp) : (atTime s t).dieLink = s.dieLink := rfl
@[simp] theorem atTime_isolated (t : Rrp) : (atTime s t).isolated = s.isolated := rfl
@[simp] theorem atTime_dict (t : Rrp) : (atTime s t).dict = s.dict := rfl
@[simp] theorem atTime_store (t : Rrp) : (atTime s t).store = s.store := rfl
@[simp] theorem atTime_sregs (t : Rrp) : (atTime s t).sregs = s.sregs := rfl
@[simp] theorem atTime_dram (t : Rrp) : (atTime s t).dram = s.dram := rfl
@[simp] theorem atTime_stores (t : Rrp) : (atTime s t).stores = s.stores := rfl
@[simp] theorem atTime_dramLost (t : Rrp) : (atTime s t).dramLost = s.dramLost := rfl
@[simp] theorem atTime_emitted (t : Rrp) : (atTime s t).emitted = s.emitted := rfl
@[simp] theorem atTime_free (t : Rrp) : (atTime s t).free = s.free := rfl
@[simp] theorem atTime_net (t : Rrp) : (atTime s t).net = s.net := rfl
@[simp] theorem atTime_tb (t : Rrp) : (atTime s t).tb = s.tb := rfl
@[simp] theorem atTime_hive (t : Rrp) : (atTime s t).hive = s.hive := rfl
@[simp] theorem atTime_fio (t : Rrp) : (atTime s t).fio = s.fio := rfl
@[simp] theorem atTime_fioUnknown (t : Rrp) : (atTime s t).fioUnknown = s.fioUnknown := rfl
@[simp] theorem atTime_lasts (t : Rrp) : (atTime s t).lasts = s.lasts := rfl
@[simp] theorem atTime_outs (t : Rrp) : (atTime s t).outs = s.outs := rfl
@[simp] theorem atTime_spare (t : Rrp) : (atTime s t).spare = s.spare := rfl
@[simp] theorem atTime_sentinel (t : Rrp) : (atTime s t).sentinel = s.sentinel := rfl
@[simp] theorem atTime_gpu (t : Rrp) : (atTime s t).gpu = s.gpu := rfl
@[simp] theorem atTime_media (t : Rrp) : (atTime s t).media = s.media := rfl
@[simp] theorem atTime_touch (t : Rrp) : (atTime s t).touch = s.touch := rfl
@[simp] theorem atTime_haptics (t : Rrp) : (atTime s t).haptics = s.haptics := rfl
@[simp] theorem atTime_audio (t : Rrp) : (atTime s t).audio = s.audio := rfl
@[simp] theorem atTime_mem (t : Rrp) : (atTime s t).mem = s.mem := rfl
@[simp] theorem atTime_ports (t : Rrp) : (atTime s t).ports = s.ports := rfl
@[simp] theorem atTime_slices (t : Rrp) : (atTime s t).slices = s.slices := rfl
@[simp] theorem atTime_sec (t : Rrp) : (atTime s t).sec = s.sec := rfl
@[simp] theorem atTime_power (t : Rrp) : (atTime s t).power = s.power := rfl
@[simp] theorem atTime_update (t : Rrp) : (atTime s t).update = s.update := rfl
@[simp] theorem atTime_health (t : Rrp) : (atTime s t).health = s.health := rfl
@[simp] theorem emit_pending (e : Emit) : (emit s e).pending = s.pending := rfl
@[simp] theorem emit_now (e : Emit) : (emit s e).now = s.now := rfl
@[simp] theorem emit_mode (e : Emit) : (emit s e).mode = s.mode := rfl
@[simp] theorem emit_dieLink (e : Emit) : (emit s e).dieLink = s.dieLink := rfl
@[simp] theorem emit_isolated (e : Emit) : (emit s e).isolated = s.isolated := rfl
@[simp] theorem emit_dict (e : Emit) : (emit s e).dict = s.dict := rfl
@[simp] theorem emit_store (e : Emit) : (emit s e).store = s.store := rfl
@[simp] theorem emit_sregs (e : Emit) : (emit s e).sregs = s.sregs := rfl
@[simp] theorem emit_dram (e : Emit) : (emit s e).dram = s.dram := rfl
@[simp] theorem emit_stores (e : Emit) : (emit s e).stores = s.stores := rfl
@[simp] theorem emit_dramLost (e : Emit) : (emit s e).dramLost = s.dramLost := rfl
@[simp] theorem emit_free (e : Emit) : (emit s e).free = s.free := rfl
@[simp] theorem emit_net (e : Emit) : (emit s e).net = s.net := rfl
@[simp] theorem emit_tb (e : Emit) : (emit s e).tb = s.tb := rfl
@[simp] theorem emit_hive (e : Emit) : (emit s e).hive = s.hive := rfl
@[simp] theorem emit_fio (e : Emit) : (emit s e).fio = s.fio := rfl
@[simp] theorem emit_fioUnknown (e : Emit) : (emit s e).fioUnknown = s.fioUnknown := rfl
@[simp] theorem emit_lasts (e : Emit) : (emit s e).lasts = s.lasts := rfl
@[simp] theorem emit_outs (e : Emit) : (emit s e).outs = s.outs := rfl
@[simp] theorem emit_spare (e : Emit) : (emit s e).spare = s.spare := rfl
@[simp] theorem emit_sentinel (e : Emit) : (emit s e).sentinel = s.sentinel := rfl
@[simp] theorem emit_gpu (e : Emit) : (emit s e).gpu = s.gpu := rfl
@[simp] theorem emit_media (e : Emit) : (emit s e).media = s.media := rfl
@[simp] theorem emit_touch (e : Emit) : (emit s e).touch = s.touch := rfl
@[simp] theorem emit_haptics (e : Emit) : (emit s e).haptics = s.haptics := rfl
@[simp] theorem emit_audio (e : Emit) : (emit s e).audio = s.audio := rfl
@[simp] theorem emit_mem (e : Emit) : (emit s e).mem = s.mem := rfl
@[simp] theorem emit_ports (e : Emit) : (emit s e).ports = s.ports := rfl
@[simp] theorem emit_slices (e : Emit) : (emit s e).slices = s.slices := rfl
@[simp] theorem emit_sec (e : Emit) : (emit s e).sec = s.sec := rfl
@[simp] theorem emit_power (e : Emit) : (emit s e).power = s.power := rfl
@[simp] theorem emit_update (e : Emit) : (emit s e).update = s.update := rfl
@[simp] theorem emit_health (e : Emit) : (emit s e).health = s.health := rfl
@[simp] theorem setEntry_pending (ix sub : Nat) (v : DVal) : (setEntry s ix sub v).pending = s.pending := rfl
@[simp] theorem setEntry_now (ix sub : Nat) (v : DVal) : (setEntry s ix sub v).now = s.now := rfl
@[simp] theorem setEntry_mode (ix sub : Nat) (v : DVal) : (setEntry s ix sub v).mode = s.mode := rfl
@[simp] theorem setEntry_dieLink (ix sub : Nat) (v : DVal) : (setEntry s ix sub v).dieLink = s.dieLink := rfl
@[simp] theorem setEntry_isolated (ix sub : Nat) (v : DVal) : (setEntry s ix sub v).isolated = s.isolated := rfl
@[simp] theorem setEntry_store (ix sub : Nat) (v : DVal) : (setEntry s ix sub v).store = s.store := rfl
@[simp] theorem setEntry_sregs (ix sub : Nat) (v : DVal) : (setEntry s ix sub v).sregs = s.sregs := rfl
@[simp] theorem setEntry_dram (ix sub : Nat) (v : DVal) : (setEntry s ix sub v).dram = s.dram := rfl
@[simp] theorem setEntry_stores (ix sub : Nat) (v : DVal) : (setEntry s ix sub v).stores = s.stores := rfl
@[simp] theorem setEntry_dramLost (ix sub : Nat) (v : DVal) : (setEntry s ix sub v).dramLost = s.dramLost := rfl
@[simp] theorem setEntry_emitted (ix sub : Nat) (v : DVal) : (setEntry s ix sub v).emitted = s.emitted := rfl
@[simp] theorem setEntry_free (ix sub : Nat) (v : DVal) : (setEntry s ix sub v).free = s.free := rfl
@[simp] theorem setEntry_net (ix sub : Nat) (v : DVal) : (setEntry s ix sub v).net = s.net := rfl
@[simp] theorem setEntry_tb (ix sub : Nat) (v : DVal) : (setEntry s ix sub v).tb = s.tb := rfl
@[simp] theorem setEntry_hive (ix sub : Nat) (v : DVal) : (setEntry s ix sub v).hive = s.hive := rfl
@[simp] theorem setEntry_fio (ix sub : Nat) (v : DVal) : (setEntry s ix sub v).fio = s.fio := rfl
@[simp] theorem setEntry_fioUnknown (ix sub : Nat) (v : DVal) : (setEntry s ix sub v).fioUnknown = s.fioUnknown := rfl
@[simp] theorem setEntry_lasts (ix sub : Nat) (v : DVal) : (setEntry s ix sub v).lasts = s.lasts := rfl
@[simp] theorem setEntry_outs (ix sub : Nat) (v : DVal) : (setEntry s ix sub v).outs = s.outs := rfl
@[simp] theorem setEntry_spare (ix sub : Nat) (v : DVal) : (setEntry s ix sub v).spare = s.spare := rfl
@[simp] theorem setEntry_sentinel (ix sub : Nat) (v : DVal) : (setEntry s ix sub v).sentinel = s.sentinel := rfl
@[simp] theorem setEntry_gpu (ix sub : Nat) (v : DVal) : (setEntry s ix sub v).gpu = s.gpu := rfl
@[simp] theorem setEntry_media (ix sub : Nat) (v : DVal) : (setEntry s ix sub v).media = s.media := rfl
@[simp] theorem setEntry_touch (ix sub : Nat) (v : DVal) : (setEntry s ix sub v).touch = s.touch := rfl
@[simp] theorem setEntry_haptics (ix sub : Nat) (v : DVal) : (setEntry s ix sub v).haptics = s.haptics := rfl
@[simp] theorem setEntry_audio (ix sub : Nat) (v : DVal) : (setEntry s ix sub v).audio = s.audio := rfl
@[simp] theorem setEntry_mem (ix sub : Nat) (v : DVal) : (setEntry s ix sub v).mem = s.mem := rfl
@[simp] theorem setEntry_ports (ix sub : Nat) (v : DVal) : (setEntry s ix sub v).ports = s.ports := rfl
@[simp] theorem setEntry_slices (ix sub : Nat) (v : DVal) : (setEntry s ix sub v).slices = s.slices := rfl
@[simp] theorem setEntry_sec (ix sub : Nat) (v : DVal) : (setEntry s ix sub v).sec = s.sec := rfl
@[simp] theorem setEntry_power (ix sub : Nat) (v : DVal) : (setEntry s ix sub v).power = s.power := rfl
@[simp] theorem setEntry_update (ix sub : Nat) (v : DVal) : (setEntry s ix sub v).update = s.update := rfl
@[simp] theorem setEntry_health (ix sub : Nat) (v : DVal) : (setEntry s ix sub v).health = s.health := rfl
@[simp] theorem setNum_pending (ix sub v : Nat) : (setNum s ix sub v).pending = s.pending := rfl
@[simp] theorem setNum_now (ix sub v : Nat) : (setNum s ix sub v).now = s.now := rfl
@[simp] theorem setNum_mode (ix sub v : Nat) : (setNum s ix sub v).mode = s.mode := rfl
@[simp] theorem setNum_dieLink (ix sub v : Nat) : (setNum s ix sub v).dieLink = s.dieLink := rfl
@[simp] theorem setNum_isolated (ix sub v : Nat) : (setNum s ix sub v).isolated = s.isolated := rfl
@[simp] theorem setNum_store (ix sub v : Nat) : (setNum s ix sub v).store = s.store := rfl
@[simp] theorem setNum_sregs (ix sub v : Nat) : (setNum s ix sub v).sregs = s.sregs := rfl
@[simp] theorem setNum_dram (ix sub v : Nat) : (setNum s ix sub v).dram = s.dram := rfl
@[simp] theorem setNum_stores (ix sub v : Nat) : (setNum s ix sub v).stores = s.stores := rfl
@[simp] theorem setNum_dramLost (ix sub v : Nat) : (setNum s ix sub v).dramLost = s.dramLost := rfl
@[simp] theorem setNum_emitted (ix sub v : Nat) : (setNum s ix sub v).emitted = s.emitted := rfl
@[simp] theorem setNum_free (ix sub v : Nat) : (setNum s ix sub v).free = s.free := rfl
@[simp] theorem setNum_net (ix sub v : Nat) : (setNum s ix sub v).net = s.net := rfl
@[simp] theorem setNum_tb (ix sub v : Nat) : (setNum s ix sub v).tb = s.tb := rfl
@[simp] theorem setNum_hive (ix sub v : Nat) : (setNum s ix sub v).hive = s.hive := rfl
@[simp] theorem setNum_fio (ix sub v : Nat) : (setNum s ix sub v).fio = s.fio := rfl
@[simp] theorem setNum_fioUnknown (ix sub v : Nat) : (setNum s ix sub v).fioUnknown = s.fioUnknown := rfl
@[simp] theorem setNum_lasts (ix sub v : Nat) : (setNum s ix sub v).lasts = s.lasts := rfl
@[simp] theorem setNum_outs (ix sub v : Nat) : (setNum s ix sub v).outs = s.outs := rfl
@[simp] theorem setNum_spare (ix sub v : Nat) : (setNum s ix sub v).spare = s.spare := rfl
@[simp] theorem setNum_sentinel (ix sub v : Nat) : (setNum s ix sub v).sentinel = s.sentinel := rfl
@[simp] theorem setNum_gpu (ix sub v : Nat) : (setNum s ix sub v).gpu = s.gpu := rfl
@[simp] theorem setNum_media (ix sub v : Nat) : (setNum s ix sub v).media = s.media := rfl
@[simp] theorem setNum_touch (ix sub v : Nat) : (setNum s ix sub v).touch = s.touch := rfl
@[simp] theorem setNum_haptics (ix sub v : Nat) : (setNum s ix sub v).haptics = s.haptics := rfl
@[simp] theorem setNum_audio (ix sub v : Nat) : (setNum s ix sub v).audio = s.audio := rfl
@[simp] theorem setNum_mem (ix sub v : Nat) : (setNum s ix sub v).mem = s.mem := rfl
@[simp] theorem setNum_ports (ix sub v : Nat) : (setNum s ix sub v).ports = s.ports := rfl
@[simp] theorem setNum_slices (ix sub v : Nat) : (setNum s ix sub v).slices = s.slices := rfl
@[simp] theorem setNum_sec (ix sub v : Nat) : (setNum s ix sub v).sec = s.sec := rfl
@[simp] theorem setNum_power (ix sub v : Nat) : (setNum s ix sub v).power = s.power := rfl
@[simp] theorem setNum_update (ix sub v : Nat) : (setNum s ix sub v).update = s.update := rfl
@[simp] theorem setNum_health (ix sub v : Nat) : (setNum s ix sub v).health = s.health := rfl
@[simp] theorem setSreg_pending (k off v : Nat) : (setSreg s k off v).pending = s.pending := rfl
@[simp] theorem setSreg_now (k off v : Nat) : (setSreg s k off v).now = s.now := rfl
@[simp] theorem setSreg_mode (k off v : Nat) : (setSreg s k off v).mode = s.mode := rfl
@[simp] theorem setSreg_dieLink (k off v : Nat) : (setSreg s k off v).dieLink = s.dieLink := rfl
@[simp] theorem setSreg_isolated (k off v : Nat) : (setSreg s k off v).isolated = s.isolated := rfl
@[simp] theorem setSreg_dict (k off v : Nat) : (setSreg s k off v).dict = s.dict := rfl
@[simp] theorem setSreg_store (k off v : Nat) : (setSreg s k off v).store = s.store := rfl
@[simp] theorem setSreg_dram (k off v : Nat) : (setSreg s k off v).dram = s.dram := rfl
@[simp] theorem setSreg_stores (k off v : Nat) : (setSreg s k off v).stores = s.stores := rfl
@[simp] theorem setSreg_dramLost (k off v : Nat) : (setSreg s k off v).dramLost = s.dramLost := rfl
@[simp] theorem setSreg_emitted (k off v : Nat) : (setSreg s k off v).emitted = s.emitted := rfl
@[simp] theorem setSreg_free (k off v : Nat) : (setSreg s k off v).free = s.free := rfl
@[simp] theorem setSreg_net (k off v : Nat) : (setSreg s k off v).net = s.net := rfl
@[simp] theorem setSreg_tb (k off v : Nat) : (setSreg s k off v).tb = s.tb := rfl
@[simp] theorem setSreg_hive (k off v : Nat) : (setSreg s k off v).hive = s.hive := rfl
@[simp] theorem setSreg_fio (k off v : Nat) : (setSreg s k off v).fio = s.fio := rfl
@[simp] theorem setSreg_fioUnknown (k off v : Nat) : (setSreg s k off v).fioUnknown = s.fioUnknown := rfl
@[simp] theorem setSreg_lasts (k off v : Nat) : (setSreg s k off v).lasts = s.lasts := rfl
@[simp] theorem setSreg_outs (k off v : Nat) : (setSreg s k off v).outs = s.outs := rfl
@[simp] theorem setSreg_spare (k off v : Nat) : (setSreg s k off v).spare = s.spare := rfl
@[simp] theorem setSreg_sentinel (k off v : Nat) : (setSreg s k off v).sentinel = s.sentinel := rfl
@[simp] theorem setSreg_gpu (k off v : Nat) : (setSreg s k off v).gpu = s.gpu := rfl
@[simp] theorem setSreg_media (k off v : Nat) : (setSreg s k off v).media = s.media := rfl
@[simp] theorem setSreg_touch (k off v : Nat) : (setSreg s k off v).touch = s.touch := rfl
@[simp] theorem setSreg_haptics (k off v : Nat) : (setSreg s k off v).haptics = s.haptics := rfl
@[simp] theorem setSreg_audio (k off v : Nat) : (setSreg s k off v).audio = s.audio := rfl
@[simp] theorem setSreg_mem (k off v : Nat) : (setSreg s k off v).mem = s.mem := rfl
@[simp] theorem setSreg_ports (k off v : Nat) : (setSreg s k off v).ports = s.ports := rfl
@[simp] theorem setSreg_slices (k off v : Nat) : (setSreg s k off v).slices = s.slices := rfl
@[simp] theorem setSreg_sec (k off v : Nat) : (setSreg s k off v).sec = s.sec := rfl
@[simp] theorem setSreg_power (k off v : Nat) : (setSreg s k off v).power = s.power := rfl
@[simp] theorem setSreg_update (k off v : Nat) : (setSreg s k off v).update = s.update := rfl
@[simp] theorem setSreg_health (k off v : Nat) : (setSreg s k off v).health = s.health := rfl
@[simp] theorem memPost_pending (a : Nat) (b : Bytes) : (memPost s a b).pending = s.pending := rfl
@[simp] theorem memPost_now (a : Nat) (b : Bytes) : (memPost s a b).now = s.now := rfl
@[simp] theorem memPost_mode (a : Nat) (b : Bytes) : (memPost s a b).mode = s.mode := rfl
@[simp] theorem memPost_dieLink (a : Nat) (b : Bytes) : (memPost s a b).dieLink = s.dieLink := rfl
@[simp] theorem memPost_isolated (a : Nat) (b : Bytes) : (memPost s a b).isolated = s.isolated := rfl
@[simp] theorem memPost_dict (a : Nat) (b : Bytes) : (memPost s a b).dict = s.dict := rfl
@[simp] theorem memPost_store (a : Nat) (b : Bytes) : (memPost s a b).store = s.store := rfl
@[simp] theorem memPost_sregs (a : Nat) (b : Bytes) : (memPost s a b).sregs = s.sregs := rfl
@[simp] theorem memPost_dram (a : Nat) (b : Bytes) : (memPost s a b).dram = s.dram := rfl
@[simp] theorem memPost_dramLost (a : Nat) (b : Bytes) : (memPost s a b).dramLost = s.dramLost := rfl
@[simp] theorem memPost_emitted (a : Nat) (b : Bytes) : (memPost s a b).emitted = s.emitted := rfl
@[simp] theorem memPost_free (a : Nat) (b : Bytes) : (memPost s a b).free = s.free := rfl
@[simp] theorem memPost_net (a : Nat) (b : Bytes) : (memPost s a b).net = s.net := rfl
@[simp] theorem memPost_tb (a : Nat) (b : Bytes) : (memPost s a b).tb = s.tb := rfl
@[simp] theorem memPost_hive (a : Nat) (b : Bytes) : (memPost s a b).hive = s.hive := rfl
@[simp] theorem memPost_fio (a : Nat) (b : Bytes) : (memPost s a b).fio = s.fio := rfl
@[simp] theorem memPost_fioUnknown (a : Nat) (b : Bytes) : (memPost s a b).fioUnknown = s.fioUnknown := rfl
@[simp] theorem memPost_lasts (a : Nat) (b : Bytes) : (memPost s a b).lasts = s.lasts := rfl
@[simp] theorem memPost_outs (a : Nat) (b : Bytes) : (memPost s a b).outs = s.outs := rfl
@[simp] theorem memPost_spare (a : Nat) (b : Bytes) : (memPost s a b).spare = s.spare := rfl
@[simp] theorem memPost_sentinel (a : Nat) (b : Bytes) : (memPost s a b).sentinel = s.sentinel := rfl
@[simp] theorem memPost_gpu (a : Nat) (b : Bytes) : (memPost s a b).gpu = s.gpu := rfl
@[simp] theorem memPost_media (a : Nat) (b : Bytes) : (memPost s a b).media = s.media := rfl
@[simp] theorem memPost_touch (a : Nat) (b : Bytes) : (memPost s a b).touch = s.touch := rfl
@[simp] theorem memPost_haptics (a : Nat) (b : Bytes) : (memPost s a b).haptics = s.haptics := rfl
@[simp] theorem memPost_audio (a : Nat) (b : Bytes) : (memPost s a b).audio = s.audio := rfl
@[simp] theorem memPost_mem (a : Nat) (b : Bytes) : (memPost s a b).mem = s.mem := rfl
@[simp] theorem memPost_ports (a : Nat) (b : Bytes) : (memPost s a b).ports = s.ports := rfl
@[simp] theorem memPost_slices (a : Nat) (b : Bytes) : (memPost s a b).slices = s.slices := rfl
@[simp] theorem memPost_sec (a : Nat) (b : Bytes) : (memPost s a b).sec = s.sec := rfl
@[simp] theorem memPost_power (a : Nat) (b : Bytes) : (memPost s a b).power = s.power := rfl
@[simp] theorem memPost_update (a : Nat) (b : Bytes) : (memPost s a b).update = s.update := rfl
@[simp] theorem memPost_health (a : Nat) (b : Bytes) : (memPost s a b).health = s.health := rfl
@[simp] theorem updOut_pending (n : Nat) (f : Output → Output) : (updOut s n f).pending = s.pending := rfl
@[simp] theorem updOut_now (n : Nat) (f : Output → Output) : (updOut s n f).now = s.now := rfl
@[simp] theorem updOut_mode (n : Nat) (f : Output → Output) : (updOut s n f).mode = s.mode := rfl
@[simp] theorem updOut_dieLink (n : Nat) (f : Output → Output) : (updOut s n f).dieLink = s.dieLink := rfl
@[simp] theorem updOut_isolated (n : Nat) (f : Output → Output) : (updOut s n f).isolated = s.isolated := rfl
@[simp] theorem updOut_dict (n : Nat) (f : Output → Output) : (updOut s n f).dict = s.dict := rfl
@[simp] theorem updOut_store (n : Nat) (f : Output → Output) : (updOut s n f).store = s.store := rfl
@[simp] theorem updOut_sregs (n : Nat) (f : Output → Output) : (updOut s n f).sregs = s.sregs := rfl
@[simp] theorem updOut_dram (n : Nat) (f : Output → Output) : (updOut s n f).dram = s.dram := rfl
@[simp] theorem updOut_stores (n : Nat) (f : Output → Output) : (updOut s n f).stores = s.stores := rfl
@[simp] theorem updOut_dramLost (n : Nat) (f : Output → Output) : (updOut s n f).dramLost = s.dramLost := rfl
@[simp] theorem updOut_emitted (n : Nat) (f : Output → Output) : (updOut s n f).emitted = s.emitted := rfl
@[simp] theorem updOut_free (n : Nat) (f : Output → Output) : (updOut s n f).free = s.free := rfl
@[simp] theorem updOut_net (n : Nat) (f : Output → Output) : (updOut s n f).net = s.net := rfl
@[simp] theorem updOut_tb (n : Nat) (f : Output → Output) : (updOut s n f).tb = s.tb := rfl
@[simp] theorem updOut_hive (n : Nat) (f : Output → Output) : (updOut s n f).hive = s.hive := rfl
@[simp] theorem updOut_fio (n : Nat) (f : Output → Output) : (updOut s n f).fio = s.fio := rfl
@[simp] theorem updOut_fioUnknown (n : Nat) (f : Output → Output) : (updOut s n f).fioUnknown = s.fioUnknown := rfl
@[simp] theorem updOut_lasts (n : Nat) (f : Output → Output) : (updOut s n f).lasts = s.lasts := rfl
@[simp] theorem updOut_spare (n : Nat) (f : Output → Output) : (updOut s n f).spare = s.spare := rfl
@[simp] theorem updOut_sentinel (n : Nat) (f : Output → Output) : (updOut s n f).sentinel = s.sentinel := rfl
@[simp] theorem updOut_gpu (n : Nat) (f : Output → Output) : (updOut s n f).gpu = s.gpu := rfl
@[simp] theorem updOut_media (n : Nat) (f : Output → Output) : (updOut s n f).media = s.media := rfl
@[simp] theorem updOut_touch (n : Nat) (f : Output → Output) : (updOut s n f).touch = s.touch := rfl
@[simp] theorem updOut_haptics (n : Nat) (f : Output → Output) : (updOut s n f).haptics = s.haptics := rfl
@[simp] theorem updOut_audio (n : Nat) (f : Output → Output) : (updOut s n f).audio = s.audio := rfl
@[simp] theorem updOut_mem (n : Nat) (f : Output → Output) : (updOut s n f).mem = s.mem := rfl
@[simp] theorem updOut_ports (n : Nat) (f : Output → Output) : (updOut s n f).ports = s.ports := rfl
@[simp] theorem updOut_slices (n : Nat) (f : Output → Output) : (updOut s n f).slices = s.slices := rfl
@[simp] theorem updOut_sec (n : Nat) (f : Output → Output) : (updOut s n f).sec = s.sec := rfl
@[simp] theorem updOut_power (n : Nat) (f : Output → Output) : (updOut s n f).power = s.power := rfl
@[simp] theorem updOut_update (n : Nat) (f : Output → Output) : (updOut s n f).update = s.update := rfl
@[simp] theorem updOut_health (n : Nat) (f : Output → Output) : (updOut s n f).health = s.health := rfl
@[simp] theorem updSlice_pending (n : Nat) (f : Slice → Slice) : (updSlice s n f).pending = s.pending := rfl
@[simp] theorem updSlice_now (n : Nat) (f : Slice → Slice) : (updSlice s n f).now = s.now := rfl
@[simp] theorem updSlice_mode (n : Nat) (f : Slice → Slice) : (updSlice s n f).mode = s.mode := rfl
@[simp] theorem updSlice_dieLink (n : Nat) (f : Slice → Slice) : (updSlice s n f).dieLink = s.dieLink := rfl
@[simp] theorem updSlice_isolated (n : Nat) (f : Slice → Slice) : (updSlice s n f).isolated = s.isolated := rfl
@[simp] theorem updSlice_dict (n : Nat) (f : Slice → Slice) : (updSlice s n f).dict = s.dict := rfl
@[simp] theorem updSlice_store (n : Nat) (f : Slice → Slice) : (updSlice s n f).store = s.store := rfl
@[simp] theorem updSlice_sregs (n : Nat) (f : Slice → Slice) : (updSlice s n f).sregs = s.sregs := rfl
@[simp] theorem updSlice_dram (n : Nat) (f : Slice → Slice) : (updSlice s n f).dram = s.dram := rfl
@[simp] theorem updSlice_stores (n : Nat) (f : Slice → Slice) : (updSlice s n f).stores = s.stores := rfl
@[simp] theorem updSlice_dramLost (n : Nat) (f : Slice → Slice) : (updSlice s n f).dramLost = s.dramLost := rfl
@[simp] theorem updSlice_emitted (n : Nat) (f : Slice → Slice) : (updSlice s n f).emitted = s.emitted := rfl
@[simp] theorem updSlice_free (n : Nat) (f : Slice → Slice) : (updSlice s n f).free = s.free := rfl
@[simp] theorem updSlice_net (n : Nat) (f : Slice → Slice) : (updSlice s n f).net = s.net := rfl
@[simp] theorem updSlice_tb (n : Nat) (f : Slice → Slice) : (updSlice s n f).tb = s.tb := rfl
@[simp] theorem updSlice_hive (n : Nat) (f : Slice → Slice) : (updSlice s n f).hive = s.hive := rfl
@[simp] theorem updSlice_fio (n : Nat) (f : Slice → Slice) : (updSlice s n f).fio = s.fio := rfl
@[simp] theorem updSlice_fioUnknown (n : Nat) (f : Slice → Slice) : (updSlice s n f).fioUnknown = s.fioUnknown := rfl
@[simp] theorem updSlice_lasts (n : Nat) (f : Slice → Slice) : (updSlice s n f).lasts = s.lasts := rfl
@[simp] theorem updSlice_outs (n : Nat) (f : Slice → Slice) : (updSlice s n f).outs = s.outs := rfl
@[simp] theorem updSlice_spare (n : Nat) (f : Slice → Slice) : (updSlice s n f).spare = s.spare := rfl
@[simp] theorem updSlice_sentinel (n : Nat) (f : Slice → Slice) : (updSlice s n f).sentinel = s.sentinel := rfl
@[simp] theorem updSlice_gpu (n : Nat) (f : Slice → Slice) : (updSlice s n f).gpu = s.gpu := rfl
@[simp] theorem updSlice_media (n : Nat) (f : Slice → Slice) : (updSlice s n f).media = s.media := rfl
@[simp] theorem updSlice_touch (n : Nat) (f : Slice → Slice) : (updSlice s n f).touch = s.touch := rfl
@[simp] theorem updSlice_haptics (n : Nat) (f : Slice → Slice) : (updSlice s n f).haptics = s.haptics := rfl
@[simp] theorem updSlice_audio (n : Nat) (f : Slice → Slice) : (updSlice s n f).audio = s.audio := rfl
@[simp] theorem updSlice_mem (n : Nat) (f : Slice → Slice) : (updSlice s n f).mem = s.mem := rfl
@[simp] theorem updSlice_ports (n : Nat) (f : Slice → Slice) : (updSlice s n f).ports = s.ports := rfl
@[simp] theorem updSlice_sec (n : Nat) (f : Slice → Slice) : (updSlice s n f).sec = s.sec := rfl
@[simp] theorem updSlice_power (n : Nat) (f : Slice → Slice) : (updSlice s n f).power = s.power := rfl
@[simp] theorem updSlice_update (n : Nat) (f : Slice → Slice) : (updSlice s n f).update = s.update := rfl
@[simp] theorem updSlice_health (n : Nat) (f : Slice → Slice) : (updSlice s n f).health = s.health := rfl
@[simp] theorem updPort_pending (n : Nat) (f : Port → Port) : (updPort s n f).pending = s.pending := rfl
@[simp] theorem updPort_now (n : Nat) (f : Port → Port) : (updPort s n f).now = s.now := rfl
@[simp] theorem updPort_mode (n : Nat) (f : Port → Port) : (updPort s n f).mode = s.mode := rfl
@[simp] theorem updPort_dieLink (n : Nat) (f : Port → Port) : (updPort s n f).dieLink = s.dieLink := rfl
@[simp] theorem updPort_isolated (n : Nat) (f : Port → Port) : (updPort s n f).isolated = s.isolated := rfl
@[simp] theorem updPort_dict (n : Nat) (f : Port → Port) : (updPort s n f).dict = s.dict := rfl
@[simp] theorem updPort_store (n : Nat) (f : Port → Port) : (updPort s n f).store = s.store := rfl
@[simp] theorem updPort_sregs (n : Nat) (f : Port → Port) : (updPort s n f).sregs = s.sregs := rfl
@[simp] theorem updPort_dram (n : Nat) (f : Port → Port) : (updPort s n f).dram = s.dram := rfl
@[simp] theorem updPort_stores (n : Nat) (f : Port → Port) : (updPort s n f).stores = s.stores := rfl
@[simp] theorem updPort_dramLost (n : Nat) (f : Port → Port) : (updPort s n f).dramLost = s.dramLost := rfl
@[simp] theorem updPort_emitted (n : Nat) (f : Port → Port) : (updPort s n f).emitted = s.emitted := rfl
@[simp] theorem updPort_free (n : Nat) (f : Port → Port) : (updPort s n f).free = s.free := rfl
@[simp] theorem updPort_net (n : Nat) (f : Port → Port) : (updPort s n f).net = s.net := rfl
@[simp] theorem updPort_tb (n : Nat) (f : Port → Port) : (updPort s n f).tb = s.tb := rfl
@[simp] theorem updPort_hive (n : Nat) (f : Port → Port) : (updPort s n f).hive = s.hive := rfl
@[simp] theorem updPort_fio (n : Nat) (f : Port → Port) : (updPort s n f).fio = s.fio := rfl
@[simp] theorem updPort_fioUnknown (n : Nat) (f : Port → Port) : (updPort s n f).fioUnknown = s.fioUnknown := rfl
@[simp] theorem updPort_lasts (n : Nat) (f : Port → Port) : (updPort s n f).lasts = s.lasts := rfl
@[simp] theorem updPort_outs (n : Nat) (f : Port → Port) : (updPort s n f).outs = s.outs := rfl
@[simp] theorem updPort_spare (n : Nat) (f : Port → Port) : (updPort s n f).spare = s.spare := rfl
@[simp] theorem updPort_sentinel (n : Nat) (f : Port → Port) : (updPort s n f).sentinel = s.sentinel := rfl
@[simp] theorem updPort_gpu (n : Nat) (f : Port → Port) : (updPort s n f).gpu = s.gpu := rfl
@[simp] theorem updPort_media (n : Nat) (f : Port → Port) : (updPort s n f).media = s.media := rfl
@[simp] theorem updPort_touch (n : Nat) (f : Port → Port) : (updPort s n f).touch = s.touch := rfl
@[simp] theorem updPort_haptics (n : Nat) (f : Port → Port) : (updPort s n f).haptics = s.haptics := rfl
@[simp] theorem updPort_audio (n : Nat) (f : Port → Port) : (updPort s n f).audio = s.audio := rfl
@[simp] theorem updPort_mem (n : Nat) (f : Port → Port) : (updPort s n f).mem = s.mem := rfl
@[simp] theorem updPort_slices (n : Nat) (f : Port → Port) : (updPort s n f).slices = s.slices := rfl
@[simp] theorem updPort_sec (n : Nat) (f : Port → Port) : (updPort s n f).sec = s.sec := rfl
@[simp] theorem updPort_power (n : Nat) (f : Port → Port) : (updPort s n f).power = s.power := rfl
@[simp] theorem updPort_update (n : Nat) (f : Port → Port) : (updPort s n f).update = s.update := rfl
@[simp] theorem updPort_health (n : Nat) (f : Port → Port) : (updPort s n f).health = s.health := rfl
@[simp] theorem updCtx_pending (n : Nat) (f : GpuCtx → GpuCtx) : (updCtx s n f).pending = s.pending := rfl
@[simp] theorem updCtx_now (n : Nat) (f : GpuCtx → GpuCtx) : (updCtx s n f).now = s.now := rfl
@[simp] theorem updCtx_mode (n : Nat) (f : GpuCtx → GpuCtx) : (updCtx s n f).mode = s.mode := rfl
@[simp] theorem updCtx_dieLink (n : Nat) (f : GpuCtx → GpuCtx) : (updCtx s n f).dieLink = s.dieLink := rfl
@[simp] theorem updCtx_isolated (n : Nat) (f : GpuCtx → GpuCtx) : (updCtx s n f).isolated = s.isolated := rfl
@[simp] theorem updCtx_dict (n : Nat) (f : GpuCtx → GpuCtx) : (updCtx s n f).dict = s.dict := rfl
@[simp] theorem updCtx_store (n : Nat) (f : GpuCtx → GpuCtx) : (updCtx s n f).store = s.store := rfl
@[simp] theorem updCtx_sregs (n : Nat) (f : GpuCtx → GpuCtx) : (updCtx s n f).sregs = s.sregs := rfl
@[simp] theorem updCtx_dram (n : Nat) (f : GpuCtx → GpuCtx) : (updCtx s n f).dram = s.dram := rfl
@[simp] theorem updCtx_stores (n : Nat) (f : GpuCtx → GpuCtx) : (updCtx s n f).stores = s.stores := rfl
@[simp] theorem updCtx_dramLost (n : Nat) (f : GpuCtx → GpuCtx) : (updCtx s n f).dramLost = s.dramLost := rfl
@[simp] theorem updCtx_emitted (n : Nat) (f : GpuCtx → GpuCtx) : (updCtx s n f).emitted = s.emitted := rfl
@[simp] theorem updCtx_free (n : Nat) (f : GpuCtx → GpuCtx) : (updCtx s n f).free = s.free := rfl
@[simp] theorem updCtx_net (n : Nat) (f : GpuCtx → GpuCtx) : (updCtx s n f).net = s.net := rfl
@[simp] theorem updCtx_tb (n : Nat) (f : GpuCtx → GpuCtx) : (updCtx s n f).tb = s.tb := rfl
@[simp] theorem updCtx_hive (n : Nat) (f : GpuCtx → GpuCtx) : (updCtx s n f).hive = s.hive := rfl
@[simp] theorem updCtx_fio (n : Nat) (f : GpuCtx → GpuCtx) : (updCtx s n f).fio = s.fio := rfl
@[simp] theorem updCtx_fioUnknown (n : Nat) (f : GpuCtx → GpuCtx) : (updCtx s n f).fioUnknown = s.fioUnknown := rfl
@[simp] theorem updCtx_lasts (n : Nat) (f : GpuCtx → GpuCtx) : (updCtx s n f).lasts = s.lasts := rfl
@[simp] theorem updCtx_outs (n : Nat) (f : GpuCtx → GpuCtx) : (updCtx s n f).outs = s.outs := rfl
@[simp] theorem updCtx_spare (n : Nat) (f : GpuCtx → GpuCtx) : (updCtx s n f).spare = s.spare := rfl
@[simp] theorem updCtx_sentinel (n : Nat) (f : GpuCtx → GpuCtx) : (updCtx s n f).sentinel = s.sentinel := rfl
@[simp] theorem updCtx_media (n : Nat) (f : GpuCtx → GpuCtx) : (updCtx s n f).media = s.media := rfl
@[simp] theorem updCtx_touch (n : Nat) (f : GpuCtx → GpuCtx) : (updCtx s n f).touch = s.touch := rfl
@[simp] theorem updCtx_haptics (n : Nat) (f : GpuCtx → GpuCtx) : (updCtx s n f).haptics = s.haptics := rfl
@[simp] theorem updCtx_audio (n : Nat) (f : GpuCtx → GpuCtx) : (updCtx s n f).audio = s.audio := rfl
@[simp] theorem updCtx_mem (n : Nat) (f : GpuCtx → GpuCtx) : (updCtx s n f).mem = s.mem := rfl
@[simp] theorem updCtx_ports (n : Nat) (f : GpuCtx → GpuCtx) : (updCtx s n f).ports = s.ports := rfl
@[simp] theorem updCtx_slices (n : Nat) (f : GpuCtx → GpuCtx) : (updCtx s n f).slices = s.slices := rfl
@[simp] theorem updCtx_sec (n : Nat) (f : GpuCtx → GpuCtx) : (updCtx s n f).sec = s.sec := rfl
@[simp] theorem updCtx_power (n : Nat) (f : GpuCtx → GpuCtx) : (updCtx s n f).power = s.power := rfl
@[simp] theorem updCtx_update (n : Nat) (f : GpuCtx → GpuCtx) : (updCtx s n f).update = s.update := rfl
@[simp] theorem updCtx_health (n : Nat) (f : GpuCtx → GpuCtx) : (updCtx s n f).health = s.health := rfl
@[simp] theorem updCluster_pending (n : Nat) (f : Cluster → Cluster) : (updCluster s n f).pending = s.pending := rfl
@[simp] theorem updCluster_now (n : Nat) (f : Cluster → Cluster) : (updCluster s n f).now = s.now := rfl
@[simp] theorem updCluster_mode (n : Nat) (f : Cluster → Cluster) : (updCluster s n f).mode = s.mode := rfl
@[simp] theorem updCluster_dieLink (n : Nat) (f : Cluster → Cluster) : (updCluster s n f).dieLink = s.dieLink := rfl
@[simp] theorem updCluster_isolated (n : Nat) (f : Cluster → Cluster) : (updCluster s n f).isolated = s.isolated := rfl
@[simp] theorem updCluster_dict (n : Nat) (f : Cluster → Cluster) : (updCluster s n f).dict = s.dict := rfl
@[simp] theorem updCluster_store (n : Nat) (f : Cluster → Cluster) : (updCluster s n f).store = s.store := rfl
@[simp] theorem updCluster_sregs (n : Nat) (f : Cluster → Cluster) : (updCluster s n f).sregs = s.sregs := rfl
@[simp] theorem updCluster_dram (n : Nat) (f : Cluster → Cluster) : (updCluster s n f).dram = s.dram := rfl
@[simp] theorem updCluster_stores (n : Nat) (f : Cluster → Cluster) : (updCluster s n f).stores = s.stores := rfl
@[simp] theorem updCluster_dramLost (n : Nat) (f : Cluster → Cluster) : (updCluster s n f).dramLost = s.dramLost := rfl
@[simp] theorem updCluster_emitted (n : Nat) (f : Cluster → Cluster) : (updCluster s n f).emitted = s.emitted := rfl
@[simp] theorem updCluster_free (n : Nat) (f : Cluster → Cluster) : (updCluster s n f).free = s.free := rfl
@[simp] theorem updCluster_net (n : Nat) (f : Cluster → Cluster) : (updCluster s n f).net = s.net := rfl
@[simp] theorem updCluster_tb (n : Nat) (f : Cluster → Cluster) : (updCluster s n f).tb = s.tb := rfl
@[simp] theorem updCluster_hive (n : Nat) (f : Cluster → Cluster) : (updCluster s n f).hive = s.hive := rfl
@[simp] theorem updCluster_fio (n : Nat) (f : Cluster → Cluster) : (updCluster s n f).fio = s.fio := rfl
@[simp] theorem updCluster_fioUnknown (n : Nat) (f : Cluster → Cluster) : (updCluster s n f).fioUnknown = s.fioUnknown := rfl
@[simp] theorem updCluster_lasts (n : Nat) (f : Cluster → Cluster) : (updCluster s n f).lasts = s.lasts := rfl
@[simp] theorem updCluster_outs (n : Nat) (f : Cluster → Cluster) : (updCluster s n f).outs = s.outs := rfl
@[simp] theorem updCluster_spare (n : Nat) (f : Cluster → Cluster) : (updCluster s n f).spare = s.spare := rfl
@[simp] theorem updCluster_sentinel (n : Nat) (f : Cluster → Cluster) : (updCluster s n f).sentinel = s.sentinel := rfl
@[simp] theorem updCluster_media (n : Nat) (f : Cluster → Cluster) : (updCluster s n f).media = s.media := rfl
@[simp] theorem updCluster_touch (n : Nat) (f : Cluster → Cluster) : (updCluster s n f).touch = s.touch := rfl
@[simp] theorem updCluster_haptics (n : Nat) (f : Cluster → Cluster) : (updCluster s n f).haptics = s.haptics := rfl
@[simp] theorem updCluster_audio (n : Nat) (f : Cluster → Cluster) : (updCluster s n f).audio = s.audio := rfl
@[simp] theorem updCluster_mem (n : Nat) (f : Cluster → Cluster) : (updCluster s n f).mem = s.mem := rfl
@[simp] theorem updCluster_ports (n : Nat) (f : Cluster → Cluster) : (updCluster s n f).ports = s.ports := rfl
@[simp] theorem updCluster_slices (n : Nat) (f : Cluster → Cluster) : (updCluster s n f).slices = s.slices := rfl
@[simp] theorem updCluster_sec (n : Nat) (f : Cluster → Cluster) : (updCluster s n f).sec = s.sec := rfl
@[simp] theorem updCluster_power (n : Nat) (f : Cluster → Cluster) : (updCluster s n f).power = s.power := rfl
@[simp] theorem updCluster_update (n : Nat) (f : Cluster → Cluster) : (updCluster s n f).update = s.update := rfl
@[simp] theorem updCluster_health (n : Nat) (f : Cluster → Cluster) : (updCluster s n f).health = s.health := rfl
@[simp] theorem updFeed_pending (n : Nat) (f : Feed → Feed) : (updFeed s n f).pending = s.pending := rfl
@[simp] theorem updFeed_now (n : Nat) (f : Feed → Feed) : (updFeed s n f).now = s.now := rfl
@[simp] theorem updFeed_mode (n : Nat) (f : Feed → Feed) : (updFeed s n f).mode = s.mode := rfl
@[simp] theorem updFeed_dieLink (n : Nat) (f : Feed → Feed) : (updFeed s n f).dieLink = s.dieLink := rfl
@[simp] theorem updFeed_isolated (n : Nat) (f : Feed → Feed) : (updFeed s n f).isolated = s.isolated := rfl
@[simp] theorem updFeed_dict (n : Nat) (f : Feed → Feed) : (updFeed s n f).dict = s.dict := rfl
@[simp] theorem updFeed_store (n : Nat) (f : Feed → Feed) : (updFeed s n f).store = s.store := rfl
@[simp] theorem updFeed_sregs (n : Nat) (f : Feed → Feed) : (updFeed s n f).sregs = s.sregs := rfl
@[simp] theorem updFeed_dram (n : Nat) (f : Feed → Feed) : (updFeed s n f).dram = s.dram := rfl
@[simp] theorem updFeed_stores (n : Nat) (f : Feed → Feed) : (updFeed s n f).stores = s.stores := rfl
@[simp] theorem updFeed_dramLost (n : Nat) (f : Feed → Feed) : (updFeed s n f).dramLost = s.dramLost := rfl
@[simp] theorem updFeed_emitted (n : Nat) (f : Feed → Feed) : (updFeed s n f).emitted = s.emitted := rfl
@[simp] theorem updFeed_free (n : Nat) (f : Feed → Feed) : (updFeed s n f).free = s.free := rfl
@[simp] theorem updFeed_net (n : Nat) (f : Feed → Feed) : (updFeed s n f).net = s.net := rfl
@[simp] theorem updFeed_tb (n : Nat) (f : Feed → Feed) : (updFeed s n f).tb = s.tb := rfl
@[simp] theorem updFeed_hive (n : Nat) (f : Feed → Feed) : (updFeed s n f).hive = s.hive := rfl
@[simp] theorem updFeed_fio (n : Nat) (f : Feed → Feed) : (updFeed s n f).fio = s.fio := rfl
@[simp] theorem updFeed_fioUnknown (n : Nat) (f : Feed → Feed) : (updFeed s n f).fioUnknown = s.fioUnknown := rfl
@[simp] theorem updFeed_lasts (n : Nat) (f : Feed → Feed) : (updFeed s n f).lasts = s.lasts := rfl
@[simp] theorem updFeed_outs (n : Nat) (f : Feed → Feed) : (updFeed s n f).outs = s.outs := rfl
@[simp] theorem updFeed_spare (n : Nat) (f : Feed → Feed) : (updFeed s n f).spare = s.spare := rfl
@[simp] theorem updFeed_sentinel (n : Nat) (f : Feed → Feed) : (updFeed s n f).sentinel = s.sentinel := rfl
@[simp] theorem updFeed_gpu (n : Nat) (f : Feed → Feed) : (updFeed s n f).gpu = s.gpu := rfl
@[simp] theorem updFeed_touch (n : Nat) (f : Feed → Feed) : (updFeed s n f).touch = s.touch := rfl
@[simp] theorem updFeed_haptics (n : Nat) (f : Feed → Feed) : (updFeed s n f).haptics = s.haptics := rfl
@[simp] theorem updFeed_audio (n : Nat) (f : Feed → Feed) : (updFeed s n f).audio = s.audio := rfl
@[simp] theorem updFeed_mem (n : Nat) (f : Feed → Feed) : (updFeed s n f).mem = s.mem := rfl
@[simp] theorem updFeed_ports (n : Nat) (f : Feed → Feed) : (updFeed s n f).ports = s.ports := rfl
@[simp] theorem updFeed_slices (n : Nat) (f : Feed → Feed) : (updFeed s n f).slices = s.slices := rfl
@[simp] theorem updFeed_sec (n : Nat) (f : Feed → Feed) : (updFeed s n f).sec = s.sec := rfl
@[simp] theorem updFeed_power (n : Nat) (f : Feed → Feed) : (updFeed s n f).power = s.power := rfl
@[simp] theorem updFeed_update (n : Nat) (f : Feed → Feed) : (updFeed s n f).update = s.update := rfl
@[simp] theorem updFeed_health (n : Nat) (f : Feed → Feed) : (updFeed s n f).health = s.health := rfl
@[simp] theorem updCapture_pending (n : Nat) (f : Capture → Capture) : (updCapture s n f).pending = s.pending := rfl
@[simp] theorem updCapture_now (n : Nat) (f : Capture → Capture) : (updCapture s n f).now = s.now := rfl
@[simp] theorem updCapture_mode (n : Nat) (f : Capture → Capture) : (updCapture s n f).mode = s.mode := rfl
@[simp] theorem updCapture_dieLink (n : Nat) (f : Capture → Capture) : (updCapture s n f).dieLink = s.dieLink := rfl
@[simp] theorem updCapture_isolated (n : Nat) (f : Capture → Capture) : (updCapture s n f).isolated = s.isolated := rfl
@[simp] theorem updCapture_dict (n : Nat) (f : Capture → Capture) : (updCapture s n f).dict = s.dict := rfl
@[simp] theorem updCapture_store (n : Nat) (f : Capture → Capture) : (updCapture s n f).store = s.store := rfl
@[simp] theorem updCapture_sregs (n : Nat) (f : Capture → Capture) : (updCapture s n f).sregs = s.sregs := rfl
@[simp] theorem updCapture_dram (n : Nat) (f : Capture → Capture) : (updCapture s n f).dram = s.dram := rfl
@[simp] theorem updCapture_stores (n : Nat) (f : Capture → Capture) : (updCapture s n f).stores = s.stores := rfl
@[simp] theorem updCapture_dramLost (n : Nat) (f : Capture → Capture) : (updCapture s n f).dramLost = s.dramLost := rfl
@[simp] theorem updCapture_emitted (n : Nat) (f : Capture → Capture) : (updCapture s n f).emitted = s.emitted := rfl
@[simp] theorem updCapture_free (n : Nat) (f : Capture → Capture) : (updCapture s n f).free = s.free := rfl
@[simp] theorem updCapture_net (n : Nat) (f : Capture → Capture) : (updCapture s n f).net = s.net := rfl
@[simp] theorem updCapture_tb (n : Nat) (f : Capture → Capture) : (updCapture s n f).tb = s.tb := rfl
@[simp] theorem updCapture_hive (n : Nat) (f : Capture → Capture) : (updCapture s n f).hive = s.hive := rfl
@[simp] theorem updCapture_fio (n : Nat) (f : Capture → Capture) : (updCapture s n f).fio = s.fio := rfl
@[simp] theorem updCapture_fioUnknown (n : Nat) (f : Capture → Capture) : (updCapture s n f).fioUnknown = s.fioUnknown := rfl
@[simp] theorem updCapture_lasts (n : Nat) (f : Capture → Capture) : (updCapture s n f).lasts = s.lasts := rfl
@[simp] theorem updCapture_outs (n : Nat) (f : Capture → Capture) : (updCapture s n f).outs = s.outs := rfl
@[simp] theorem updCapture_spare (n : Nat) (f : Capture → Capture) : (updCapture s n f).spare = s.spare := rfl
@[simp] theorem updCapture_sentinel (n : Nat) (f : Capture → Capture) : (updCapture s n f).sentinel = s.sentinel := rfl
@[simp] theorem updCapture_gpu (n : Nat) (f : Capture → Capture) : (updCapture s n f).gpu = s.gpu := rfl
@[simp] theorem updCapture_touch (n : Nat) (f : Capture → Capture) : (updCapture s n f).touch = s.touch := rfl
@[simp] theorem updCapture_haptics (n : Nat) (f : Capture → Capture) : (updCapture s n f).haptics = s.haptics := rfl
@[simp] theorem updCapture_audio (n : Nat) (f : Capture → Capture) : (updCapture s n f).audio = s.audio := rfl
@[simp] theorem updCapture_mem (n : Nat) (f : Capture → Capture) : (updCapture s n f).mem = s.mem := rfl
@[simp] theorem updCapture_ports (n : Nat) (f : Capture → Capture) : (updCapture s n f).ports = s.ports := rfl
@[simp] theorem updCapture_slices (n : Nat) (f : Capture → Capture) : (updCapture s n f).slices = s.slices := rfl
@[simp] theorem updCapture_sec (n : Nat) (f : Capture → Capture) : (updCapture s n f).sec = s.sec := rfl
@[simp] theorem updCapture_power (n : Nat) (f : Capture → Capture) : (updCapture s n f).power = s.power := rfl
@[simp] theorem updCapture_update (n : Nat) (f : Capture → Capture) : (updCapture s n f).update = s.update := rfl
@[simp] theorem updCapture_health (n : Nat) (f : Capture → Capture) : (updCapture s n f).health = s.health := rfl
@[simp] theorem updDecRing_pending (n : Nat) (f : DecRing → DecRing) : (updDecRing s n f).pending = s.pending := rfl
@[simp] theorem updDecRing_now (n : Nat) (f : DecRing → DecRing) : (updDecRing s n f).now = s.now := rfl
@[simp] theorem updDecRing_mode (n : Nat) (f : DecRing → DecRing) : (updDecRing s n f).mode = s.mode := rfl
@[simp] theorem updDecRing_dieLink (n : Nat) (f : DecRing → DecRing) : (updDecRing s n f).dieLink = s.dieLink := rfl
@[simp] theorem updDecRing_isolated (n : Nat) (f : DecRing → DecRing) : (updDecRing s n f).isolated = s.isolated := rfl
@[simp] theorem updDecRing_dict (n : Nat) (f : DecRing → DecRing) : (updDecRing s n f).dict = s.dict := rfl
@[simp] theorem updDecRing_store (n : Nat) (f : DecRing → DecRing) : (updDecRing s n f).store = s.store := rfl
@[simp] theorem updDecRing_sregs (n : Nat) (f : DecRing → DecRing) : (updDecRing s n f).sregs = s.sregs := rfl
@[simp] theorem updDecRing_dram (n : Nat) (f : DecRing → DecRing) : (updDecRing s n f).dram = s.dram := rfl
@[simp] theorem updDecRing_stores (n : Nat) (f : DecRing → DecRing) : (updDecRing s n f).stores = s.stores := rfl
@[simp] theorem updDecRing_dramLost (n : Nat) (f : DecRing → DecRing) : (updDecRing s n f).dramLost = s.dramLost := rfl
@[simp] theorem updDecRing_emitted (n : Nat) (f : DecRing → DecRing) : (updDecRing s n f).emitted = s.emitted := rfl
@[simp] theorem updDecRing_free (n : Nat) (f : DecRing → DecRing) : (updDecRing s n f).free = s.free := rfl
@[simp] theorem updDecRing_net (n : Nat) (f : DecRing → DecRing) : (updDecRing s n f).net = s.net := rfl
@[simp] theorem updDecRing_tb (n : Nat) (f : DecRing → DecRing) : (updDecRing s n f).tb = s.tb := rfl
@[simp] theorem updDecRing_hive (n : Nat) (f : DecRing → DecRing) : (updDecRing s n f).hive = s.hive := rfl
@[simp] theorem updDecRing_fio (n : Nat) (f : DecRing → DecRing) : (updDecRing s n f).fio = s.fio := rfl
@[simp] theorem updDecRing_fioUnknown (n : Nat) (f : DecRing → DecRing) : (updDecRing s n f).fioUnknown = s.fioUnknown := rfl
@[simp] theorem updDecRing_lasts (n : Nat) (f : DecRing → DecRing) : (updDecRing s n f).lasts = s.lasts := rfl
@[simp] theorem updDecRing_outs (n : Nat) (f : DecRing → DecRing) : (updDecRing s n f).outs = s.outs := rfl
@[simp] theorem updDecRing_spare (n : Nat) (f : DecRing → DecRing) : (updDecRing s n f).spare = s.spare := rfl
@[simp] theorem updDecRing_sentinel (n : Nat) (f : DecRing → DecRing) : (updDecRing s n f).sentinel = s.sentinel := rfl
@[simp] theorem updDecRing_gpu (n : Nat) (f : DecRing → DecRing) : (updDecRing s n f).gpu = s.gpu := rfl
@[simp] theorem updDecRing_touch (n : Nat) (f : DecRing → DecRing) : (updDecRing s n f).touch = s.touch := rfl
@[simp] theorem updDecRing_haptics (n : Nat) (f : DecRing → DecRing) : (updDecRing s n f).haptics = s.haptics := rfl
@[simp] theorem updDecRing_audio (n : Nat) (f : DecRing → DecRing) : (updDecRing s n f).audio = s.audio := rfl
@[simp] theorem updDecRing_mem (n : Nat) (f : DecRing → DecRing) : (updDecRing s n f).mem = s.mem := rfl
@[simp] theorem updDecRing_ports (n : Nat) (f : DecRing → DecRing) : (updDecRing s n f).ports = s.ports := rfl
@[simp] theorem updDecRing_slices (n : Nat) (f : DecRing → DecRing) : (updDecRing s n f).slices = s.slices := rfl
@[simp] theorem updDecRing_sec (n : Nat) (f : DecRing → DecRing) : (updDecRing s n f).sec = s.sec := rfl
@[simp] theorem updDecRing_power (n : Nat) (f : DecRing → DecRing) : (updDecRing s n f).power = s.power := rfl
@[simp] theorem updDecRing_update (n : Nat) (f : DecRing → DecRing) : (updDecRing s n f).update = s.update := rfl
@[simp] theorem updDecRing_health (n : Nat) (f : DecRing → DecRing) : (updDecRing s n f).health = s.health := rfl
@[simp] theorem updTouch_pending (n : Nat) (f : TouchCh → TouchCh) : (updTouch s n f).pending = s.pending := rfl
@[simp] theorem updTouch_now (n : Nat) (f : TouchCh → TouchCh) : (updTouch s n f).now = s.now := rfl
@[simp] theorem updTouch_mode (n : Nat) (f : TouchCh → TouchCh) : (updTouch s n f).mode = s.mode := rfl
@[simp] theorem updTouch_dieLink (n : Nat) (f : TouchCh → TouchCh) : (updTouch s n f).dieLink = s.dieLink := rfl
@[simp] theorem updTouch_isolated (n : Nat) (f : TouchCh → TouchCh) : (updTouch s n f).isolated = s.isolated := rfl
@[simp] theorem updTouch_dict (n : Nat) (f : TouchCh → TouchCh) : (updTouch s n f).dict = s.dict := rfl
@[simp] theorem updTouch_store (n : Nat) (f : TouchCh → TouchCh) : (updTouch s n f).store = s.store := rfl
@[simp] theorem updTouch_sregs (n : Nat) (f : TouchCh → TouchCh) : (updTouch s n f).sregs = s.sregs := rfl
@[simp] theorem updTouch_dram (n : Nat) (f : TouchCh → TouchCh) : (updTouch s n f).dram = s.dram := rfl
@[simp] theorem updTouch_stores (n : Nat) (f : TouchCh → TouchCh) : (updTouch s n f).stores = s.stores := rfl
@[simp] theorem updTouch_dramLost (n : Nat) (f : TouchCh → TouchCh) : (updTouch s n f).dramLost = s.dramLost := rfl
@[simp] theorem updTouch_emitted (n : Nat) (f : TouchCh → TouchCh) : (updTouch s n f).emitted = s.emitted := rfl
@[simp] theorem updTouch_free (n : Nat) (f : TouchCh → TouchCh) : (updTouch s n f).free = s.free := rfl
@[simp] theorem updTouch_net (n : Nat) (f : TouchCh → TouchCh) : (updTouch s n f).net = s.net := rfl
@[simp] theorem updTouch_tb (n : Nat) (f : TouchCh → TouchCh) : (updTouch s n f).tb = s.tb := rfl
@[simp] theorem updTouch_hive (n : Nat) (f : TouchCh → TouchCh) : (updTouch s n f).hive = s.hive := rfl
@[simp] theorem updTouch_fio (n : Nat) (f : TouchCh → TouchCh) : (updTouch s n f).fio = s.fio := rfl
@[simp] theorem updTouch_fioUnknown (n : Nat) (f : TouchCh → TouchCh) : (updTouch s n f).fioUnknown = s.fioUnknown := rfl
@[simp] theorem updTouch_lasts (n : Nat) (f : TouchCh → TouchCh) : (updTouch s n f).lasts = s.lasts := rfl
@[simp] theorem updTouch_outs (n : Nat) (f : TouchCh → TouchCh) : (updTouch s n f).outs = s.outs := rfl
@[simp] theorem updTouch_spare (n : Nat) (f : TouchCh → TouchCh) : (updTouch s n f).spare = s.spare := rfl
@[simp] theorem updTouch_sentinel (n : Nat) (f : TouchCh → TouchCh) : (updTouch s n f).sentinel = s.sentinel := rfl
@[simp] theorem updTouch_gpu (n : Nat) (f : TouchCh → TouchCh) : (updTouch s n f).gpu = s.gpu := rfl
@[simp] theorem updTouch_media (n : Nat) (f : TouchCh → TouchCh) : (updTouch s n f).media = s.media := rfl
@[simp] theorem updTouch_haptics (n : Nat) (f : TouchCh → TouchCh) : (updTouch s n f).haptics = s.haptics := rfl
@[simp] theorem updTouch_audio (n : Nat) (f : TouchCh → TouchCh) : (updTouch s n f).audio = s.audio := rfl
@[simp] theorem updTouch_mem (n : Nat) (f : TouchCh → TouchCh) : (updTouch s n f).mem = s.mem := rfl
@[simp] theorem updTouch_ports (n : Nat) (f : TouchCh → TouchCh) : (updTouch s n f).ports = s.ports := rfl
@[simp] theorem updTouch_slices (n : Nat) (f : TouchCh → TouchCh) : (updTouch s n f).slices = s.slices := rfl
@[simp] theorem updTouch_sec (n : Nat) (f : TouchCh → TouchCh) : (updTouch s n f).sec = s.sec := rfl
@[simp] theorem updTouch_power (n : Nat) (f : TouchCh → TouchCh) : (updTouch s n f).power = s.power := rfl
@[simp] theorem updTouch_update (n : Nat) (f : TouchCh → TouchCh) : (updTouch s n f).update = s.update := rfl
@[simp] theorem updTouch_health (n : Nat) (f : TouchCh → TouchCh) : (updTouch s n f).health = s.health := rfl
@[simp] theorem updHaptic_pending (n : Nat) (f : HapticCh → HapticCh) : (updHaptic s n f).pending = s.pending := rfl
@[simp] theorem updHaptic_now (n : Nat) (f : HapticCh → HapticCh) : (updHaptic s n f).now = s.now := rfl
@[simp] theorem updHaptic_mode (n : Nat) (f : HapticCh → HapticCh) : (updHaptic s n f).mode = s.mode := rfl
@[simp] theorem updHaptic_dieLink (n : Nat) (f : HapticCh → HapticCh) : (updHaptic s n f).dieLink = s.dieLink := rfl
@[simp] theorem updHaptic_isolated (n : Nat) (f : HapticCh → HapticCh) : (updHaptic s n f).isolated = s.isolated := rfl
@[simp] theorem updHaptic_dict (n : Nat) (f : HapticCh → HapticCh) : (updHaptic s n f).dict = s.dict := rfl
@[simp] theorem updHaptic_store (n : Nat) (f : HapticCh → HapticCh) : (updHaptic s n f).store = s.store := rfl
@[simp] theorem updHaptic_sregs (n : Nat) (f : HapticCh → HapticCh) : (updHaptic s n f).sregs = s.sregs := rfl
@[simp] theorem updHaptic_dram (n : Nat) (f : HapticCh → HapticCh) : (updHaptic s n f).dram = s.dram := rfl
@[simp] theorem updHaptic_stores (n : Nat) (f : HapticCh → HapticCh) : (updHaptic s n f).stores = s.stores := rfl
@[simp] theorem updHaptic_dramLost (n : Nat) (f : HapticCh → HapticCh) : (updHaptic s n f).dramLost = s.dramLost := rfl
@[simp] theorem updHaptic_emitted (n : Nat) (f : HapticCh → HapticCh) : (updHaptic s n f).emitted = s.emitted := rfl
@[simp] theorem updHaptic_free (n : Nat) (f : HapticCh → HapticCh) : (updHaptic s n f).free = s.free := rfl
@[simp] theorem updHaptic_net (n : Nat) (f : HapticCh → HapticCh) : (updHaptic s n f).net = s.net := rfl
@[simp] theorem updHaptic_tb (n : Nat) (f : HapticCh → HapticCh) : (updHaptic s n f).tb = s.tb := rfl
@[simp] theorem updHaptic_hive (n : Nat) (f : HapticCh → HapticCh) : (updHaptic s n f).hive = s.hive := rfl
@[simp] theorem updHaptic_fio (n : Nat) (f : HapticCh → HapticCh) : (updHaptic s n f).fio = s.fio := rfl
@[simp] theorem updHaptic_fioUnknown (n : Nat) (f : HapticCh → HapticCh) : (updHaptic s n f).fioUnknown = s.fioUnknown := rfl
@[simp] theorem updHaptic_lasts (n : Nat) (f : HapticCh → HapticCh) : (updHaptic s n f).lasts = s.lasts := rfl
@[simp] theorem updHaptic_outs (n : Nat) (f : HapticCh → HapticCh) : (updHaptic s n f).outs = s.outs := rfl
@[simp] theorem updHaptic_spare (n : Nat) (f : HapticCh → HapticCh) : (updHaptic s n f).spare = s.spare := rfl
@[simp] theorem updHaptic_sentinel (n : Nat) (f : HapticCh → HapticCh) : (updHaptic s n f).sentinel = s.sentinel := rfl
@[simp] theorem updHaptic_gpu (n : Nat) (f : HapticCh → HapticCh) : (updHaptic s n f).gpu = s.gpu := rfl
@[simp] theorem updHaptic_media (n : Nat) (f : HapticCh → HapticCh) : (updHaptic s n f).media = s.media := rfl
@[simp] theorem updHaptic_touch (n : Nat) (f : HapticCh → HapticCh) : (updHaptic s n f).touch = s.touch := rfl
@[simp] theorem updHaptic_audio (n : Nat) (f : HapticCh → HapticCh) : (updHaptic s n f).audio = s.audio := rfl
@[simp] theorem updHaptic_mem (n : Nat) (f : HapticCh → HapticCh) : (updHaptic s n f).mem = s.mem := rfl
@[simp] theorem updHaptic_ports (n : Nat) (f : HapticCh → HapticCh) : (updHaptic s n f).ports = s.ports := rfl
@[simp] theorem updHaptic_slices (n : Nat) (f : HapticCh → HapticCh) : (updHaptic s n f).slices = s.slices := rfl
@[simp] theorem updHaptic_sec (n : Nat) (f : HapticCh → HapticCh) : (updHaptic s n f).sec = s.sec := rfl
@[simp] theorem updHaptic_power (n : Nat) (f : HapticCh → HapticCh) : (updHaptic s n f).power = s.power := rfl
@[simp] theorem updHaptic_update (n : Nat) (f : HapticCh → HapticCh) : (updHaptic s n f).update = s.update := rfl
@[simp] theorem updHaptic_health (n : Nat) (f : HapticCh → HapticCh) : (updHaptic s n f).health = s.health := rfl
@[simp] theorem updStream_pending (n : Nat) (f : Stream → Stream) : (updStream s n f).pending = s.pending := rfl
@[simp] theorem updStream_now (n : Nat) (f : Stream → Stream) : (updStream s n f).now = s.now := rfl
@[simp] theorem updStream_mode (n : Nat) (f : Stream → Stream) : (updStream s n f).mode = s.mode := rfl
@[simp] theorem updStream_dieLink (n : Nat) (f : Stream → Stream) : (updStream s n f).dieLink = s.dieLink := rfl
@[simp] theorem updStream_isolated (n : Nat) (f : Stream → Stream) : (updStream s n f).isolated = s.isolated := rfl
@[simp] theorem updStream_dict (n : Nat) (f : Stream → Stream) : (updStream s n f).dict = s.dict := rfl
@[simp] theorem updStream_store (n : Nat) (f : Stream → Stream) : (updStream s n f).store = s.store := rfl
@[simp] theorem updStream_sregs (n : Nat) (f : Stream → Stream) : (updStream s n f).sregs = s.sregs := rfl
@[simp] theorem updStream_dram (n : Nat) (f : Stream → Stream) : (updStream s n f).dram = s.dram := rfl
@[simp] theorem updStream_stores (n : Nat) (f : Stream → Stream) : (updStream s n f).stores = s.stores := rfl
@[simp] theorem updStream_dramLost (n : Nat) (f : Stream → Stream) : (updStream s n f).dramLost = s.dramLost := rfl
@[simp] theorem updStream_emitted (n : Nat) (f : Stream → Stream) : (updStream s n f).emitted = s.emitted := rfl
@[simp] theorem updStream_free (n : Nat) (f : Stream → Stream) : (updStream s n f).free = s.free := rfl
@[simp] theorem updStream_net (n : Nat) (f : Stream → Stream) : (updStream s n f).net = s.net := rfl
@[simp] theorem updStream_tb (n : Nat) (f : Stream → Stream) : (updStream s n f).tb = s.tb := rfl
@[simp] theorem updStream_hive (n : Nat) (f : Stream → Stream) : (updStream s n f).hive = s.hive := rfl
@[simp] theorem updStream_fio (n : Nat) (f : Stream → Stream) : (updStream s n f).fio = s.fio := rfl
@[simp] theorem updStream_fioUnknown (n : Nat) (f : Stream → Stream) : (updStream s n f).fioUnknown = s.fioUnknown := rfl
@[simp] theorem updStream_lasts (n : Nat) (f : Stream → Stream) : (updStream s n f).lasts = s.lasts := rfl
@[simp] theorem updStream_outs (n : Nat) (f : Stream → Stream) : (updStream s n f).outs = s.outs := rfl
@[simp] theorem updStream_spare (n : Nat) (f : Stream → Stream) : (updStream s n f).spare = s.spare := rfl
@[simp] theorem updStream_sentinel (n : Nat) (f : Stream → Stream) : (updStream s n f).sentinel = s.sentinel := rfl
@[simp] theorem updStream_gpu (n : Nat) (f : Stream → Stream) : (updStream s n f).gpu = s.gpu := rfl
@[simp] theorem updStream_media (n : Nat) (f : Stream → Stream) : (updStream s n f).media = s.media := rfl
@[simp] theorem updStream_touch (n : Nat) (f : Stream → Stream) : (updStream s n f).touch = s.touch := rfl
@[simp] theorem updStream_haptics (n : Nat) (f : Stream → Stream) : (updStream s n f).haptics = s.haptics := rfl
@[simp] theorem updStream_mem (n : Nat) (f : Stream → Stream) : (updStream s n f).mem = s.mem := rfl
@[simp] theorem updStream_ports (n : Nat) (f : Stream → Stream) : (updStream s n f).ports = s.ports := rfl
@[simp] theorem updStream_slices (n : Nat) (f : Stream → Stream) : (updStream s n f).slices = s.slices := rfl
@[simp] theorem updStream_sec (n : Nat) (f : Stream → Stream) : (updStream s n f).sec = s.sec := rfl
@[simp] theorem updStream_power (n : Nat) (f : Stream → Stream) : (updStream s n f).power = s.power := rfl
@[simp] theorem updStream_update (n : Nat) (f : Stream → Stream) : (updStream s n f).update = s.update := rfl
@[simp] theorem updStream_health (n : Nat) (f : Stream → Stream) : (updStream s n f).health = s.health := rfl
@[simp] theorem updGain_pending (n : Nat) (f : GainCtl → GainCtl) : (updGain s n f).pending = s.pending := rfl
@[simp] theorem updGain_now (n : Nat) (f : GainCtl → GainCtl) : (updGain s n f).now = s.now := rfl
@[simp] theorem updGain_mode (n : Nat) (f : GainCtl → GainCtl) : (updGain s n f).mode = s.mode := rfl
@[simp] theorem updGain_dieLink (n : Nat) (f : GainCtl → GainCtl) : (updGain s n f).dieLink = s.dieLink := rfl
@[simp] theorem updGain_isolated (n : Nat) (f : GainCtl → GainCtl) : (updGain s n f).isolated = s.isolated := rfl
@[simp] theorem updGain_dict (n : Nat) (f : GainCtl → GainCtl) : (updGain s n f).dict = s.dict := rfl
@[simp] theorem updGain_store (n : Nat) (f : GainCtl → GainCtl) : (updGain s n f).store = s.store := rfl
@[simp] theorem updGain_sregs (n : Nat) (f : GainCtl → GainCtl) : (updGain s n f).sregs = s.sregs := rfl
@[simp] theorem updGain_dram (n : Nat) (f : GainCtl → GainCtl) : (updGain s n f).dram = s.dram := rfl
@[simp] theorem updGain_stores (n : Nat) (f : GainCtl → GainCtl) : (updGain s n f).stores = s.stores := rfl
@[simp] theorem updGain_dramLost (n : Nat) (f : GainCtl → GainCtl) : (updGain s n f).dramLost = s.dramLost := rfl
@[simp] theorem updGain_emitted (n : Nat) (f : GainCtl → GainCtl) : (updGain s n f).emitted = s.emitted := rfl
@[simp] theorem updGain_free (n : Nat) (f : GainCtl → GainCtl) : (updGain s n f).free = s.free := rfl
@[simp] theorem updGain_net (n : Nat) (f : GainCtl → GainCtl) : (updGain s n f).net = s.net := rfl
@[simp] theorem updGain_tb (n : Nat) (f : GainCtl → GainCtl) : (updGain s n f).tb = s.tb := rfl
@[simp] theorem updGain_hive (n : Nat) (f : GainCtl → GainCtl) : (updGain s n f).hive = s.hive := rfl
@[simp] theorem updGain_fio (n : Nat) (f : GainCtl → GainCtl) : (updGain s n f).fio = s.fio := rfl
@[simp] theorem updGain_fioUnknown (n : Nat) (f : GainCtl → GainCtl) : (updGain s n f).fioUnknown = s.fioUnknown := rfl
@[simp] theorem updGain_lasts (n : Nat) (f : GainCtl → GainCtl) : (updGain s n f).lasts = s.lasts := rfl
@[simp] theorem updGain_outs (n : Nat) (f : GainCtl → GainCtl) : (updGain s n f).outs = s.outs := rfl
@[simp] theorem updGain_spare (n : Nat) (f : GainCtl → GainCtl) : (updGain s n f).spare = s.spare := rfl
@[simp] theorem updGain_sentinel (n : Nat) (f : GainCtl → GainCtl) : (updGain s n f).sentinel = s.sentinel := rfl
@[simp] theorem updGain_gpu (n : Nat) (f : GainCtl → GainCtl) : (updGain s n f).gpu = s.gpu := rfl
@[simp] theorem updGain_media (n : Nat) (f : GainCtl → GainCtl) : (updGain s n f).media = s.media := rfl
@[simp] theorem updGain_touch (n : Nat) (f : GainCtl → GainCtl) : (updGain s n f).touch = s.touch := rfl
@[simp] theorem updGain_haptics (n : Nat) (f : GainCtl → GainCtl) : (updGain s n f).haptics = s.haptics := rfl
@[simp] theorem updGain_mem (n : Nat) (f : GainCtl → GainCtl) : (updGain s n f).mem = s.mem := rfl
@[simp] theorem updGain_ports (n : Nat) (f : GainCtl → GainCtl) : (updGain s n f).ports = s.ports := rfl
@[simp] theorem updGain_slices (n : Nat) (f : GainCtl → GainCtl) : (updGain s n f).slices = s.slices := rfl
@[simp] theorem updGain_sec (n : Nat) (f : GainCtl → GainCtl) : (updGain s n f).sec = s.sec := rfl
@[simp] theorem updGain_power (n : Nat) (f : GainCtl → GainCtl) : (updGain s n f).power = s.power := rfl
@[simp] theorem updGain_update (n : Nat) (f : GainCtl → GainCtl) : (updGain s n f).update = s.update := rfl
@[simp] theorem updGain_health (n : Nat) (f : GainCtl → GainCtl) : (updGain s n f).health = s.health := rfl
@[simp] theorem updCheck_pending (n : Nat) (f : CheckCh → CheckCh) : (updCheck s n f).pending = s.pending := rfl
@[simp] theorem updCheck_now (n : Nat) (f : CheckCh → CheckCh) : (updCheck s n f).now = s.now := rfl
@[simp] theorem updCheck_mode (n : Nat) (f : CheckCh → CheckCh) : (updCheck s n f).mode = s.mode := rfl
@[simp] theorem updCheck_dieLink (n : Nat) (f : CheckCh → CheckCh) : (updCheck s n f).dieLink = s.dieLink := rfl
@[simp] theorem updCheck_isolated (n : Nat) (f : CheckCh → CheckCh) : (updCheck s n f).isolated = s.isolated := rfl
@[simp] theorem updCheck_dict (n : Nat) (f : CheckCh → CheckCh) : (updCheck s n f).dict = s.dict := rfl
@[simp] theorem updCheck_store (n : Nat) (f : CheckCh → CheckCh) : (updCheck s n f).store = s.store := rfl
@[simp] theorem updCheck_sregs (n : Nat) (f : CheckCh → CheckCh) : (updCheck s n f).sregs = s.sregs := rfl
@[simp] theorem updCheck_dram (n : Nat) (f : CheckCh → CheckCh) : (updCheck s n f).dram = s.dram := rfl
@[simp] theorem updCheck_stores (n : Nat) (f : CheckCh → CheckCh) : (updCheck s n f).stores = s.stores := rfl
@[simp] theorem updCheck_dramLost (n : Nat) (f : CheckCh → CheckCh) : (updCheck s n f).dramLost = s.dramLost := rfl
@[simp] theorem updCheck_emitted (n : Nat) (f : CheckCh → CheckCh) : (updCheck s n f).emitted = s.emitted := rfl
@[simp] theorem updCheck_free (n : Nat) (f : CheckCh → CheckCh) : (updCheck s n f).free = s.free := rfl
@[simp] theorem updCheck_net (n : Nat) (f : CheckCh → CheckCh) : (updCheck s n f).net = s.net := rfl
@[simp] theorem updCheck_tb (n : Nat) (f : CheckCh → CheckCh) : (updCheck s n f).tb = s.tb := rfl
@[simp] theorem updCheck_hive (n : Nat) (f : CheckCh → CheckCh) : (updCheck s n f).hive = s.hive := rfl
@[simp] theorem updCheck_fio (n : Nat) (f : CheckCh → CheckCh) : (updCheck s n f).fio = s.fio := rfl
@[simp] theorem updCheck_fioUnknown (n : Nat) (f : CheckCh → CheckCh) : (updCheck s n f).fioUnknown = s.fioUnknown := rfl
@[simp] theorem updCheck_lasts (n : Nat) (f : CheckCh → CheckCh) : (updCheck s n f).lasts = s.lasts := rfl
@[simp] theorem updCheck_outs (n : Nat) (f : CheckCh → CheckCh) : (updCheck s n f).outs = s.outs := rfl
@[simp] theorem updCheck_spare (n : Nat) (f : CheckCh → CheckCh) : (updCheck s n f).spare = s.spare := rfl
@[simp] theorem updCheck_sentinel (n : Nat) (f : CheckCh → CheckCh) : (updCheck s n f).sentinel = s.sentinel := rfl
@[simp] theorem updCheck_gpu (n : Nat) (f : CheckCh → CheckCh) : (updCheck s n f).gpu = s.gpu := rfl
@[simp] theorem updCheck_media (n : Nat) (f : CheckCh → CheckCh) : (updCheck s n f).media = s.media := rfl
@[simp] theorem updCheck_touch (n : Nat) (f : CheckCh → CheckCh) : (updCheck s n f).touch = s.touch := rfl
@[simp] theorem updCheck_haptics (n : Nat) (f : CheckCh → CheckCh) : (updCheck s n f).haptics = s.haptics := rfl
@[simp] theorem updCheck_audio (n : Nat) (f : CheckCh → CheckCh) : (updCheck s n f).audio = s.audio := rfl
@[simp] theorem updCheck_ports (n : Nat) (f : CheckCh → CheckCh) : (updCheck s n f).ports = s.ports := rfl
@[simp] theorem updCheck_slices (n : Nat) (f : CheckCh → CheckCh) : (updCheck s n f).slices = s.slices := rfl
@[simp] theorem updCheck_sec (n : Nat) (f : CheckCh → CheckCh) : (updCheck s n f).sec = s.sec := rfl
@[simp] theorem updCheck_power (n : Nat) (f : CheckCh → CheckCh) : (updCheck s n f).power = s.power := rfl
@[simp] theorem updCheck_update (n : Nat) (f : CheckCh → CheckCh) : (updCheck s n f).update = s.update := rfl
@[simp] theorem updCheck_health (n : Nat) (f : CheckCh → CheckCh) : (updCheck s n f).health = s.health := rfl
@[simp] theorem updSlot_pending (n : Nat) (f : Slot → Slot) : (updSlot s n f).pending = s.pending := rfl
@[simp] theorem updSlot_now (n : Nat) (f : Slot → Slot) : (updSlot s n f).now = s.now := rfl
@[simp] theorem updSlot_mode (n : Nat) (f : Slot → Slot) : (updSlot s n f).mode = s.mode := rfl
@[simp] theorem updSlot_dieLink (n : Nat) (f : Slot → Slot) : (updSlot s n f).dieLink = s.dieLink := rfl
@[simp] theorem updSlot_isolated (n : Nat) (f : Slot → Slot) : (updSlot s n f).isolated = s.isolated := rfl
@[simp] theorem updSlot_dict (n : Nat) (f : Slot → Slot) : (updSlot s n f).dict = s.dict := rfl
@[simp] theorem updSlot_store (n : Nat) (f : Slot → Slot) : (updSlot s n f).store = s.store := rfl
@[simp] theorem updSlot_sregs (n : Nat) (f : Slot → Slot) : (updSlot s n f).sregs = s.sregs := rfl
@[simp] theorem updSlot_dram (n : Nat) (f : Slot → Slot) : (updSlot s n f).dram = s.dram := rfl
@[simp] theorem updSlot_stores (n : Nat) (f : Slot → Slot) : (updSlot s n f).stores = s.stores := rfl
@[simp] theorem updSlot_dramLost (n : Nat) (f : Slot → Slot) : (updSlot s n f).dramLost = s.dramLost := rfl
@[simp] theorem updSlot_emitted (n : Nat) (f : Slot → Slot) : (updSlot s n f).emitted = s.emitted := rfl
@[simp] theorem updSlot_free (n : Nat) (f : Slot → Slot) : (updSlot s n f).free = s.free := rfl
@[simp] theorem updSlot_net (n : Nat) (f : Slot → Slot) : (updSlot s n f).net = s.net := rfl
@[simp] theorem updSlot_tb (n : Nat) (f : Slot → Slot) : (updSlot s n f).tb = s.tb := rfl
@[simp] theorem updSlot_hive (n : Nat) (f : Slot → Slot) : (updSlot s n f).hive = s.hive := rfl
@[simp] theorem updSlot_fio (n : Nat) (f : Slot → Slot) : (updSlot s n f).fio = s.fio := rfl
@[simp] theorem updSlot_fioUnknown (n : Nat) (f : Slot → Slot) : (updSlot s n f).fioUnknown = s.fioUnknown := rfl
@[simp] theorem updSlot_outs (n : Nat) (f : Slot → Slot) : (updSlot s n f).outs = s.outs := rfl
@[simp] theorem updSlot_spare (n : Nat) (f : Slot → Slot) : (updSlot s n f).spare = s.spare := rfl
@[simp] theorem updSlot_sentinel (n : Nat) (f : Slot → Slot) : (updSlot s n f).sentinel = s.sentinel := rfl
@[simp] theorem updSlot_gpu (n : Nat) (f : Slot → Slot) : (updSlot s n f).gpu = s.gpu := rfl
@[simp] theorem updSlot_media (n : Nat) (f : Slot → Slot) : (updSlot s n f).media = s.media := rfl
@[simp] theorem updSlot_touch (n : Nat) (f : Slot → Slot) : (updSlot s n f).touch = s.touch := rfl
@[simp] theorem updSlot_haptics (n : Nat) (f : Slot → Slot) : (updSlot s n f).haptics = s.haptics := rfl
@[simp] theorem updSlot_audio (n : Nat) (f : Slot → Slot) : (updSlot s n f).audio = s.audio := rfl
@[simp] theorem updSlot_mem (n : Nat) (f : Slot → Slot) : (updSlot s n f).mem = s.mem := rfl
@[simp] theorem updSlot_ports (n : Nat) (f : Slot → Slot) : (updSlot s n f).ports = s.ports := rfl
@[simp] theorem updSlot_slices (n : Nat) (f : Slot → Slot) : (updSlot s n f).slices = s.slices := rfl
@[simp] theorem updSlot_sec (n : Nat) (f : Slot → Slot) : (updSlot s n f).sec = s.sec := rfl
@[simp] theorem updSlot_power (n : Nat) (f : Slot → Slot) : (updSlot s n f).power = s.power := rfl
@[simp] theorem updSlot_update (n : Nat) (f : Slot → Slot) : (updSlot s n f).update = s.update := rfl
@[simp] theorem updSlot_health (n : Nat) (f : Slot → Slot) : (updSlot s n f).health = s.health := rfl
@[simp] theorem updTb_pending (f : Timebase → Timebase) : (updTb s f).pending = s.pending := rfl
@[simp] theorem updTb_now (f : Timebase → Timebase) : (updTb s f).now = s.now := rfl
@[simp] theorem updTb_mode (f : Timebase → Timebase) : (updTb s f).mode = s.mode := rfl
@[simp] theorem updTb_dieLink (f : Timebase → Timebase) : (updTb s f).dieLink = s.dieLink := rfl
@[simp] theorem updTb_isolated (f : Timebase → Timebase) : (updTb s f).isolated = s.isolated := rfl
@[simp] theorem updTb_dict (f : Timebase → Timebase) : (updTb s f).dict = s.dict := rfl
@[simp] theorem updTb_store (f : Timebase → Timebase) : (updTb s f).store = s.store := rfl
@[simp] theorem updTb_sregs (f : Timebase → Timebase) : (updTb s f).sregs = s.sregs := rfl
@[simp] theorem updTb_dram (f : Timebase → Timebase) : (updTb s f).dram = s.dram := rfl
@[simp] theorem updTb_stores (f : Timebase → Timebase) : (updTb s f).stores = s.stores := rfl
@[simp] theorem updTb_dramLost (f : Timebase → Timebase) : (updTb s f).dramLost = s.dramLost := rfl
@[simp] theorem updTb_emitted (f : Timebase → Timebase) : (updTb s f).emitted = s.emitted := rfl
@[simp] theorem updTb_free (f : Timebase → Timebase) : (updTb s f).free = s.free := rfl
@[simp] theorem updTb_net (f : Timebase → Timebase) : (updTb s f).net = s.net := rfl
@[simp] theorem updTb_hive (f : Timebase → Timebase) : (updTb s f).hive = s.hive := rfl
@[simp] theorem updTb_fio (f : Timebase → Timebase) : (updTb s f).fio = s.fio := rfl
@[simp] theorem updTb_fioUnknown (f : Timebase → Timebase) : (updTb s f).fioUnknown = s.fioUnknown := rfl
@[simp] theorem updTb_lasts (f : Timebase → Timebase) : (updTb s f).lasts = s.lasts := rfl
@[simp] theorem updTb_outs (f : Timebase → Timebase) : (updTb s f).outs = s.outs := rfl
@[simp] theorem updTb_spare (f : Timebase → Timebase) : (updTb s f).spare = s.spare := rfl
@[simp] theorem updTb_sentinel (f : Timebase → Timebase) : (updTb s f).sentinel = s.sentinel := rfl
@[simp] theorem updTb_gpu (f : Timebase → Timebase) : (updTb s f).gpu = s.gpu := rfl
@[simp] theorem updTb_media (f : Timebase → Timebase) : (updTb s f).media = s.media := rfl
@[simp] theorem updTb_touch (f : Timebase → Timebase) : (updTb s f).touch = s.touch := rfl
@[simp] theorem updTb_haptics (f : Timebase → Timebase) : (updTb s f).haptics = s.haptics := rfl
@[simp] theorem updTb_audio (f : Timebase → Timebase) : (updTb s f).audio = s.audio := rfl
@[simp] theorem updTb_mem (f : Timebase → Timebase) : (updTb s f).mem = s.mem := rfl
@[simp] theorem updTb_ports (f : Timebase → Timebase) : (updTb s f).ports = s.ports := rfl
@[simp] theorem updTb_slices (f : Timebase → Timebase) : (updTb s f).slices = s.slices := rfl
@[simp] theorem updTb_sec (f : Timebase → Timebase) : (updTb s f).sec = s.sec := rfl
@[simp] theorem updTb_power (f : Timebase → Timebase) : (updTb s f).power = s.power := rfl
@[simp] theorem updTb_update (f : Timebase → Timebase) : (updTb s f).update = s.update := rfl
@[simp] theorem updTb_health (f : Timebase → Timebase) : (updTb s f).health = s.health := rfl
@[simp] theorem updLasts_pending (f : Lasts → Lasts) : (updLasts s f).pending = s.pending := rfl
@[simp] theorem updLasts_now (f : Lasts → Lasts) : (updLasts s f).now = s.now := rfl
@[simp] theorem updLasts_mode (f : Lasts → Lasts) : (updLasts s f).mode = s.mode := rfl
@[simp] theorem updLasts_dieLink (f : Lasts → Lasts) : (updLasts s f).dieLink = s.dieLink := rfl
@[simp] theorem updLasts_isolated (f : Lasts → Lasts) : (updLasts s f).isolated = s.isolated := rfl
@[simp] theorem updLasts_dict (f : Lasts → Lasts) : (updLasts s f).dict = s.dict := rfl
@[simp] theorem updLasts_store (f : Lasts → Lasts) : (updLasts s f).store = s.store := rfl
@[simp] theorem updLasts_sregs (f : Lasts → Lasts) : (updLasts s f).sregs = s.sregs := rfl
@[simp] theorem updLasts_dram (f : Lasts → Lasts) : (updLasts s f).dram = s.dram := rfl
@[simp] theorem updLasts_stores (f : Lasts → Lasts) : (updLasts s f).stores = s.stores := rfl
@[simp] theorem updLasts_dramLost (f : Lasts → Lasts) : (updLasts s f).dramLost = s.dramLost := rfl
@[simp] theorem updLasts_emitted (f : Lasts → Lasts) : (updLasts s f).emitted = s.emitted := rfl
@[simp] theorem updLasts_free (f : Lasts → Lasts) : (updLasts s f).free = s.free := rfl
@[simp] theorem updLasts_net (f : Lasts → Lasts) : (updLasts s f).net = s.net := rfl
@[simp] theorem updLasts_tb (f : Lasts → Lasts) : (updLasts s f).tb = s.tb := rfl
@[simp] theorem updLasts_hive (f : Lasts → Lasts) : (updLasts s f).hive = s.hive := rfl
@[simp] theorem updLasts_fio (f : Lasts → Lasts) : (updLasts s f).fio = s.fio := rfl
@[simp] theorem updLasts_fioUnknown (f : Lasts → Lasts) : (updLasts s f).fioUnknown = s.fioUnknown := rfl
@[simp] theorem updLasts_outs (f : Lasts → Lasts) : (updLasts s f).outs = s.outs := rfl
@[simp] theorem updLasts_spare (f : Lasts → Lasts) : (updLasts s f).spare = s.spare := rfl
@[simp] theorem updLasts_sentinel (f : Lasts → Lasts) : (updLasts s f).sentinel = s.sentinel := rfl
@[simp] theorem updLasts_gpu (f : Lasts → Lasts) : (updLasts s f).gpu = s.gpu := rfl
@[simp] theorem updLasts_media (f : Lasts → Lasts) : (updLasts s f).media = s.media := rfl
@[simp] theorem updLasts_touch (f : Lasts → Lasts) : (updLasts s f).touch = s.touch := rfl
@[simp] theorem updLasts_haptics (f : Lasts → Lasts) : (updLasts s f).haptics = s.haptics := rfl
@[simp] theorem updLasts_audio (f : Lasts → Lasts) : (updLasts s f).audio = s.audio := rfl
@[simp] theorem updLasts_mem (f : Lasts → Lasts) : (updLasts s f).mem = s.mem := rfl
@[simp] theorem updLasts_ports (f : Lasts → Lasts) : (updLasts s f).ports = s.ports := rfl
@[simp] theorem updLasts_slices (f : Lasts → Lasts) : (updLasts s f).slices = s.slices := rfl
@[simp] theorem updLasts_sec (f : Lasts → Lasts) : (updLasts s f).sec = s.sec := rfl
@[simp] theorem updLasts_power (f : Lasts → Lasts) : (updLasts s f).power = s.power := rfl
@[simp] theorem updLasts_update (f : Lasts → Lasts) : (updLasts s f).update = s.update := rfl
@[simp] theorem updLasts_health (f : Lasts → Lasts) : (updLasts s f).health = s.health := rfl
@[simp] theorem updPower_pending (f : Power → Power) : (updPower s f).pending = s.pending := rfl
@[simp] theorem updPower_now (f : Power → Power) : (updPower s f).now = s.now := rfl
@[simp] theorem updPower_mode (f : Power → Power) : (updPower s f).mode = s.mode := rfl
@[simp] theorem updPower_dieLink (f : Power → Power) : (updPower s f).dieLink = s.dieLink := rfl
@[simp] theorem updPower_isolated (f : Power → Power) : (updPower s f).isolated = s.isolated := rfl
@[simp] theorem updPower_dict (f : Power → Power) : (updPower s f).dict = s.dict := rfl
@[simp] theorem updPower_store (f : Power → Power) : (updPower s f).store = s.store := rfl
@[simp] theorem updPower_sregs (f : Power → Power) : (updPower s f).sregs = s.sregs := rfl
@[simp] theorem updPower_dram (f : Power → Power) : (updPower s f).dram = s.dram := rfl
@[simp] theorem updPower_stores (f : Power → Power) : (updPower s f).stores = s.stores := rfl
@[simp] theorem updPower_dramLost (f : Power → Power) : (updPower s f).dramLost = s.dramLost := rfl
@[simp] theorem updPower_emitted (f : Power → Power) : (updPower s f).emitted = s.emitted := rfl
@[simp] theorem updPower_free (f : Power → Power) : (updPower s f).free = s.free := rfl
@[simp] theorem updPower_net (f : Power → Power) : (updPower s f).net = s.net := rfl
@[simp] theorem updPower_tb (f : Power → Power) : (updPower s f).tb = s.tb := rfl
@[simp] theorem updPower_hive (f : Power → Power) : (updPower s f).hive = s.hive := rfl
@[simp] theorem updPower_fio (f : Power → Power) : (updPower s f).fio = s.fio := rfl
@[simp] theorem updPower_fioUnknown (f : Power → Power) : (updPower s f).fioUnknown = s.fioUnknown := rfl
@[simp] theorem updPower_lasts (f : Power → Power) : (updPower s f).lasts = s.lasts := rfl
@[simp] theorem updPower_outs (f : Power → Power) : (updPower s f).outs = s.outs := rfl
@[simp] theorem updPower_spare (f : Power → Power) : (updPower s f).spare = s.spare := rfl
@[simp] theorem updPower_sentinel (f : Power → Power) : (updPower s f).sentinel = s.sentinel := rfl
@[simp] theorem updPower_gpu (f : Power → Power) : (updPower s f).gpu = s.gpu := rfl
@[simp] theorem updPower_media (f : Power → Power) : (updPower s f).media = s.media := rfl
@[simp] theorem updPower_touch (f : Power → Power) : (updPower s f).touch = s.touch := rfl
@[simp] theorem updPower_haptics (f : Power → Power) : (updPower s f).haptics = s.haptics := rfl
@[simp] theorem updPower_audio (f : Power → Power) : (updPower s f).audio = s.audio := rfl
@[simp] theorem updPower_mem (f : Power → Power) : (updPower s f).mem = s.mem := rfl
@[simp] theorem updPower_ports (f : Power → Power) : (updPower s f).ports = s.ports := rfl
@[simp] theorem updPower_slices (f : Power → Power) : (updPower s f).slices = s.slices := rfl
@[simp] theorem updPower_sec (f : Power → Power) : (updPower s f).sec = s.sec := rfl
@[simp] theorem updPower_update (f : Power → Power) : (updPower s f).update = s.update := rfl
@[simp] theorem updPower_health (f : Power → Power) : (updPower s f).health = s.health := rfl
@[simp] theorem updMem_pending (f : Memory → Memory) : (updMem s f).pending = s.pending := rfl
@[simp] theorem updMem_now (f : Memory → Memory) : (updMem s f).now = s.now := rfl
@[simp] theorem updMem_mode (f : Memory → Memory) : (updMem s f).mode = s.mode := rfl
@[simp] theorem updMem_dieLink (f : Memory → Memory) : (updMem s f).dieLink = s.dieLink := rfl
@[simp] theorem updMem_isolated (f : Memory → Memory) : (updMem s f).isolated = s.isolated := rfl
@[simp] theorem updMem_dict (f : Memory → Memory) : (updMem s f).dict = s.dict := rfl
@[simp] theorem updMem_store (f : Memory → Memory) : (updMem s f).store = s.store := rfl
@[simp] theorem updMem_sregs (f : Memory → Memory) : (updMem s f).sregs = s.sregs := rfl
@[simp] theorem updMem_dram (f : Memory → Memory) : (updMem s f).dram = s.dram := rfl
@[simp] theorem updMem_stores (f : Memory → Memory) : (updMem s f).stores = s.stores := rfl
@[simp] theorem updMem_dramLost (f : Memory → Memory) : (updMem s f).dramLost = s.dramLost := rfl
@[simp] theorem updMem_emitted (f : Memory → Memory) : (updMem s f).emitted = s.emitted := rfl
@[simp] theorem updMem_free (f : Memory → Memory) : (updMem s f).free = s.free := rfl
@[simp] theorem updMem_net (f : Memory → Memory) : (updMem s f).net = s.net := rfl
@[simp] theorem updMem_tb (f : Memory → Memory) : (updMem s f).tb = s.tb := rfl
@[simp] theorem updMem_hive (f : Memory → Memory) : (updMem s f).hive = s.hive := rfl
@[simp] theorem updMem_fio (f : Memory → Memory) : (updMem s f).fio = s.fio := rfl
@[simp] theorem updMem_fioUnknown (f : Memory → Memory) : (updMem s f).fioUnknown = s.fioUnknown := rfl
@[simp] theorem updMem_lasts (f : Memory → Memory) : (updMem s f).lasts = s.lasts := rfl
@[simp] theorem updMem_outs (f : Memory → Memory) : (updMem s f).outs = s.outs := rfl
@[simp] theorem updMem_spare (f : Memory → Memory) : (updMem s f).spare = s.spare := rfl
@[simp] theorem updMem_sentinel (f : Memory → Memory) : (updMem s f).sentinel = s.sentinel := rfl
@[simp] theorem updMem_gpu (f : Memory → Memory) : (updMem s f).gpu = s.gpu := rfl
@[simp] theorem updMem_media (f : Memory → Memory) : (updMem s f).media = s.media := rfl
@[simp] theorem updMem_touch (f : Memory → Memory) : (updMem s f).touch = s.touch := rfl
@[simp] theorem updMem_haptics (f : Memory → Memory) : (updMem s f).haptics = s.haptics := rfl
@[simp] theorem updMem_audio (f : Memory → Memory) : (updMem s f).audio = s.audio := rfl
@[simp] theorem updMem_ports (f : Memory → Memory) : (updMem s f).ports = s.ports := rfl
@[simp] theorem updMem_slices (f : Memory → Memory) : (updMem s f).slices = s.slices := rfl
@[simp] theorem updMem_sec (f : Memory → Memory) : (updMem s f).sec = s.sec := rfl
@[simp] theorem updMem_power (f : Memory → Memory) : (updMem s f).power = s.power := rfl
@[simp] theorem updMem_update (f : Memory → Memory) : (updMem s f).update = s.update := rfl
@[simp] theorem updMem_health (f : Memory → Memory) : (updMem s f).health = s.health := rfl
@[simp] theorem updInsp_pending (f : Inspection → Inspection) : (updInsp s f).pending = s.pending := rfl
@[simp] theorem updInsp_now (f : Inspection → Inspection) : (updInsp s f).now = s.now := rfl
@[simp] theorem updInsp_mode (f : Inspection → Inspection) : (updInsp s f).mode = s.mode := rfl
@[simp] theorem updInsp_dieLink (f : Inspection → Inspection) : (updInsp s f).dieLink = s.dieLink := rfl
@[simp] theorem updInsp_isolated (f : Inspection → Inspection) : (updInsp s f).isolated = s.isolated := rfl
@[simp] theorem updInsp_dict (f : Inspection → Inspection) : (updInsp s f).dict = s.dict := rfl
@[simp] theorem updInsp_store (f : Inspection → Inspection) : (updInsp s f).store = s.store := rfl
@[simp] theorem updInsp_sregs (f : Inspection → Inspection) : (updInsp s f).sregs = s.sregs := rfl
@[simp] theorem updInsp_dram (f : Inspection → Inspection) : (updInsp s f).dram = s.dram := rfl
@[simp] theorem updInsp_stores (f : Inspection → Inspection) : (updInsp s f).stores = s.stores := rfl
@[simp] theorem updInsp_dramLost (f : Inspection → Inspection) : (updInsp s f).dramLost = s.dramLost := rfl
@[simp] theorem updInsp_emitted (f : Inspection → Inspection) : (updInsp s f).emitted = s.emitted := rfl
@[simp] theorem updInsp_free (f : Inspection → Inspection) : (updInsp s f).free = s.free := rfl
@[simp] theorem updInsp_net (f : Inspection → Inspection) : (updInsp s f).net = s.net := rfl
@[simp] theorem updInsp_tb (f : Inspection → Inspection) : (updInsp s f).tb = s.tb := rfl
@[simp] theorem updInsp_hive (f : Inspection → Inspection) : (updInsp s f).hive = s.hive := rfl
@[simp] theorem updInsp_fio (f : Inspection → Inspection) : (updInsp s f).fio = s.fio := rfl
@[simp] theorem updInsp_fioUnknown (f : Inspection → Inspection) : (updInsp s f).fioUnknown = s.fioUnknown := rfl
@[simp] theorem updInsp_lasts (f : Inspection → Inspection) : (updInsp s f).lasts = s.lasts := rfl
@[simp] theorem updInsp_outs (f : Inspection → Inspection) : (updInsp s f).outs = s.outs := rfl
@[simp] theorem updInsp_spare (f : Inspection → Inspection) : (updInsp s f).spare = s.spare := rfl
@[simp] theorem updInsp_sentinel (f : Inspection → Inspection) : (updInsp s f).sentinel = s.sentinel := rfl
@[simp] theorem updInsp_gpu (f : Inspection → Inspection) : (updInsp s f).gpu = s.gpu := rfl
@[simp] theorem updInsp_media (f : Inspection → Inspection) : (updInsp s f).media = s.media := rfl
@[simp] theorem updInsp_touch (f : Inspection → Inspection) : (updInsp s f).touch = s.touch := rfl
@[simp] theorem updInsp_haptics (f : Inspection → Inspection) : (updInsp s f).haptics = s.haptics := rfl
@[simp] theorem updInsp_audio (f : Inspection → Inspection) : (updInsp s f).audio = s.audio := rfl
@[simp] theorem updInsp_mem (f : Inspection → Inspection) : (updInsp s f).mem = s.mem := rfl
@[simp] theorem updInsp_ports (f : Inspection → Inspection) : (updInsp s f).ports = s.ports := rfl
@[simp] theorem updInsp_slices (f : Inspection → Inspection) : (updInsp s f).slices = s.slices := rfl
@[simp] theorem updInsp_sec (f : Inspection → Inspection) : (updInsp s f).sec = s.sec := rfl
@[simp] theorem updInsp_power (f : Inspection → Inspection) : (updInsp s f).power = s.power := rfl
@[simp] theorem updInsp_update (f : Inspection → Inspection) : (updInsp s f).update = s.update := rfl
@[simp] theorem putRecord_pending (i : Nat) (r : Option FaultRec) : (putRecord s i r).pending = s.pending := rfl
@[simp] theorem putRecord_now (i : Nat) (r : Option FaultRec) : (putRecord s i r).now = s.now := rfl
@[simp] theorem putRecord_mode (i : Nat) (r : Option FaultRec) : (putRecord s i r).mode = s.mode := rfl
@[simp] theorem putRecord_dieLink (i : Nat) (r : Option FaultRec) : (putRecord s i r).dieLink = s.dieLink := rfl
@[simp] theorem putRecord_isolated (i : Nat) (r : Option FaultRec) : (putRecord s i r).isolated = s.isolated := rfl
@[simp] theorem putRecord_dict (i : Nat) (r : Option FaultRec) : (putRecord s i r).dict = s.dict := rfl
@[simp] theorem putRecord_store (i : Nat) (r : Option FaultRec) : (putRecord s i r).store = s.store := rfl
@[simp] theorem putRecord_sregs (i : Nat) (r : Option FaultRec) : (putRecord s i r).sregs = s.sregs := rfl
@[simp] theorem putRecord_dram (i : Nat) (r : Option FaultRec) : (putRecord s i r).dram = s.dram := rfl
@[simp] theorem putRecord_stores (i : Nat) (r : Option FaultRec) : (putRecord s i r).stores = s.stores := rfl
@[simp] theorem putRecord_dramLost (i : Nat) (r : Option FaultRec) : (putRecord s i r).dramLost = s.dramLost := rfl
@[simp] theorem putRecord_emitted (i : Nat) (r : Option FaultRec) : (putRecord s i r).emitted = s.emitted := rfl
@[simp] theorem putRecord_free (i : Nat) (r : Option FaultRec) : (putRecord s i r).free = s.free := rfl
@[simp] theorem putRecord_net (i : Nat) (r : Option FaultRec) : (putRecord s i r).net = s.net := rfl
@[simp] theorem putRecord_tb (i : Nat) (r : Option FaultRec) : (putRecord s i r).tb = s.tb := rfl
@[simp] theorem putRecord_hive (i : Nat) (r : Option FaultRec) : (putRecord s i r).hive = s.hive := rfl
@[simp] theorem putRecord_fio (i : Nat) (r : Option FaultRec) : (putRecord s i r).fio = s.fio := rfl
@[simp] theorem putRecord_fioUnknown (i : Nat) (r : Option FaultRec) : (putRecord s i r).fioUnknown = s.fioUnknown := rfl
@[simp] theorem putRecord_lasts (i : Nat) (r : Option FaultRec) : (putRecord s i r).lasts = s.lasts := rfl
@[simp] theorem putRecord_outs (i : Nat) (r : Option FaultRec) : (putRecord s i r).outs = s.outs := rfl
@[simp] theorem putRecord_spare (i : Nat) (r : Option FaultRec) : (putRecord s i r).spare = s.spare := rfl
@[simp] theorem putRecord_sentinel (i : Nat) (r : Option FaultRec) : (putRecord s i r).sentinel = s.sentinel := rfl
@[simp] theorem putRecord_gpu (i : Nat) (r : Option FaultRec) : (putRecord s i r).gpu = s.gpu := rfl
@[simp] theorem putRecord_media (i : Nat) (r : Option FaultRec) : (putRecord s i r).media = s.media := rfl
@[simp] theorem putRecord_touch (i : Nat) (r : Option FaultRec) : (putRecord s i r).touch = s.touch := rfl
@[simp] theorem putRecord_haptics (i : Nat) (r : Option FaultRec) : (putRecord s i r).haptics = s.haptics := rfl
@[simp] theorem putRecord_audio (i : Nat) (r : Option FaultRec) : (putRecord s i r).audio = s.audio := rfl
@[simp] theorem putRecord_mem (i : Nat) (r : Option FaultRec) : (putRecord s i r).mem = s.mem := rfl
@[simp] theorem putRecord_ports (i : Nat) (r : Option FaultRec) : (putRecord s i r).ports = s.ports := rfl
@[simp] theorem putRecord_slices (i : Nat) (r : Option FaultRec) : (putRecord s i r).slices = s.slices := rfl
@[simp] theorem putRecord_sec (i : Nat) (r : Option FaultRec) : (putRecord s i r).sec = s.sec := rfl
@[simp] theorem putRecord_power (i : Nat) (r : Option FaultRec) : (putRecord s i r).power = s.power := rfl
@[simp] theorem putRecord_update (i : Nat) (r : Option FaultRec) : (putRecord s i r).update = s.update := rfl
@[simp] theorem updHive_pending (f : Hive → Hive) : (updHive s f).pending = s.pending := rfl
@[simp] theorem updHive_now (f : Hive → Hive) : (updHive s f).now = s.now := rfl
@[simp] theorem updHive_mode (f : Hive → Hive) : (updHive s f).mode = s.mode := rfl
@[simp] theorem updHive_dieLink (f : Hive → Hive) : (updHive s f).dieLink = s.dieLink := rfl
@[simp] theorem updHive_isolated (f : Hive → Hive) : (updHive s f).isolated = s.isolated := rfl
@[simp] theorem updHive_dict (f : Hive → Hive) : (updHive s f).dict = s.dict := rfl
@[simp] theorem updHive_store (f : Hive → Hive) : (updHive s f).store = s.store := rfl
@[simp] theorem updHive_sregs (f : Hive → Hive) : (updHive s f).sregs = s.sregs := rfl
@[simp] theorem updHive_dram (f : Hive → Hive) : (updHive s f).dram = s.dram := rfl
@[simp] theorem updHive_stores (f : Hive → Hive) : (updHive s f).stores = s.stores := rfl
@[simp] theorem updHive_dramLost (f : Hive → Hive) : (updHive s f).dramLost = s.dramLost := rfl
@[simp] theorem updHive_emitted (f : Hive → Hive) : (updHive s f).emitted = s.emitted := rfl
@[simp] theorem updHive_free (f : Hive → Hive) : (updHive s f).free = s.free := rfl
@[simp] theorem updHive_net (f : Hive → Hive) : (updHive s f).net = s.net := rfl
@[simp] theorem updHive_tb (f : Hive → Hive) : (updHive s f).tb = s.tb := rfl
@[simp] theorem updHive_fio (f : Hive → Hive) : (updHive s f).fio = s.fio := rfl
@[simp] theorem updHive_fioUnknown (f : Hive → Hive) : (updHive s f).fioUnknown = s.fioUnknown := rfl
@[simp] theorem updHive_lasts (f : Hive → Hive) : (updHive s f).lasts = s.lasts := rfl
@[simp] theorem updHive_outs (f : Hive → Hive) : (updHive s f).outs = s.outs := rfl
@[simp] theorem updHive_spare (f : Hive → Hive) : (updHive s f).spare = s.spare := rfl
@[simp] theorem updHive_sentinel (f : Hive → Hive) : (updHive s f).sentinel = s.sentinel := rfl
@[simp] theorem updHive_gpu (f : Hive → Hive) : (updHive s f).gpu = s.gpu := rfl
@[simp] theorem updHive_media (f : Hive → Hive) : (updHive s f).media = s.media := rfl
@[simp] theorem updHive_touch (f : Hive → Hive) : (updHive s f).touch = s.touch := rfl
@[simp] theorem updHive_haptics (f : Hive → Hive) : (updHive s f).haptics = s.haptics := rfl
@[simp] theorem updHive_audio (f : Hive → Hive) : (updHive s f).audio = s.audio := rfl
@[simp] theorem updHive_mem (f : Hive → Hive) : (updHive s f).mem = s.mem := rfl
@[simp] theorem updHive_ports (f : Hive → Hive) : (updHive s f).ports = s.ports := rfl
@[simp] theorem updHive_slices (f : Hive → Hive) : (updHive s f).slices = s.slices := rfl
@[simp] theorem updHive_sec (f : Hive → Hive) : (updHive s f).sec = s.sec := rfl
@[simp] theorem updHive_power (f : Hive → Hive) : (updHive s f).power = s.power := rfl
@[simp] theorem updHive_update (f : Hive → Hive) : (updHive s f).update = s.update := rfl
@[simp] theorem updHive_health (f : Hive → Hive) : (updHive s f).health = s.health := rfl
@[simp] theorem updNet_pending (f : Net → Net) : (updNet s f).pending = s.pending := rfl
@[simp] theorem updNet_now (f : Net → Net) : (updNet s f).now = s.now := rfl
@[simp] theorem updNet_mode (f : Net → Net) : (updNet s f).mode = s.mode := rfl
@[simp] theorem updNet_dieLink (f : Net → Net) : (updNet s f).dieLink = s.dieLink := rfl
@[simp] theorem updNet_isolated (f : Net → Net) : (updNet s f).isolated = s.isolated := rfl
@[simp] theorem updNet_dict (f : Net → Net) : (updNet s f).dict = s.dict := rfl
@[simp] theorem updNet_store (f : Net → Net) : (updNet s f).store = s.store := rfl
@[simp] theorem updNet_sregs (f : Net → Net) : (updNet s f).sregs = s.sregs := rfl
@[simp] theorem updNet_dram (f : Net → Net) : (updNet s f).dram = s.dram := rfl
@[simp] theorem updNet_stores (f : Net → Net) : (updNet s f).stores = s.stores := rfl
@[simp] theorem updNet_dramLost (f : Net → Net) : (updNet s f).dramLost = s.dramLost := rfl
@[simp] theorem updNet_emitted (f : Net → Net) : (updNet s f).emitted = s.emitted := rfl
@[simp] theorem updNet_free (f : Net → Net) : (updNet s f).free = s.free := rfl
@[simp] theorem updNet_tb (f : Net → Net) : (updNet s f).tb = s.tb := rfl
@[simp] theorem updNet_hive (f : Net → Net) : (updNet s f).hive = s.hive := rfl
@[simp] theorem updNet_fio (f : Net → Net) : (updNet s f).fio = s.fio := rfl
@[simp] theorem updNet_fioUnknown (f : Net → Net) : (updNet s f).fioUnknown = s.fioUnknown := rfl
@[simp] theorem updNet_lasts (f : Net → Net) : (updNet s f).lasts = s.lasts := rfl
@[simp] theorem updNet_outs (f : Net → Net) : (updNet s f).outs = s.outs := rfl
@[simp] theorem updNet_spare (f : Net → Net) : (updNet s f).spare = s.spare := rfl
@[simp] theorem updNet_sentinel (f : Net → Net) : (updNet s f).sentinel = s.sentinel := rfl
@[simp] theorem updNet_gpu (f : Net → Net) : (updNet s f).gpu = s.gpu := rfl
@[simp] theorem updNet_media (f : Net → Net) : (updNet s f).media = s.media := rfl
@[simp] theorem updNet_touch (f : Net → Net) : (updNet s f).touch = s.touch := rfl
@[simp] theorem updNet_haptics (f : Net → Net) : (updNet s f).haptics = s.haptics := rfl
@[simp] theorem updNet_audio (f : Net → Net) : (updNet s f).audio = s.audio := rfl
@[simp] theorem updNet_mem (f : Net → Net) : (updNet s f).mem = s.mem := rfl
@[simp] theorem updNet_ports (f : Net → Net) : (updNet s f).ports = s.ports := rfl
@[simp] theorem updNet_slices (f : Net → Net) : (updNet s f).slices = s.slices := rfl
@[simp] theorem updNet_sec (f : Net → Net) : (updNet s f).sec = s.sec := rfl
@[simp] theorem updNet_power (f : Net → Net) : (updNet s f).power = s.power := rfl
@[simp] theorem updNet_update (f : Net → Net) : (updNet s f).update = s.update := rfl
@[simp] theorem updNet_health (f : Net → Net) : (updNet s f).health = s.health := rfl
@[simp] theorem updMailbox_pending (p : Nat) (f : Mailbox → Mailbox) : (updMailbox s p f).pending = s.pending := rfl
@[simp] theorem updMailbox_now (p : Nat) (f : Mailbox → Mailbox) : (updMailbox s p f).now = s.now := rfl
@[simp] theorem updMailbox_mode (p : Nat) (f : Mailbox → Mailbox) : (updMailbox s p f).mode = s.mode := rfl
@[simp] theorem updMailbox_dieLink (p : Nat) (f : Mailbox → Mailbox) : (updMailbox s p f).dieLink = s.dieLink := rfl
@[simp] theorem updMailbox_isolated (p : Nat) (f : Mailbox → Mailbox) : (updMailbox s p f).isolated = s.isolated := rfl
@[simp] theorem updMailbox_dict (p : Nat) (f : Mailbox → Mailbox) : (updMailbox s p f).dict = s.dict := rfl
@[simp] theorem updMailbox_store (p : Nat) (f : Mailbox → Mailbox) : (updMailbox s p f).store = s.store := rfl
@[simp] theorem updMailbox_sregs (p : Nat) (f : Mailbox → Mailbox) : (updMailbox s p f).sregs = s.sregs := rfl
@[simp] theorem updMailbox_dram (p : Nat) (f : Mailbox → Mailbox) : (updMailbox s p f).dram = s.dram := rfl
@[simp] theorem updMailbox_stores (p : Nat) (f : Mailbox → Mailbox) : (updMailbox s p f).stores = s.stores := rfl
@[simp] theorem updMailbox_dramLost (p : Nat) (f : Mailbox → Mailbox) : (updMailbox s p f).dramLost = s.dramLost := rfl
@[simp] theorem updMailbox_emitted (p : Nat) (f : Mailbox → Mailbox) : (updMailbox s p f).emitted = s.emitted := rfl
@[simp] theorem updMailbox_free (p : Nat) (f : Mailbox → Mailbox) : (updMailbox s p f).free = s.free := rfl
@[simp] theorem updMailbox_tb (p : Nat) (f : Mailbox → Mailbox) : (updMailbox s p f).tb = s.tb := rfl
@[simp] theorem updMailbox_hive (p : Nat) (f : Mailbox → Mailbox) : (updMailbox s p f).hive = s.hive := rfl
@[simp] theorem updMailbox_fio (p : Nat) (f : Mailbox → Mailbox) : (updMailbox s p f).fio = s.fio := rfl
@[simp] theorem updMailbox_fioUnknown (p : Nat) (f : Mailbox → Mailbox) : (updMailbox s p f).fioUnknown = s.fioUnknown := rfl
@[simp] theorem updMailbox_lasts (p : Nat) (f : Mailbox → Mailbox) : (updMailbox s p f).lasts = s.lasts := rfl
@[simp] theorem updMailbox_outs (p : Nat) (f : Mailbox → Mailbox) : (updMailbox s p f).outs = s.outs := rfl
@[simp] theorem updMailbox_spare (p : Nat) (f : Mailbox → Mailbox) : (updMailbox s p f).spare = s.spare := rfl
@[simp] theorem updMailbox_sentinel (p : Nat) (f : Mailbox → Mailbox) : (updMailbox s p f).sentinel = s.sentinel := rfl
@[simp] theorem updMailbox_gpu (p : Nat) (f : Mailbox → Mailbox) : (updMailbox s p f).gpu = s.gpu := rfl
@[simp] theorem updMailbox_media (p : Nat) (f : Mailbox → Mailbox) : (updMailbox s p f).media = s.media := rfl
@[simp] theorem updMailbox_touch (p : Nat) (f : Mailbox → Mailbox) : (updMailbox s p f).touch = s.touch := rfl
@[simp] theorem updMailbox_haptics (p : Nat) (f : Mailbox → Mailbox) : (updMailbox s p f).haptics = s.haptics := rfl
@[simp] theorem updMailbox_audio (p : Nat) (f : Mailbox → Mailbox) : (updMailbox s p f).audio = s.audio := rfl
@[simp] theorem updMailbox_mem (p : Nat) (f : Mailbox → Mailbox) : (updMailbox s p f).mem = s.mem := rfl
@[simp] theorem updMailbox_ports (p : Nat) (f : Mailbox → Mailbox) : (updMailbox s p f).ports = s.ports := rfl
@[simp] theorem updMailbox_slices (p : Nat) (f : Mailbox → Mailbox) : (updMailbox s p f).slices = s.slices := rfl
@[simp] theorem updMailbox_sec (p : Nat) (f : Mailbox → Mailbox) : (updMailbox s p f).sec = s.sec := rfl
@[simp] theorem updMailbox_power (p : Nat) (f : Mailbox → Mailbox) : (updMailbox s p f).power = s.power := rfl
@[simp] theorem updMailbox_update (p : Nat) (f : Mailbox → Mailbox) : (updMailbox s p f).update = s.update := rfl
@[simp] theorem updMailbox_health (p : Nat) (f : Mailbox → Mailbox) : (updMailbox s p f).health = s.health := rfl
@[simp] theorem updAudio_pending (f : Audio → Audio) : (updAudio s f).pending = s.pending := rfl
@[simp] theorem updAudio_now (f : Audio → Audio) : (updAudio s f).now = s.now := rfl
@[simp] theorem updAudio_mode (f : Audio → Audio) : (updAudio s f).mode = s.mode := rfl
@[simp] theorem updAudio_dieLink (f : Audio → Audio) : (updAudio s f).dieLink = s.dieLink := rfl
@[simp] theorem updAudio_isolated (f : Audio → Audio) : (updAudio s f).isolated = s.isolated := rfl
@[simp] theorem updAudio_dict (f : Audio → Audio) : (updAudio s f).dict = s.dict := rfl
@[simp] theorem updAudio_store (f : Audio → Audio) : (updAudio s f).store = s.store := rfl
@[simp] theorem updAudio_sregs (f : Audio → Audio) : (updAudio s f).sregs = s.sregs := rfl
@[simp] theorem updAudio_dram (f : Audio → Audio) : (updAudio s f).dram = s.dram := rfl
@[simp] theorem updAudio_stores (f : Audio → Audio) : (updAudio s f).stores = s.stores := rfl
@[simp] theorem updAudio_dramLost (f : Audio → Audio) : (updAudio s f).dramLost = s.dramLost := rfl
@[simp] theorem updAudio_emitted (f : Audio → Audio) : (updAudio s f).emitted = s.emitted := rfl
@[simp] theorem updAudio_free (f : Audio → Audio) : (updAudio s f).free = s.free := rfl
@[simp] theorem updAudio_net (f : Audio → Audio) : (updAudio s f).net = s.net := rfl
@[simp] theorem updAudio_tb (f : Audio → Audio) : (updAudio s f).tb = s.tb := rfl
@[simp] theorem updAudio_hive (f : Audio → Audio) : (updAudio s f).hive = s.hive := rfl
@[simp] theorem updAudio_fio (f : Audio → Audio) : (updAudio s f).fio = s.fio := rfl
@[simp] theorem updAudio_fioUnknown (f : Audio → Audio) : (updAudio s f).fioUnknown = s.fioUnknown := rfl
@[simp] theorem updAudio_lasts (f : Audio → Audio) : (updAudio s f).lasts = s.lasts := rfl
@[simp] theorem updAudio_outs (f : Audio → Audio) : (updAudio s f).outs = s.outs := rfl
@[simp] theorem updAudio_spare (f : Audio → Audio) : (updAudio s f).spare = s.spare := rfl
@[simp] theorem updAudio_sentinel (f : Audio → Audio) : (updAudio s f).sentinel = s.sentinel := rfl
@[simp] theorem updAudio_gpu (f : Audio → Audio) : (updAudio s f).gpu = s.gpu := rfl
@[simp] theorem updAudio_media (f : Audio → Audio) : (updAudio s f).media = s.media := rfl
@[simp] theorem updAudio_touch (f : Audio → Audio) : (updAudio s f).touch = s.touch := rfl
@[simp] theorem updAudio_haptics (f : Audio → Audio) : (updAudio s f).haptics = s.haptics := rfl
@[simp] theorem updAudio_mem (f : Audio → Audio) : (updAudio s f).mem = s.mem := rfl
@[simp] theorem updAudio_ports (f : Audio → Audio) : (updAudio s f).ports = s.ports := rfl
@[simp] theorem updAudio_slices (f : Audio → Audio) : (updAudio s f).slices = s.slices := rfl
@[simp] theorem updAudio_sec (f : Audio → Audio) : (updAudio s f).sec = s.sec := rfl
@[simp] theorem updAudio_power (f : Audio → Audio) : (updAudio s f).power = s.power := rfl
@[simp] theorem updAudio_update (f : Audio → Audio) : (updAudio s f).update = s.update := rfl
@[simp] theorem updAudio_health (f : Audio → Audio) : (updAudio s f).health = s.health := rfl
@[simp] theorem updSec_pending (f : Secure → Secure) : (updSec s f).pending = s.pending := rfl
@[simp] theorem updSec_now (f : Secure → Secure) : (updSec s f).now = s.now := rfl
@[simp] theorem updSec_mode (f : Secure → Secure) : (updSec s f).mode = s.mode := rfl
@[simp] theorem updSec_dieLink (f : Secure → Secure) : (updSec s f).dieLink = s.dieLink := rfl
@[simp] theorem updSec_isolated (f : Secure → Secure) : (updSec s f).isolated = s.isolated := rfl
@[simp] theorem updSec_dict (f : Secure → Secure) : (updSec s f).dict = s.dict := rfl
@[simp] theorem updSec_store (f : Secure → Secure) : (updSec s f).store = s.store := rfl
@[simp] theorem updSec_sregs (f : Secure → Secure) : (updSec s f).sregs = s.sregs := rfl
@[simp] theorem updSec_dram (f : Secure → Secure) : (updSec s f).dram = s.dram := rfl
@[simp] theorem updSec_stores (f : Secure → Secure) : (updSec s f).stores = s.stores := rfl
@[simp] theorem updSec_dramLost (f : Secure → Secure) : (updSec s f).dramLost = s.dramLost := rfl
@[simp] theorem updSec_emitted (f : Secure → Secure) : (updSec s f).emitted = s.emitted := rfl
@[simp] theorem updSec_free (f : Secure → Secure) : (updSec s f).free = s.free := rfl
@[simp] theorem updSec_net (f : Secure → Secure) : (updSec s f).net = s.net := rfl
@[simp] theorem updSec_tb (f : Secure → Secure) : (updSec s f).tb = s.tb := rfl
@[simp] theorem updSec_hive (f : Secure → Secure) : (updSec s f).hive = s.hive := rfl
@[simp] theorem updSec_fio (f : Secure → Secure) : (updSec s f).fio = s.fio := rfl
@[simp] theorem updSec_fioUnknown (f : Secure → Secure) : (updSec s f).fioUnknown = s.fioUnknown := rfl
@[simp] theorem updSec_lasts (f : Secure → Secure) : (updSec s f).lasts = s.lasts := rfl
@[simp] theorem updSec_outs (f : Secure → Secure) : (updSec s f).outs = s.outs := rfl
@[simp] theorem updSec_spare (f : Secure → Secure) : (updSec s f).spare = s.spare := rfl
@[simp] theorem updSec_sentinel (f : Secure → Secure) : (updSec s f).sentinel = s.sentinel := rfl
@[simp] theorem updSec_gpu (f : Secure → Secure) : (updSec s f).gpu = s.gpu := rfl
@[simp] theorem updSec_media (f : Secure → Secure) : (updSec s f).media = s.media := rfl
@[simp] theorem updSec_touch (f : Secure → Secure) : (updSec s f).touch = s.touch := rfl
@[simp] theorem updSec_haptics (f : Secure → Secure) : (updSec s f).haptics = s.haptics := rfl
@[simp] theorem updSec_audio (f : Secure → Secure) : (updSec s f).audio = s.audio := rfl
@[simp] theorem updSec_mem (f : Secure → Secure) : (updSec s f).mem = s.mem := rfl
@[simp] theorem updSec_ports (f : Secure → Secure) : (updSec s f).ports = s.ports := rfl
@[simp] theorem updSec_slices (f : Secure → Secure) : (updSec s f).slices = s.slices := rfl
@[simp] theorem updSec_power (f : Secure → Secure) : (updSec s f).power = s.power := rfl
@[simp] theorem updSec_update (f : Secure → Secure) : (updSec s f).update = s.update := rfl
@[simp] theorem updSec_health (f : Secure → Secure) : (updSec s f).health = s.health := rfl
@[simp] theorem updUpdate_pending (f : Update → Update) : (updUpdate s f).pending = s.pending := rfl
@[simp] theorem updUpdate_now (f : Update → Update) : (updUpdate s f).now = s.now := rfl
@[simp] theorem updUpdate_mode (f : Update → Update) : (updUpdate s f).mode = s.mode := rfl
@[simp] theorem updUpdate_dieLink (f : Update → Update) : (updUpdate s f).dieLink = s.dieLink := rfl
@[simp] theorem updUpdate_isolated (f : Update → Update) : (updUpdate s f).isolated = s.isolated := rfl
@[simp] theorem updUpdate_dict (f : Update → Update) : (updUpdate s f).dict = s.dict := rfl
@[simp] theorem updUpdate_store (f : Update → Update) : (updUpdate s f).store = s.store := rfl
@[simp] theorem updUpdate_sregs (f : Update → Update) : (updUpdate s f).sregs = s.sregs := rfl
@[simp] theorem updUpdate_dram (f : Update → Update) : (updUpdate s f).dram = s.dram := rfl
@[simp] theorem updUpdate_stores (f : Update → Update) : (updUpdate s f).stores = s.stores := rfl
@[simp] theorem updUpdate_dramLost (f : Update → Update) : (updUpdate s f).dramLost = s.dramLost := rfl
@[simp] theorem updUpdate_emitted (f : Update → Update) : (updUpdate s f).emitted = s.emitted := rfl
@[simp] theorem updUpdate_free (f : Update → Update) : (updUpdate s f).free = s.free := rfl
@[simp] theorem updUpdate_net (f : Update → Update) : (updUpdate s f).net = s.net := rfl
@[simp] theorem updUpdate_tb (f : Update → Update) : (updUpdate s f).tb = s.tb := rfl
@[simp] theorem updUpdate_hive (f : Update → Update) : (updUpdate s f).hive = s.hive := rfl
@[simp] theorem updUpdate_fio (f : Update → Update) : (updUpdate s f).fio = s.fio := rfl
@[simp] theorem updUpdate_fioUnknown (f : Update → Update) : (updUpdate s f).fioUnknown = s.fioUnknown := rfl
@[simp] theorem updUpdate_lasts (f : Update → Update) : (updUpdate s f).lasts = s.lasts := rfl
@[simp] theorem updUpdate_outs (f : Update → Update) : (updUpdate s f).outs = s.outs := rfl
@[simp] theorem updUpdate_spare (f : Update → Update) : (updUpdate s f).spare = s.spare := rfl
@[simp] theorem updUpdate_sentinel (f : Update → Update) : (updUpdate s f).sentinel = s.sentinel := rfl
@[simp] theorem updUpdate_gpu (f : Update → Update) : (updUpdate s f).gpu = s.gpu := rfl
@[simp] theorem updUpdate_media (f : Update → Update) : (updUpdate s f).media = s.media := rfl
@[simp] theorem updUpdate_touch (f : Update → Update) : (updUpdate s f).touch = s.touch := rfl
@[simp] theorem updUpdate_haptics (f : Update → Update) : (updUpdate s f).haptics = s.haptics := rfl
@[simp] theorem updUpdate_audio (f : Update → Update) : (updUpdate s f).audio = s.audio := rfl
@[simp] theorem updUpdate_mem (f : Update → Update) : (updUpdate s f).mem = s.mem := rfl
@[simp] theorem updUpdate_ports (f : Update → Update) : (updUpdate s f).ports = s.ports := rfl
@[simp] theorem updUpdate_slices (f : Update → Update) : (updUpdate s f).slices = s.slices := rfl
@[simp] theorem updUpdate_sec (f : Update → Update) : (updUpdate s f).sec = s.sec := rfl
@[simp] theorem updUpdate_power (f : Update → Update) : (updUpdate s f).power = s.power := rfl
@[simp] theorem updUpdate_health (f : Update → Update) : (updUpdate s f).health = s.health := rfl

/-! The end of a command: it keeps the queue of the state it began in, empties the list of writes, and leaves the rest. -/

variable (t : State)

@[simp] theorem finish_pending : (finish s t).pending = s.pending := rfl
@[simp] theorem finish_stores : (finish s t).stores = [] := rfl
@[simp] theorem finish_dramLost : (finish s t).dramLost = false := rfl
@[simp] theorem finish_now : (finish s t).now = t.now := rfl
@[simp] theorem finish_mode : (finish s t).mode = t.mode := rfl
@[simp] theorem finish_dieLink : (finish s t).dieLink = t.dieLink := rfl
@[simp] theorem finish_isolated : (finish s t).isolated = t.isolated := rfl
@[simp] theorem finish_dict : (finish s t).dict = t.dict := rfl
@[simp] theorem finish_store : (finish s t).store = t.store := rfl
@[simp] theorem finish_sregs : (finish s t).sregs = t.sregs := rfl
@[simp] theorem finish_emitted : (finish s t).emitted = t.emitted := rfl
@[simp] theorem finish_free : (finish s t).free = t.free := rfl
@[simp] theorem finish_net : (finish s t).net = t.net := rfl
@[simp] theorem finish_tb : (finish s t).tb = t.tb := rfl
@[simp] theorem finish_hive : (finish s t).hive = t.hive := rfl
@[simp] theorem finish_fio : (finish s t).fio = t.fio := rfl
@[simp] theorem finish_fioUnknown : (finish s t).fioUnknown = t.fioUnknown := rfl
@[simp] theorem finish_lasts : (finish s t).lasts = t.lasts := rfl
@[simp] theorem finish_outs : (finish s t).outs = t.outs := rfl
@[simp] theorem finish_spare : (finish s t).spare = t.spare := rfl
@[simp] theorem finish_sentinel : (finish s t).sentinel = t.sentinel := rfl
@[simp] theorem finish_gpu : (finish s t).gpu = t.gpu := rfl
@[simp] theorem finish_media : (finish s t).media = t.media := rfl
@[simp] theorem finish_touch : (finish s t).touch = t.touch := rfl
@[simp] theorem finish_haptics : (finish s t).haptics = t.haptics := rfl
@[simp] theorem finish_audio : (finish s t).audio = t.audio := rfl
@[simp] theorem finish_mem : (finish s t).mem = t.mem := rfl
@[simp] theorem finish_ports : (finish s t).ports = t.ports := rfl
@[simp] theorem finish_slices : (finish s t).slices = t.slices := rfl
@[simp] theorem finish_sec : (finish s t).sec = t.sec := rfl
@[simp] theorem finish_power : (finish s t).power = t.power := rfl
@[simp] theorem finish_update : (finish s t).update = t.update := rfl
@[simp] theorem finish_health : (finish s t).health = t.health := rfl

end Sys2Proof.Machine
end

