-- ==== Sys2Proof/Laws/Ops.lean ====
section
/-! SUPPORT. The named operations over the parts of the state, the dictionary and DRAM: a read after a write of the same part
gives what was written, and a write leaves every other part alone. -/

namespace Sys2Proof.Machine

/-! ### Vectors -/

theorem vecAt_vecMod_same {α : Type} {n : Nat} (v : Vector α n) (i : Nat) (f : α → α) (d : α) (h : i < n) :
    vecAt (vecMod v i f) i d = f (vecAt v i d) := by
  simp [vecAt, vecMod, h]

theorem vecAt_vecMod_ne {α : Type} {n : Nat} (v : Vector α n) (i j : Nat) (f : α → α) (d : α) (h : i ≠ j) :
    vecAt (vecMod v i f) j d = vecAt v j d := by
  unfold vecAt vecMod
  split
  · simp [h]
  · rfl

/-! ### Parts of the state -/

variable (s : State)

theorem outAt_updOut (i : Nat) (f : Output → Output) (h : i < 8) : outAt (updOut s i f) i = f (outAt s i) :=
  vecAt_vecMod_same _ _ _ _ h
theorem outAt_updOut_ne (i j : Nat) (f : Output → Output) (h : i ≠ j) : outAt (updOut s i f) j = outAt s j :=
  vecAt_vecMod_ne _ _ _ _ _ h
theorem sliceAt_updSlice (i : Nat) (f : Slice → Slice) (h : i < 32) : sliceAt (updSlice s i f) i = f (sliceAt s i) :=
  vecAt_vecMod_same _ _ _ _ h
theorem sliceAt_updSlice_ne (i j : Nat) (f : Slice → Slice) (h : i ≠ j) : sliceAt (updSlice s i f) j = sliceAt s j :=
  vecAt_vecMod_ne _ _ _ _ _ h
theorem portAt_updPort (i : Nat) (f : Port → Port) (h : i < 4) : portAt (updPort s i f) i = f (portAt s i) :=
  vecAt_vecMod_same _ _ _ _ h
theorem portAt_updPort_ne (i j : Nat) (f : Port → Port) (h : i ≠ j) : portAt (updPort s i f) j = portAt s j :=
  vecAt_vecMod_ne _ _ _ _ _ h
theorem ctxAt_updCtx (i : Nat) (f : GpuCtx → GpuCtx) (h : i < 34) : ctxAt (updCtx s i f) i = f (ctxAt s i) :=
  vecAt_vecMod_same _ _ _ _ h
theorem ctxAt_updCtx_ne (i j : Nat) (f : GpuCtx → GpuCtx) (h : i ≠ j) : ctxAt (updCtx s i f) j = ctxAt s j :=
  vecAt_vecMod_ne _ _ _ _ _ h
theorem clusterAt_updCluster (i : Nat) (f : Cluster → Cluster) (h : i < 12) : clusterAt (updCluster s i f) i = f (clusterAt s i) :=
  vecAt_vecMod_same _ _ _ _ h
theorem clusterAt_updCluster_ne (i j : Nat) (f : Cluster → Cluster) (h : i ≠ j) : clusterAt (updCluster s i f) j = clusterAt s j :=
  vecAt_vecMod_ne _ _ _ _ _ h
theorem feedAt_updFeed (i : Nat) (f : Feed → Feed) (h : i < 32) : feedAt (updFeed s i f) i = f (feedAt s i) :=
  vecAt_vecMod_same _ _ _ _ h
theorem feedAt_updFeed_ne (i j : Nat) (f : Feed → Feed) (h : i ≠ j) : feedAt (updFeed s i f) j = feedAt s j :=
  vecAt_vecMod_ne _ _ _ _ _ h
theorem captureAt_updCapture (i : Nat) (f : Capture → Capture) (h : i < 2) : captureAt (updCapture s i f) i = f (captureAt s i) :=
  vecAt_vecMod_same _ _ _ _ h
theorem captureAt_updCapture_ne (i j : Nat) (f : Capture → Capture) (h : i ≠ j) : captureAt (updCapture s i f) j = captureAt s j :=
  vecAt_vecMod_ne _ _ _ _ _ h
theorem decRingAt_updDecRing (i : Nat) (f : DecRing → DecRing) (h : i < 32) : decRingAt (updDecRing s i f) i = f (decRingAt s i) :=
  vecAt_vecMod_same _ _ _ _ h
theorem decRingAt_updDecRing_ne (i j : Nat) (f : DecRing → DecRing) (h : i ≠ j) : decRingAt (updDecRing s i f) j = decRingAt s j :=
  vecAt_vecMod_ne _ _ _ _ _ h
theorem touchAt_updTouch (i : Nat) (f : TouchCh → TouchCh) (h : i < 8) : touchAt (updTouch s i f) i = f (touchAt s i) :=
  vecAt_vecMod_same _ _ _ _ h
theorem touchAt_updTouch_ne (i j : Nat) (f : TouchCh → TouchCh) (h : i ≠ j) : touchAt (updTouch s i f) j = touchAt s j :=
  vecAt_vecMod_ne _ _ _ _ _ h
theorem hapticAt_updHaptic (i : Nat) (f : HapticCh → HapticCh) (h : i < 8) : hapticAt (updHaptic s i f) i = f (hapticAt s i) :=
  vecAt_vecMod_same _ _ _ _ h
theorem hapticAt_updHaptic_ne (i j : Nat) (f : HapticCh → HapticCh) (h : i ≠ j) : hapticAt (updHaptic s i f) j = hapticAt s j :=
  vecAt_vecMod_ne _ _ _ _ _ h
theorem streamAt_updStream (i : Nat) (f : Stream → Stream) (h : i < 64) : streamAt (updStream s i f) i = f (streamAt s i) :=
  vecAt_vecMod_same _ _ _ _ h
theorem streamAt_updStream_ne (i j : Nat) (f : Stream → Stream) (h : i ≠ j) : streamAt (updStream s i f) j = streamAt s j :=
  vecAt_vecMod_ne _ _ _ _ _ h
theorem gainAt_updGain (i : Nat) (f : GainCtl → GainCtl) (h : i < 256) : gainAt (updGain s i f) i = f (gainAt s i) :=
  vecAt_vecMod_same _ _ _ _ h
theorem gainAt_updGain_ne (i j : Nat) (f : GainCtl → GainCtl) (h : i ≠ j) : gainAt (updGain s i f) j = gainAt s j :=
  vecAt_vecMod_ne _ _ _ _ _ h
theorem checkAt_updCheck (i : Nat) (f : CheckCh → CheckCh) (h : i < 16) : checkAt (updCheck s i f) i = f (checkAt s i) :=
  vecAt_vecMod_same _ _ _ _ h
theorem checkAt_updCheck_ne (i j : Nat) (f : CheckCh → CheckCh) (h : i ≠ j) : checkAt (updCheck s i f) j = checkAt s j :=
  vecAt_vecMod_ne _ _ _ _ _ h
theorem slotAt_updSlot (i : Nat) (f : Slot → Slot) (h : i < 4) : slotAt (updSlot s i f) i = f (slotAt s i) :=
  vecAt_vecMod_same _ _ _ _ h
theorem slotAt_updSlot_ne (i j : Nat) (f : Slot → Slot) (h : i ≠ j) : slotAt (updSlot s i f) j = slotAt s j :=
  vecAt_vecMod_ne _ _ _ _ _ h
theorem mailboxAt_updMailbox (i : Nat) (f : Mailbox → Mailbox) (h : i < 4) : mailboxAt (updMailbox s i f) i = f (mailboxAt s i) :=
  vecAt_vecMod_same _ _ _ _ h
theorem mailboxAt_updMailbox_ne (i j : Nat) (f : Mailbox → Mailbox) (h : i ≠ j) : mailboxAt (updMailbox s i f) j = mailboxAt s j :=
  vecAt_vecMod_ne _ _ _ _ _ h

/-! ### Dictionary values -/

/-- A number set in an entry is what the entry holds. -/
theorem entryNum_setNum (ix sub v : Nat) : entryNum (setNum s ix sub v) ix sub = v := by
  simp [entryNum, entry, setNum, setEntry, SMap.set, unsetVal, SMap.get_put, DVal.toNat]

/-- A number set in an entry leaves every entry of another key. -/
theorem entry_setNum_ne (ix sub v jx jsub : Nat) (h : dkey jx jsub ≠ dkey ix sub) :
    entry (setNum s ix sub v) jx jsub = entry s jx jsub := by
  simp [entry, setNum, setEntry, SMap.set, unsetVal, SMap.get_put, h]

theorem entryNum_setNum_ne (ix sub v jx jsub : Nat) (h : dkey jx jsub ≠ dkey ix sub) :
    entryNum (setNum s ix sub v) jx jsub = entryNum s jx jsub := by
  simp only [entryNum, entry_setNum_ne s ix sub v jx jsub h]

/-- A counter below its top is raised by one. -/
theorem entryNum_bump (ix sub : Nat) (h : entryNum s ix sub + 1 < 2 ^ 32) :
    entryNum (bump s ix sub) ix sub = entryNum s ix sub + 1 := by
  unfold bump
  simp only [h, if_true]
  exact entryNum_setNum _ _ _ _

/-! ### Slice registers -/

/-- A non-zero value set in a slice register is what it reads as. -/
theorem sreg_setSreg (k off v : Nat) (h : v ≠ 0) : sreg (setSreg s k off v) k off = v := by
  simp [sreg, setSreg, SMap.set, zeroReg, h, SMap.get_put]

theorem sreg_setSreg_ne (k off v j o : Nat) (hv : v ≠ 0) (h : skey j o ≠ skey k off) :
    sreg (setSreg s k off v) j o = sreg s j o := by
  simp [sreg, setSreg, SMap.set, zeroReg, hv, SMap.get_put, h]

/-! ### DRAM -/

/-- The writes of a command in order give each byte the newest value written to it. -/
theorem applyStores_get {m : SMap Byte} (h : Memory.wf m = true) (ws : List (Nat × Byte)) (a : Nat) :
    SMap.get dramDefault (applyStores m ws) a =
      match ws.find? fun w => w.1 = a with
      | some w => w.2
      | none => SMap.get dramDefault m a := by
  induction ws with
  | nil => rfl
  | cons w ws ih =>
    have hw : applyStores m (w :: ws) = SMap.set dramDefault (applyStores m ws) w.1 w.2 := by
      simp [applyStores, SMap.setAll]
    rw [hw, SMap.get_set _ (Memory.wf_applyStores h ws), ih]
    by_cases hk : a = w.1
    · subst hk; simp
    · have hk' : ¬ w.1 = a := fun e => hk e.symm
      simp [hk, hk']

/-- What a byte reads as after a command is what it read as at the command's end (R384). -/
theorem memByte_finish {s t : State} (hd : t.dram = s.dram) (hl : t.dramLost = false) (h : Memory.wf s.dram = true) (a : Nat) :
    memByte (finish s t) a = memByte t a := by
  have key := applyStores_get h t.stores a
  unfold memByte
  simp only [finish, hl, Bool.false_eq_true, if_false, List.find?_nil, hd]
  exact key

/-- A command that writes nothing to DRAM leaves every byte. -/
theorem memByte_finish_of_same {s t : State} (hd : t.dram = s.dram) (hl : t.dramLost = false) (hs : t.stores = s.stores)
    (h : Memory.wf s.dram = true) (a : Nat) : memByte (finish s t) a = memByte s a := by
  rw [memByte_finish hd hl h]
  simp only [memByte, hs, hd]

/-- DRAM stays canonical over a command. -/
theorem wf_finish {s t : State} (h : Memory.wf s.dram = true) : Memory.wf (finish s t).dram = true := by
  unfold finish
  dsimp only
  split
  · exact Memory.wf_applyStores Memory.wf_nil _
  · exact Memory.wf_applyStores h _

end Sys2Proof.Machine
end

