-- ==== Sys2Proof/Laws/Exec.lean ====
section
/-! SUPPORT. What a command can do, once for all: it runs to its end, and its end is `finish` of what it did. -/

namespace Sys2Proof.Machine

/-- Every command ends in a next state, which is the end of some state that its meaning reaches. -/
theorem exec_finish (i : Instr) (s : State) : ∃ t, exec i s = .next (finish s t) := by
  cases i <;> exact ⟨_, rfl⟩

/-- The step on a queue with a command in front runs that command on the rest. -/
theorem step_cons (s : State) (c : Instr) (rest : List Instr) :
    step { s with pending := c :: rest } = exec c { s with pending := rest } := rfl

/-- The step on an empty queue changes nothing. -/
theorem step_nil (s : State) (h : s.pending = []) : step s = .next s := by
  unfold step
  rw [h]

end Sys2Proof.Machine
end

