-- ==== Sys2Proof/Laws/Frames.lean ====
section
/-! SUPPORT. What the shared operations leave unchanged. An operation's frame is one equation: the state with the fields that
the operation may write blanked is the same before and after it. -/

namespace Sys2Proof.Machine

/-- A reading of the state that every step of a repetition keeps, the repetition keeps. -/
theorem each_same {α β : Type} (p : State → β) {f : State → α → State} (h : ∀ s a, p (f s a) = p s) (xs : List α) (s : State) :
    p (each xs s f) = p s := by
  induction xs generalizing s with
  | nil => rfl
  | cons x xs ih => exact (ih (f s x)).trans (h s x)

/-! ### Dictionary counters and faults -/

/-- The state without what counters change. -/
def lessCounters (s : State) : State := { s with dict := [], free := 0 }

theorem bump_frame (s : State) (ix sub : Nat) : lessCounters (bump s ix sub) = lessCounters s := by
  unfold bump
  dsimp only
  split
  · rfl
  · rfl

theorem bumpBy_frame (s : State) (ix sub k : Nat) : lessCounters (bumpBy s ix sub k) = lessCounters s := by
  unfold bumpBy; dsimp only; split <;> rfl

/-- The state without what reports of faults change: records, counters, EMCYs sent and waiting. -/
def lessFaults (s : State) : State :=
  { s with health := resetHealth, dict := [], emitted := [], free := 0, net := resetNet }

theorem lessFaults_of_counters {s t : State} (h : lessCounters s = lessCounters t) : lessFaults s = lessFaults t := by
  have := congrArg lessFaults h
  exact this

theorem emit_lessFaults (s : State) (e : Emit) : lessFaults (emit s e) = lessFaults s := rfl
theorem setNum_lessFaults (s : State) (ix sub v : Nat) : lessFaults (setNum s ix sub v) = lessFaults s := rfl
theorem putRecord_lessFaults (s : State) (i : Nat) (r : Option FaultRec) : lessFaults (putRecord s i r) = lessFaults s := rfl
theorem updInsp_lessFaults (s : State) (f : Inspection → Inspection) : lessFaults (updInsp s f) = lessFaults s := rfl

theorem canSend_frame (s : State) (cob : Nat) (b : Bytes) : lessFaults (canSend s cob b) = lessFaults s :=
  each_same lessFaults (f := fun s k => emit s (.can k cob b)) (fun s k => emit_lessFaults s (.can k cob b)) _ _

theorem sendCell_frame (s : State) (rev : Bool) (c : Bytes) : lessFaults (sendCell s rev c) = lessFaults s := by
  unfold sendCell; repeat' split
  all_goals rfl

theorem pushErrorCode_frame (s : State) (code : Nat) : lessFaults (pushErrorCode s code) = lessFaults s := by
  unfold pushErrorCode
  split
  · rfl
  · dsimp only
    rw [setNum_lessFaults, setNum_lessFaults]
    exact each_same lessFaults (f := fun s k => setNum s 0x1003 (k + 1) (entryNum s 0x1003 k))
      (fun s k => setNum_lessFaults s _ _ _) _ _

theorem transmitEmcy_frame (s : State) (e : Emcy) : lessFaults (transmitEmcy s e) = lessFaults s := by
  unfold transmitEmcy
  extract_lets own both s1 s2
  have h1 : lessFaults s1 = lessFaults s := by
    dsimp only [s1]; split
    · exact sendCell_frame _ _ _
    · exact canSend_frame _ _ _
  have h2 : lessFaults s2 = lessFaults s := by
    dsimp only [s2]; split
    · exact (pushErrorCode_frame _ _).trans h1
    · exact h1
  split <;> exact h2

theorem sendEmcy_frame (s : State) (e : Emcy) : lessFaults (sendEmcy s e) = lessFaults s := by
  unfold sendEmcy
  repeat' split
  · rfl
  · rfl
  · exact transmitEmcy_frame _ _

theorem recordEmcy_frame (s : State) (r : FaultRec) : lessFaults (recordEmcy s r) = lessFaults s := by
  unfold recordEmcy
  split
  · rfl
  · exact sendEmcy_frame _ _

theorem openRecord_frame (s : State) (i key effect code : Nat) :
    lessFaults (openRecord s i key effect code) = lessFaults s := by
  unfold openRecord
  extract_lets node hive r s1 s2
  have h1 : lessFaults s1 = lessFaults s := lessFaults_of_counters (bump_frame _ _ _) |>.trans rfl
  have h2 : lessFaults s2 = lessFaults s := h1
  split
  · exact (sendCell_frame _ _ _).trans h2
  · exact (recordEmcy_frame _ _).trans h2

/-- A report changes records, counters and EMCYs, and nothing else (R475 to R477). -/
theorem reportWith_frame (s : State) (cls inst effect code : Nat) :
    lessFaults (reportWith s cls inst effect code) = lessFaults s := by
  have hb : lessFaults (bump s 0x5806 0) = lessFaults s := lessFaults_of_counters (bump_frame _ _ _)
  have he : ∀ (s : State) (i : Nat) (r : FaultRec), lessFaults (echoRecord s i r effect) = lessFaults s := fun _ _ _ => rfl
  unfold reportWith
  dsimp only
  repeat' split
  · exact he _ _ _
  · exact openRecord_frame _ _ _ _ _
  · exact (he _ _ _).trans hb
  · exact (openRecord_frame _ _ _ _ _).trans hb

theorem report_frame (s : State) (cls inst effect : Nat) : lessFaults (report s cls inst effect) = lessFaults s :=
  reportWith_frame _ _ _ _ _

theorem clearFault_frame (s : State) (cls inst : Nat) : lessFaults (clearFault s cls inst) = lessFaults s := by
  unfold clearFault
  repeat' split
  · exact putRecord_lessFaults _ _ _
  · rfl
  · rfl

/-! ### Events of a slice -/

/-- The state without what events of a slice change: its registers, the messages and pending bits of its vectors. -/
def lessEvents (s : State) : State := { s with sregs := [], emitted := [], ports := s.ports.map fun p => { p with msixPending := [] }, free := 0 }

theorem raiseVector_frame (s : State) (p e : Nat) : lessEvents (raiseVector s p e) = lessEvents s := by
  unfold raiseVector
  dsimp only
  repeat' split
  all_goals try rfl
  unfold lessEvents updPort vecMod
  dsimp only
  congr 1
  split
  · ext i hi
    by_cases h : p = i
    · subst h; simp
    · simp [h]
  · rfl

theorem raiseCause_frame (s : State) (k c : Nat) : lessEvents (raiseCause s k c) = lessEvents s := by
  unfold raiseCause
  split
  · rfl
  · exact raiseVector_frame _ _ _

theorem sliceEvent_frame (s : State) (k b : Nat) : lessEvents (sliceEvent s k b) = lessEvents s := by
  unfold sliceEvent
  split
  · rfl
  · dsimp only
    split
    · exact raiseCause_frame _ _ _
    · rfl

theorem bumpSreg_frame (s : State) (k off : Nat) : lessEvents (bumpSreg s k off) = lessEvents s := by
  unfold bumpSreg
  dsimp only
  split
  · rfl
  · rfl

/-- A discarded doorbell or start changes registers of events and vectors only (R415, R416). -/
theorem discardStart_frame (s : State) (k : Nat) : lessEvents (discardStart s k) = lessEvents s :=
  (sliceEvent_frame _ _ _).trans (bumpSreg_frame _ _ _)

end Sys2Proof.Machine
end

