-- ==== Sys2Proof/Tests/Slice0.lean ====
section
/-! SUPPORT. Tests: words of the table, ill-formed commands, and for each statement a state and operands that meet its
hypotheses, with what the command then gives. Expected values come from the spec's text and tables. -/

namespace Sys2Proof.Tests

open Sys2Proof.Machine

set_option Elab.async false

/-! ### The states the tests run on -/

/-- The command answers a next state of which p holds. -/
def runs (i : Instr) (s : State) (p : State → Bool) : Bool :=
  match exec i s with
  | .next u => p u
  | _ => false

/-- Nothing is outstanding between two commands. -/
def quiet (s : State) : Bool := Memory.wf s.dram && s.stores.isEmpty && !s.dramLost

/-- A dictionary write that the general checks let through. -/
def opens (s : State) (t : Rrp) (o : Origin) (ix sub v : Nat) : Bool := writeStatus (atTime s t) o ix sub (numData ix sub v) = 0

/-- The status that a dictionary write answered. -/
def answers (u : State) (o : Origin) (ix sub st : Nat) : Bool := u.emitted.head? = some (.status o (dkey ix sub) st)

/-- The service UART and a tick of the reference raster. -/
def svc : Origin := ⟨.svc, 0, 0, 0⟩
def eth : Origin := ⟨.eth, 7, 9, 0⟩
def at_ (f l p : Nat) : Rrp := ⟨f, l, p⟩
def now : Rrp := ⟨100, 10, 0⟩

/-- An output plan of 2 lines and 4 columns, 20 lines in all, on output 0. -/
def plan0 : OutPlan :=
  { out := 0, flags := 0, mult := 1, link := 0, linkRate := 0, bpc := 8, vTotal := 60, vActive := 16, vFront := 4, vSync := 4,
    hTotal := 40, hActive := 4, hFront := 4, hSync := 4, offLine := 100, offPhase := 0, lead := 0 }

def burst0 : BurstPlan :=
  { ch := 0, out := 0, txFirst := 0, txCount := 2, duration := 65536, freqKHz := 400, drive := 0, rates := 63, mode := 0 }

/-- A last with one event of each kind in row (0, 10). -/
def last0 : Last :=
  { identity := [1], family := 0, steppings := 0, margin := 1, rateCode := 1, lRef := 2250, role := 1, opPoint := 1,
    rates := [0x1900, 0x0C80], initialRate := 0, highest := 0,
    items := [⟨0x10, 0, 0, 0xFF, 0, 1, 4⟩, ⟨0, 0, 1, 0, 1000, 3, 0⟩], cycles := 2,
    rows := [⟨0, 10, [⟨1, 0, 0, 0⟩, ⟨2, 0, 0, 5 * 4096 + 3⟩, ⟨3, 0, 0, 0⟩, ⟨4, 0, 0, 0⟩, ⟨5, 0, 0, 1⟩, ⟨6, 0, 0, 0⟩]⟩],
    plans := [plan0], bindings := [⟨0, 0, 0, false, 0xFF000000, []⟩], ctxs := [⟨0, 64, 2, 0⟩], sets := [[100, 100]],
    bursts := [burst0], haptics := List.replicate 8 ⟨true, 0⟩, audio := none,
    checks := [⟨0, 0, 0, 1, 0x1000, 64⟩],
    assign := ⟨[1, 1, 1, 1], [(0, 0, 0)], [], [], 1, [7]⟩, links := [] }

/-- The power controller with every supply and domain on. -/
def powerOn : Power :=
  { resetPower with
    domains := Vector.replicate 18 1, enables := Vector.replicate 6 true, goods := Vector.replicate 6 true,
    oscReady := true, oscEnable := true, resetN := false, step := 9, fioSafe := false, clusterMHz := 1200 }

/-- A device in Run at (100, 10, 0): last 0 active, slice 0 bound to port 0, DRAM of 16 GiB in service and owned by slice 0. -/
def world : State :=
  { State.reset with
    mode := .run, now := now, power := powerOn
    lasts := { resetLasts with
      slots := vecMod resetLasts.slots 0 fun _ => ⟨.valid, [], some last0, 0, false⟩
      active := 1, lastService := 1, cycle := 0, cycleFrame := 100, windowOpen := true,
      monitors := List.replicate 2 freshMonitor }
    mem := { resetMemory with
      bitsN := 34, trained := [0x1900, 0x0C80], rate := 0x1900, groups := Vector.replicate 4 1,
      masks := [0x40, 0x80, 0x100, 0, 0x200, 0x400, 0x800, 0x1000] }
    slices := vecMod (Vector.replicate 32 resetSlice) 0 fun q => { q with st := .active }
    ports := vecMod (Vector.replicate 4 resetPort) 0 fun q => { q with perst := false, link := 2, retryOver := true, msixEnable := true }
    sec := { resetSecure with
      island := 1, grantsInForce := [⟨0, 0x100000, 0x801E0000⟩], grants := [⟨0, 0x100000, 0x801E0000⟩] }
    net := { resetNet with nmt := .operational }
    gpu := { resetGpu with clusters := Vector.replicate 12 ⟨true, false, none, false, false, []⟩ } }

/-- The same in Service, where the service UART may write. -/
def service : State := { world with mode := .service }

/-- A state in Service. -/
def srv (s : State) : State := { s with mode := .service }

/-- Items of a slice's context and of the host accesses of no slice, of 100 bytes a window each, in place of those of `last0`. -/
def contract : State :=
  { world with lasts := { world.lasts with slots := vecMod world.lasts.slots 0 fun q => { q with last := some { last0 with
      items := [⟨0x20, 0, 0, 0, 0, 0, 0⟩, ⟨0x41, 0, 0, 0xFF, 0, 0, 0⟩] } } } }

/-- `Admitted`, as a test. -/
def admitted (s : State) (q : DramReq) : Bool :=
  s.lasts.waiting.isEmpty && dramServing s && s.lasts.windowOpen && match dramItem s q.requester with
    | some (i, _) => !(monitorAt s i).engaged && (monitorAt s i).count + requestBytes s q ≤ allotment s s.lasts.windowSet i
    | none => false

theorem world_quiescent : Quiescent world := ⟨rfl, rfl, rfl⟩

/-! ### The dictionary and its paths (chapter 02) -/

/-- A message of the service UART: operation, entry, payload. -/
def msg (op ix sub : Nat) (p : Bytes) : Msg := ⟨1, op, 0, sub, ix, p.length, 5, 0, p, [], false, false⟩

/-- `Served` for the service UART, as a test. -/
def served (s : State) (m : Msg) (op : Nat) : Bool :=
  dictOn s && !m.short && formatOk (withOp m op) && (withOp m op).op = op && (m.node = 0 || m.node = nodeIdOf s) && openTickets s .svc < 16

/-- `Answered` on the service UART, as a test. -/
def answered (m : Msg) (node st : Nat) (p : Bytes) (u : State) : Bool :=
  let b := msgBytes (replyMsg m node st p)
  u.emitted.head? = some (.reply svc (slipFrame (b ++ leBytes 2 (crcOf crc16Ccitt b))))

/-- `PlainWrite`, as a test. -/
def plain (s : State) (o : Origin) (ix sub : Nat) (r : DRow) (data : Bytes) : Bool :=
  rowOf ix sub = some r && !isDomain ix sub && !r.perPath && writeStatus s o ix sub data = 0 && crossOk s ix sub (leNat data) &&
    ownRule s o ix sub data = none

def heartbeatRow : DRow := { ix := 0x1017, ty := .u16, dflt := .num 1000 }

theorem test_step_front : step { world with pending := [.mbxAck now 0, .resetAssert] } =
    exec (.mbxAck now 0) { world with pending := [.resetAssert] } := rfl
theorem test_step_idle : step world = .next world := rfl
theorem test_read_refused : (served world (msg 1 0x1FF0 0 []) 1 && runs (.read now svc (msg 1 0x1FF0 0 [])) world
    (answered (msg 1 0x1FF0 0 []) 1 0x06020000 [])) = true := by decide +kernel
theorem test_read_value : (served world (msg 1 0x1017 0 []) 1 && readStatus (atTime world now) 0x1017 0 = 0 &&
    runs (.read now svc (msg 1 0x1017 0 [])) world (answered (msg 1 0x1017 0 []) 1 0 [0xE8, 3])) = true := by decide +kernel
theorem test_read_seg : (served world (msg 4 0x1017 0 [1, 0, 0, 0]) 4 && readStatus (atTime world now) 0x1017 0 = 0 &&
    runs (.readSeg now svc (msg 4 0x1017 0 [1, 0, 0, 0])) world (answered (msg 4 0x1017 0 [1, 0, 0, 0]) 1 0 [3])) = true := by decide +kernel
theorem test_write : (served service (msg 2 0x1017 0 [5, 0]) 2 && plain (atTime service now) svc 0x1017 0 heartbeatRow [5, 0] &&
    runs (.write now svc (msg 2 0x1017 0 [5, 0]) false) service (fun u => answered (msg 2 0x1017 0 [5, 0]) 1 0 [] u &&
      entryNum u 0x1017 0 = 5 && SMap.get unsetVal u.store (dkey 0x1017 0) = .num 5)) = true := by decide +kernel
def download : Usdo := ⟨0, 1, true, 0x1017, 0, [7, 0]⟩
theorem test_usdo : (busServed world 0 && download.node = nodeIdOf world && !retrieval 0x1017 &&
    openTickets world .can < 16 && plain (atTime world now) canOrigin 0x1017 0 heartbeatRow [7, 0] &&
    runs (.usdoRequest now download false) world (fun u => u.emitted = [.usdo 0 0x1017 0 []] && entryNum u 0x1017 0 = 7)) = true := by
  decide +kernel
def mapped : State := { world with dict := [(dkey 0x1400 1, .num 0x201), (dkey 0x1600 0, .num 1), (dkey 0x1600 1, .num 0x10170010)] }
theorem test_rpdo : (busServed mapped 0 && pdoOn mapped 0x1400 0x1600 0 && pdoMap mapped 0x1600 = [0x10170010] &&
    bits 0x10170010 7 0 / 8 = 2 && plain (atTime mapped now) canOrigin 0x1017 0 heartbeatRow [9, 0] &&
    runs (.rpdoReceive now 0 0 [9, 0]) mapped (fun u => entryNum u 0x1017 0 = 9)) = true := by decide +kernel

/-! Tickets -/

def ticket (no : Nat) (held : Bool) (final : Option (Nat × Bytes)) : Ticket := ⟨no, svc, msg 2 0x1017 0 [5, 0], dkey 0x1017 0, held, none, final⟩
def ticketed (t : Ticket) : State := { service with net := { service.net with tickets := [t] } }
def ask : Msg := msg 3 0x1FA0 0 [9, 0, 0, 0]
theorem test_ticket_unknown : (served world ask 3 && ownTicket (atTime world now) svc 9 = none &&
    runs (.ticket now svc ask) world (answered ask 1 stTicketUnknown [])) = true := by decide +kernel
theorem test_ticket_pending : (served (ticketed (ticket 9 true none)) ask 3 &&
    ownTicket (atTime (ticketed (ticket 9 true none)) now) svc 9 = some (ticket 9 true none) &&
    runs (.ticket now svc ask) (ticketed (ticket 9 true none)) (fun u => answered ask 1 1 [9, 0, 0, 0] u &&
      u.net.tickets = [ticket 9 true none])) = true := by decide +kernel
theorem test_ticket_final : (served (ticketed (ticket 9 false (some (3, [])))) ask 3 &&
    ownTicket (atTime (ticketed (ticket 9 false (some (3, [])))) now) svc 9 = some (ticket 9 false (some (3, []))) &&
    runs (.ticket now svc ask) (ticketed (ticket 9 false (some (3, [])))) (fun u => answered ask 1 3 [] u &&
      u.net.tickets = [])) = true := by decide +kernel
theorem test_access_final : (dictOn (ticketed (ticket 9 true none)) && plain (atTime service now) svc 0x1017 0 heartbeatRow [5, 0] &&
    runs (.accessFinal now 9) (ticketed (ticket 9 true none)) (fun u => u.net.tickets = [ticket 9 false (some (0, []))] &&
      entryNum u 0x1017 0 = 5)) = true := by decide +kernel
theorem test_ticket_expire : runs (.ticketExpire now 9) (ticketed (ticket 9 false (some (0, [])))) (fun u => u.net.tickets = []) &&
    runs (.ticketExpire now 9) (ticketed (ticket 9 true none)) (fun u => u.net.tickets = [ticket 9 true none]) = true := by decide +kernel

/-! DOMAIN writes -/

def segs (ix sub : Nat) (o : Origin) (l : List (Nat × Bytes)) : State :=
  { service with net := { service.net with domains := [⟨dkey ix sub, o, l⟩] } }
/-- A well-formed effect of one sample (Table 12-1). -/
def effect0 : Bytes := [1, 0, 1, 0, 50, 0, 64, 0, 0, 0, 0, 0] ++ leBytes 4 (crcOf crc32c [1, 0]) ++ [1, 0]
def seg0 : Msg := msg 5 0x4808 0 [0, 0, 0, 0, 1, 2]
theorem test_segment_first : (served service seg0 5 && domainStatus (atTime service now) svc 0x4808 0 = 0 && segmentStatus (atTime service now) 0x4808 0 = 0 &&
    6 ≤ entrySize 0x4808 0 && runs (.writeSeg now svc seg0) service (fun u => answered seg0 1 0 [] u &&
      openDomain u (dkey 0x4808 0) = some ⟨dkey 0x4808 0, svc, [(0, [1, 2])]⟩)) = true := by decide +kernel
theorem test_segment_load : (domainStatus (atTime service now) svc 0x2211 2 = 0 && segmentStatus (atTime service now) 0x2211 2 = 0 &&
    runs (.writeSeg now svc (msg 5 0x2211 2 [1, 0, 0, 0, 5])) service (fun u => (slotAt u 1).st = .loading && (slotAt u 1).image = [0, 5]) &&
    domainStatus (atTime service now) svc 0x5C01 0 = 0 && segmentStatus (atTime service now) 0x5C01 0 = 0 &&
    runs (.writeSeg now svc (msg 5 0x5C01 0 [0, 0, 0, 0, 5])) service (fun u => bankAt u 1 = ⟨1, [5], []⟩)) = true := by decide +kernel
theorem test_segment_joins : (sameSource svc svc && runs (.writeSeg now svc seg0) (segs 0x4808 0 svc [(2, [9])]) (fun u => answered seg0 1 0 [] u &&
      openDomain u (dkey 0x4808 0) = some ⟨dkey 0x4808 0, svc, [(2, [9]), (0, [1, 2])]⟩)) = true := by decide +kernel
theorem test_segment_busy : (!sameSource eth svc && runs (.writeSeg now svc seg0) (segs 0x4808 0 eth [(2, [9])]) (fun u => answered seg0 1 3 [] u &&
      u.net.domains = (segs 0x4808 0 eth [(2, [9])]).net.domains)) = true := by decide +kernel
def end0 (ix sub n : Nat) : Msg := msg 6 ix sub (leBytes 4 n)
theorem test_end_gap : (served (segs 0x4808 0 svc [(2, [9])]) (end0 0x4808 0 3) 6 && domainStatus (atTime (segs 0x4808 0 svc [(2, [9])]) now) svc 0x4808 0 = 0 &&
    !segmentsOk [(2, [9])] 3 && runs (.writeSegEnd now svc (end0 0x4808 0 3) false) (segs 0x4808 0 svc [(2, [9])])
      (fun u => answered (end0 0x4808 0 3) 1 0x06070010 [] u && u.net.domains = [])) = true := by decide +kernel
theorem test_end_effect : (isEffect 0x4808 && !effectBusy (segs 0x4808 0 svc []) 0 && effectCheck effect0 = 0 && segmentsOk [(0, effect0)] 18 &&
    runs (.writeSegEnd now svc (end0 0x4808 0 18) false) (segs 0x4808 0 svc [(0, effect0)])
      (fun u => answered (end0 0x4808 0 18) 1 0 [] u && entry u 0x4808 0 = .raw effect0 && u.net.domains = [])) = true := by decide +kernel
theorem test_end_bad_effect : (effectCheck [1, 2] = 0x06070010 &&
    runs (.writeSegEnd now svc (end0 0x4808 0 2) false) (segs 0x4808 0 svc [(0, [1, 2])])
      (fun u => answered (end0 0x4808 0 2) 1 0x06070010 [] u && entry u 0x4808 0 = .raw [])) = true := by decide +kernel
theorem zero_leNat (l : Bytes) (h : ∀ x ∈ l, x = 0) : leNat l = 0 := by
  induction l with
  | nil => rfl
  | cons b bs ih => rw [leNat, ih fun x hx => h x (List.mem_cons_of_mem _ hx), h b List.mem_cons_self]; rfl
theorem zero_u16 (n i : Nat) : u16 (zeroBytes n) i = 0 :=
  zero_leNat _ fun _ hx => List.eq_of_mem_replicate (List.mem_of_mem_drop (List.mem_of_mem_take hx))
theorem test_gamma_zero : gammaStatus (zeroBytes 2048) = 0 := by
  have h : ((rangeFrom 0 1024).all fun i => u16 (zeroBytes 2048) (2 * i) ≤ 4095) = true :=
    List.all_eq_true.2 fun i _ => by rw [zero_u16]; rfl
  have hl : ¬ (zeroBytes 2048).length ≠ 2048 := Decidable.not_not.2 List.length_replicate
  have e : gammaStatus (zeroBytes 2048) = if (rangeFrom 0 1024).all (fun i => u16 (zeroBytes 2048) (2 * i) ≤ 4095) then stOk else stRange :=
    if_neg hl
  exact e.trans (if_pos h)
theorem test_end_gamma : (isGamma 0x3006 && segmentsOk [(0, zeroBytes 2048)] 2048 && served (segs 0x3006 0 svc []) (end0 0x3006 0 2048) 6 &&
    domainStatus (atTime (segs 0x3006 0 svc []) now) svc 0x3006 0 = 0) = true := by decide +kernel
theorem test_end_bad_gamma : (gammaStatus [1] = 0x06070010 && runs (.writeSegEnd now svc (end0 0x3006 0 1) false) (segs 0x3006 0 svc [(0, [1])])
    (fun u => answered (end0 0x3006 0 1) 1 0x06070010 [] u && entry u 0x3006 0 = entry service 0x3006 0)) = true := by decide +kernel
theorem test_end_edid : (domainStatus (atTime service now) svc 0x5703 1 = 0 && runs (.writeSegEnd now svc (end0 0x5703 1 256) false)
    (segs 0x5703 1 svc [(0, zeroBytes 256)]) (fun u => answered (end0 0x5703 1 256) 1 0 [] u && entry u 0x5703 1 = .raw (zeroBytes 256) &&
      (captureAt u 0).hpdHold)) = true := by decide +kernel
theorem test_end_load : runs (.writeSegEnd now svc (end0 0x2211 2 1) false) (segs 0x2211 2 svc [(0, [1])])
    (fun u => writePending u (dkey 0x2211 2) && u.net.domains = []) = true := by decide +kernel

/-! The mailbox and the service UART's frames -/

def box (q : Mailbox) : State := { world with net := { world.net with mailboxes := vecMod world.net.mailboxes 0 fun _ => q } }
def badRead : Mailbox := { resetMailbox with req := [1, 1, 0, 0, 0xF0, 0x1F, 0, 0, 0, 0, 0, 0, 0, 0, 0, 0] }
theorem test_mbx_overrun : (mailboxServed (box { badRead with busy := true }) 0 && dictOn world &&
    runs (.mbxSubmit now 0 false) (box { badRead with busy := true }) (fun u => mailboxAt u 0 = { badRead with busy := true, overrun := true })) =
    true := by decide +kernel
theorem test_mbx_submit : (formatOk (mailboxMsg badRead) && (mailboxMsg badRead).op = 1 && (mailboxMsg badRead).node = 0 &&
    readStatus (box badRead) (mailboxMsg badRead).index (mailboxMsg badRead).sub = 0x06020000 &&
    runs (.mbxSubmit now 0 false) (box badRead) (fun u => (mailboxAt u 0).busy && (mailboxAt u 0).ready =
      some [1, 0x81, 1, 0, 0xF0, 0x1F, 0, 0, 0, 0, 0, 0, 0, 0, 2, 6])) = true := by decide +kernel
theorem test_mbx_ready : runs (.mbxReplyReady now 0) (box { badRead with busy := true, ready := some [1, 2] }) (fun u =>
    mailboxAt u 0 = { badRead with resp := [1, 2], respValid := true }) = true := by decide +kernel
theorem test_mbx_ack : runs (.mbxAck now 0) (box { badRead with respValid := true }) (fun u => mailboxAt u 0 = badRead) = true := by decide +kernel
def frame : Bytes := msgBytes (msg 1 0x1FF0 0 [])
theorem test_svc_bad : (u16 (slipBytes [1, 2, 3, 4]) 2 ≠ crcOf crc16Ccitt [1, 2] &&
    runs (.svcFrame now [1, 2, 3, 4] false) world (fun u => u.emitted = [] && u.net = world.net)) = true := by decide +kernel
theorem test_svc_frame : runs (.svcFrame now (slipFrame (frame ++ leBytes 2 (crcOf crc16Ccitt frame))) false) world
    (answered (msg 1 0x1FF0 0 []) 1 0x06020000 []) = true := by decide +kernel

/-! CANopen -/

theorem test_nmt : (busServed world 0 && runs (.nmtStop now 0 1) world (fun u => u.net.nmt = .stopped && u.emitted = []) &&
    runs (.nmtStart now 0 0) world (fun u => u.net.nmt = .operational) && runs (.nmtPreOperational now 0 0) world (fun u => u.net.nmt = .preOperational) &&
    runs (.nmtResetNode now 0 0) { world with store := [(dkey 0x1017 0, .num 9)] } (fun u => entryNum u 0x1017 0 = 9 &&
      u.emitted = [.can 1 0x701 [0], .can 0 0x701 [0]] && u.net.nmt = .preOperational) &&
    runs (.nmtResetCommunication now 0 0) world (fun u => u.emitted = [.can 1 0x701 [0], .can 0 0x701 [0]])) = true := by decide +kernel
def sender : State := { world with dict := [(dkey 0x1005 0, .num 0x40000080), (dkey 0x1006 0, .num 16667), (dkey 0x1019 0, .num 240),
  (dkey 0x1400 1, .num 0x201), (dkey 0x1400 5, .num 100), (dkey 0x1600 0, .num 1), (dkey 0x1600 1, .num 0x10170010),
  (dkey 0x1800 1, .num 0x181), (dkey 0x1A00 0, .num 1), (dkey 0x1A00 1, .num 0x10170010), (dkey 0x1D01 0, .num 1)] }
theorem test_tpdo : (pdoOn sender 0x1800 0x1A00 0 && runs (.tpdoSend now 0) sender (fun u =>
    u.emitted = [.can 1 0x181 [0xE8, 3], .can 0 0x181 [0xE8, 3]])) = true := by decide +kernel
theorem test_sync : (syncFrames .hz60 16667 = 1 && runs (.syncProduce (at_ 241 0 0)) sender (fun u =>
    u.emitted = [.can 1 0x80 [2], .can 0 0x80 [2]])) = true := by decide +kernel
theorem test_heartbeat : runs (.heartbeatSend now) world (fun u => u.emitted = [.can 1 0x701 [5], .can 0 0x701 [5]]) = true := by decide +kernel
theorem test_proxy : (proxyOn sender && runs (.emcyProxy now 7 [1, 2, 3]) sender (fun u =>
    u.emitted = [.can 1 0x87 [1, 2, 3, 0, 0, 0, 0, 0], .can 0 0x87 [1, 2, 3, 0, 0, 0, 0, 0]])) = true := by decide +kernel
theorem test_rpdo_timeout : runs (.rpdoTimeout now 0) sender (fun u => match u.emitted with
    | [.can 1 0x81 _, .can 0 0x81 b] => b.take 2 = [0x50, 0x82]
    | _ => false) = true := by decide +kernel
theorem test_can_error : runs (.canErrorStateChange now 0 1) world (fun u => match u.emitted with
    | [.can 1 0x81 _, .can 0 0x81 b] => b.take 2 = [0x20, 0x81]
    | _ => false) = true := by decide +kernel

/-! Reads that take longer than 10 ms, and other values -/

def slowMsg (op ix sub : Nat) (p : Bytes) : Msg := { msg op ix sub p with slowRead := true }
def reader : Ticket := { ticket 9 true none with reading := some (1, 1024) }
theorem test_read_pending : (served world (slowMsg 1 0x1017 0 []) 1 && runs (.read now svc (slowMsg 1 0x1017 0 [])) world (fun u =>
    match u.net.tickets with
    | [k] => k.origin = svc && k.reading = some (0, 1028) && k.key = dkey 0x1017 0 && k.final = none
    | _ => false)) = true := by decide +kernel
theorem test_read_seg_pending : (served world (slowMsg 4 0x1017 0 [1, 0, 0, 0]) 4 &&
    runs (.readSeg now svc (slowMsg 4 0x1017 0 [1, 0, 0, 0])) world (fun u => match u.net.tickets with
      | [k] => k.reading = some (1, 1024) && k.final = none
      | _ => false)) = true := by decide +kernel
theorem test_read_final : runs (.accessFinal now 9) (ticketed reader) (fun u =>
    u.net.tickets = [{ reader with held := false, final := some (0, [3]) }]) = true := by decide +kernel
def goodRead : Mailbox := { resetMailbox with req := [1, 1, 0, 0, 0x17, 0x10, 0, 0, 7, 0, 0, 0, 0, 0, 0, 0] }
theorem test_mbx_read : (mailboxServed (box goodRead) 0 && runs (.mbxSubmit now 0 false) (box goodRead) (fun u =>
    (mailboxAt u 0).busy && (mailboxAt u 0).ready = some [1, 0x81, 1, 0, 0x17, 0x10, 2, 0, 7, 0, 0, 0, 0, 0, 0, 0, 0xE8, 3])) = true := by
  decide +kernel
theorem test_end_bad_edid : runs (.writeSegEnd now svc (end0 0x5703 1 1) false) (segs 0x5703 1 svc [(0, [1])])
    (fun u => answered (end0 0x5703 1 1) 1 0x06070010 [] u && entry u 0x5703 1 = entry service 0x5703 1) = true := by decide +kernel

/-! ### The timebase and the hive (chapter 03) -/

def tb (f : Timebase → Timebase) : State := { world with tb := f world.tb }
def hv (f : Hive → Hive) : State := { world with hive := f world.hive }

/-- Source k after n good datums, while source `a` is followed. -/
def qualifying (k n a : Nat) : State :=
  tb fun t => { t with status := vecMod t.status (k - 1) fun _ => .qualifying, count := vecMod t.count (k - 1) fun _ => n, active := a, st := .locked }
def cell (ty src dest hops : Nat) (p : Bytes) : Bytes :=
  let h := leBytes 1 ty ++ leBytes 1 src ++ leBytes 1 dest ++ leBytes 1 hops ++ padTo 24 p
  h ++ leBytes 4 (crcOf crc32c h)
def timing0 : Bytes := cell 1 2 0xFF 0 (leBytes 8 (rrpNum now) ++ [1, 2, 1, 0])
theorem test_refsync : (runs (.refsyncDatum now true 5) (qualifying 1 2 2) (fun u => srcStatus u 1 = .qualifying && vecAt u.tb.count 0 0 = 3 && u.tb.active = 2) &&
    runs (.refsyncDatum now true 5) (qualifying 1 3 2) (fun u => srcStatus u 1 = .qualified && u.tb.active = 2)) = true := by decide +kernel
theorem test_refsync_first : runs (.refsyncDatum now true 5) { qualifying 1 3 0 with dict := [(dkey 0x2201 1, .num 1)] } (fun u =>
    srcStatus u 1 = .qualified && u.tb.active = 1) = true := by decide +kernel
theorem test_ptp_sync : runs (.ptpSyncReceive now ⟨0, 0⟩ true true true 2 77 5 (-3)) (qualifying 2 3 1)
    (fun u => srcStatus u 2 = .qualified && u.tb.gptpN = 5 && u.tb.grandmaster = 77 && u.tb.active = 1) = true := by decide +kernel
theorem test_timing_cell : (cellOk timing0 && u8 (timing0.drop 4) 8 = rateCode world.tb.rate &&
    runs (.hiveTimingReceive now false timing0) (qualifying 3 3 1) (fun u => srcStatus u 3 = .qualified && u.tb.headSource = 1)) = true := by decide +kernel
theorem test_refsync_missing : (runs (.refsyncDatumMissing now) (tb fun t => { t with status := vecMod t.status 0 fun _ => .qualified })
      (fun u => srcStatus u 1 = .qualified && u.tb.missing = 1) &&
    runs (.refsyncDatumMissing now) (tb fun t => { t with status := vecMod t.status 0 fun _ => .qualified, missing := 1 })
      (fun u => srcStatus u 1 = .lost)) = true := by decide +kernel
theorem test_lost : (runs (.ptpSourceLost now) (qualifying 2 3 2) (fun u => srcStatus u 2 = .lost && u.tb.st = .holdover && u.tb.active = 0) &&
    runs (.hiveTimingTimeout now false) (qualifying 3 3 1) (fun u => srcStatus u 3 = .lost && u.tb.active = 1) &&
    runs (.hiveTimingTimeout now true) (qualifying 3 3 1) (fun u => srcStatus u 4 = .lost)) = true := by decide +kernel
/-- REFSYNC and 802.1AS by the priority list, 802.1AS followed, REFSYNC qualified again. -/
def dwell : State := { tb fun t => { t with status := ⟨#[.qualified, .qualified, .absent, .absent], rfl⟩, active := 2, st := .locked } with
  dict := [(dkey 0x2201 1, .num 1), (dkey 0x2201 2, .num 2)] }
theorem test_dwell : ((sourceOrder dwell).takeWhile (fun j => j ≠ 2) = [1] && runs (.sourceDwellExpire now 1) dwell
    (fun u => u.tb.active = 1 && u.tb.st = .slewing)) = true := by decide +kernel
theorem test_locked : runs (.timebaseLocked now) (tb fun t => { t with active := 1, st := .slewing }) (fun u => u.tb.st = .locked) = true := by decide +kernel
theorem test_acquisition : runs (.acquisitionTimeout now) (tb fun t => { t with active := 0, st := .acquiring })
    (fun u => u.tb.st = .freeRun && u.now = ⟨0, 10, 0⟩) = true := by decide +kernel
theorem test_frame_boundary : (runs (.frameBoundary (at_ 101 0 0) false) (tb fun t => { t with rate := .hz5994, cadence := 4, st := .holdover, holdFrames := 7 })
    (fun u => u.lasts.cycle = 1 && u.lasts.cycleFrame = 101 && u.tb.cadence = 0 && u.tb.holdFrames = 8 && vecAt u.health.insp.modeCounts 3 0 = 1) &&
    runs (.frameBoundary (at_ 102 0 0) false) world (fun u => u.lasts.cycle = 0)) = true := by decide +kernel
theorem test_fio : runs (.fioInputChange now 3 true (at_ 99 5 6)) { world with dieLink := true }
    (fun u => vecAt u.fio 3 ⟨false, zeroRrp⟩ = ⟨true, at_ 99 5 6⟩ && vecAt u.fio 4 ⟨true, zeroRrp⟩ = vecAt world.fio 4 ⟨true, zeroRrp⟩) = true := by decide +kernel
theorem test_copy_fault : (runs (.timebaseCopyFault now) (tb fun t => { t with copyFaults := 0 }) (fun u => u.tb.copyFaults = 1 && u.power = powerOn) &&
    runs (.timebaseCopyFault now) (tb fun t => { t with copyFaults := 1 }) (fun u => match u.power.transition with
      | some x => x = ⟨.run, .hold, false, nextBoundary .hz60 now 4⟩
      | none => false)) = true := by decide +kernel

def inHive : State := hv fun h => { h with enumerated := true, pos := 1, size := 3 }
theorem test_cell_bad : (!cellOk [1, 2] && runs (.hiveCellReceive now false [1, 2] ⟨eth, false⟩) inHive (fun u => u.hive.cellErrors = 1 && u.emitted = [])) = true := by
  decide +kernel
def other : Bytes := cell 5 9 8 2 [1]
theorem test_cell_relayed : (cellOk other && relayType (u8 other 0) && u8 other 3 % 128 < 63 && u8 other 2 ≠ nodeIdOf inHive && u8 other 1 ≠ nodeIdOf inHive &&
    domainOn inHive 17 && !isolatedRegion inHive .net && runs (.hiveCellReceive now false other ⟨eth, false⟩) inHive
      (fun u => u.emitted = [.hive false (cell 5 9 8 3 [1])] && u.hive = inHive.hive)) = true := by decide +kernel
theorem test_lane_fail : runs (.hiveLaneFail now false 1 true) inHive (fun u => u.hive.failedLanes = [(true, false, 1)]) = true := by decide +kernel
theorem test_timing_send : runs (.hiveTimingSend (at_ 5 150 0)) inHive (fun u => match u.emitted with
    | [.hive true a, .hive false b] => (a.drop 4).take 8 = leBytes 8 (rrpNum (at_ 5 150 0)) && u8 b 0 = 1 && cellOk a && cellOk b
    | _ => false) = true := by decide +kernel
theorem test_delay : runs (.hiveDelayExchange now true 1000 200) inHive (fun u => u.hive.hopDelayOutPs = 400 && u.hive.hopDelayPs = 0) = true := by decide +kernel
def head : State := { inHive with power := { inHive.power with sampled := { inHive.power.sampled with headSel := true } } }
theorem test_enum_send : runs (.enumSend now) head (fun u => u.hive.pos = 0 && match u.emitted with
    | [.hive false c] => u8 c 0 = 3 && u8 c 4 = 1 && cellOk c
    | _ => false) = true := by decide +kernel
theorem test_enum_receive : (cellOk (cell 3 1 0xFF 1 [2, 0]) && runs (.enumReceive now (cell 3 1 0xFF 1 [2, 0])) world (fun u => u.hive.pos = 2 && u.hive.enumerated &&
      u.emitted = [.hive false (cell 3 1 0xFF 2 [3, 0])]) &&
    runs (.enumReceive now (cell 3 (nodeIdOf head) 0xFF 3 [3, 0])) head (fun u => u.hive.closed && u.hive.size = 3)) = true := by decide +kernel

/-! The swap barrier -/

def barrier0 : Barrier := ⟨105, 1, nodeIdOf inHive, [1, 2, 3], [1], true, none⟩
def swap (b : Barrier) : State :=
  { inHive with hive := { inHive.hive with barriers := [b] }, lasts := { inHive.lasts with request := some ⟨105, 1, false, true⟩ } }
def bcell (action node : Nat) : Bytes := cell 4 node 0xFF 0 (leBytes 1 action ++ leBytes 4 105 ++ [1] ++ leBytes 1 node)
theorem test_arm : (cellOk (bcell 1 2) && barrierCell (swap barrier0) (bcell 1 2) 1 && findBarrier (swap barrier0) (u32 (bcell 1 2) 5) (u8 (bcell 1 2) 9) = some barrier0 &&
    runs (.barrierArm now (bcell 1 2)) (swap barrier0) (fun u => u.hive.barriers = [{ barrier0 with arms := [2, 1] }])) = true := by decide +kernel
theorem test_commit_abort : (runs (.barrierCommit now (bcell 2 9)) (swap barrier0) (fun u => u.hive.barriers = [{ barrier0 with held := some true }]) &&
    runs (.barrierAbort now (bcell 3 9)) (swap barrier0) (fun u => u.hive.barrierResult = 2 && u.lasts.request = none && u.lasts.result = 2)) = true := by decide +kernel
theorem test_decide : (runs (.barrierDecide (at_ 104 0 0)) (swap { barrier0 with arms := [3, 2, 1] }) (fun u =>
      u.hive.barriers = [{ barrier0 with arms := [3, 2, 1], held := some true }] && match u.emitted with
      | [.hive true a, .hive false b] => u8 a 4 = 2 && u8 b 4 = 2
      | _ => false) &&
    runs (.barrierDecide (at_ 104 0 0)) (swap barrier0) (fun u => u.hive.barrierResult = 2 && match u.emitted.reverse with
      | .hive false a :: .hive true b :: _ => u8 a 4 = 3 && u8 b 4 = 3 && u8 b 3 = 128
      | _ => false)) = true := by decide +kernel
theorem test_deadline : (lrefOf world / 2 = 1125 && runs (.barrierDeadline (at_ 104 1125 0)) (swap { barrier0 with held := some true }) (fun u =>
      u.hive.barrierResult = 1 && u.hive.barriers = [] && u.lasts.request = some ⟨105, 1, true, true⟩) &&
    runs (.barrierDeadline (at_ 104 1125 0)) (swap barrier0) (fun u => u.hive.barrierResult = 3 && u.hive.barriers = [])) = true := by decide +kernel

/-! ### Lasts (chapters 04 and 05) -/

def updL (f : Lasts → Lasts) : State := { world with lasts := f world.lasts }
/-- Slot 1 holds the last of slot 0 too, at margin 1. -/
def two (f : Lasts → Lasts) : State := updL fun l => f { l with slots := vecMod l.slots 1 fun _ => ⟨.valid, [], some last0, 0, false⟩ }
def loading (b : Bytes) : State :=
  { updL fun l => { l with slots := vecMod l.slots 1 fun _ => ⟨.loading, b, none, 0, false⟩ } with
    net := { world.net with tickets := [⟨9, svc, msg0, imageKey 1, true, none, none⟩] } }
where msg0 : Msg := ⟨1, 6, 0, 2, 0x2211, 4, 5, 0, [], [], false, false⟩
theorem test_load_bad : (writePending (loading [1, 2]) (imageKey 1) && (loading [1, 2]).sec.island ≠ 2 && loadCheck (atTime (loading [1, 2]) now) 1 [1, 2] false ≠ 0 &&
    runs (.lastLoadComplete now 1) (loading [1, 2]) (fun u => (slotAt u 1).st = .refused && (slotAt u 1).image = [] && !writePending u (imageKey 1))) = true := by decide +kernel

/-- The minimal hold last of Table 5-20, from the directory to the end of its body. -/
def holdBody : Bytes :=
  [1, 0, 0, 1, 0xA0, 0, 0, 0, 0x20, 0, 0, 0,  2, 0, 0, 1, 0xC0, 0, 0, 0, 8, 0, 0, 0,  3, 0, 0, 1, 0xC8, 0, 0, 0, 0x30, 0, 0, 0,
   4, 0, 0, 1, 0xF8, 0, 0, 0, 0x28, 0, 0, 0] ++
  [7, 0, 0, 1, 0x20, 1, 0, 0, 8, 0, 0, 0,  0xC, 0, 0, 1, 0x28, 1, 0, 0, 0x78, 0, 0, 0,  0xD, 0, 0, 1, 0xA0, 1, 0, 0, 8, 0, 0, 0,
   0xF, 0, 0, 1, 0xA8, 1, 0, 0, 0x70, 0, 0, 0] ++
  [3, 4] ++ zeroBytes 30 ++ zeroBytes 8 ++
  [1, 0, 0xCA, 8, 2, 0, 0, 0, 2, 0, 0, 0, 0, 0, 0, 0,  0, 0, 0, 1, 0, 0, 0, 0,  0xAA, 8, 0, 1, 1, 0, 0, 0,
   0, 0, 0, 0, 0, 0, 0, 0x0C,  0, 0, 0, 0, 0, 0, 0, 4] ++
  [1, 0, 0, 0, 0, 0, 0, 0,  0, 0x0C, 1, 4, 4, 8, 0, 0,  0xCA, 8, 0x70, 8, 8, 0, 0x0A, 0,  0x30, 0x11, 0, 0x0F, 0xB0, 0, 0x58, 0,
   0, 0, 0, 0, 0x20, 0, 0, 0] ++
  [1, 0, 0, 0, 0, 0, 0, 0] ++
  [3, 1, 1, 1, 0, 0, 1, 0, 0, 0, 1, 0, 0, 0, 0, 0,  1, 0, 0, 0xFF, 0xFF, 0, 0, 0] ++ zeroBytes 96 ++ zeroBytes 8
/-- The whole image, its signatures zero. -/
def holdImage : Bytes :=
  [0x4C, 0x53, 0x54, 0x31, 1, 0, 8, 0, 0x18, 2, 0, 0, 0x51, 0, 2, 0, 4, 1, 0xCA, 8] ++ leBytes 4 0xE60B63A1 ++
    [0x6A, 0x41, 0x0C, 3, 0, 0, 0, 0, 0, 0, 0, 1] ++ zeroBytes 28 ++ holdBody ++ [1] ++ zeroBytes 15 ++ zeroBytes 96

/-- A device in class A with slot 4 loading the minimal hold last, and the keys of both its signatures. -/
def holdLoad : State :=
  { loading [] with
    lasts := { resetLasts with slots := vecMod resetLasts.slots 3 fun _ => ⟨.loading, holdImage, none, 0, false⟩ }
    dict := [(dkey 0x2000 1, .num 0x51), (dkey 0x2000 2, .num 1), (dkey 0x5A00 0, .num 1)]
    sec := { world.sec with keys := [⟨1, 1, [1]⟩, ⟨2, 1, [2]⟩] }
    net := { world.net with tickets := [⟨9, svc, loading.msg0, imageKey 3, true, none, none⟩] } }
theorem hold_crc1 : crcFeed crc32c 0xFFFFFFFF (holdBody.take 90) = 3444191471 := by decide +kernel
theorem hold_crc2 : crcFeed crc32c 3444191471 ((holdBody.drop 90).take 90) = 3898519037 := by decide +kernel
theorem hold_crc3 : crcFeed crc32c 3898519037 ((holdBody.drop 180).take 90) = 1961507905 := by decide +kernel
theorem hold_crc4 : crcFeed crc32c 1961507905 (holdBody.drop 270) = 2050568088 := by decide +kernel
theorem hold_body : bodyOf holdImage = holdBody.take 90 ++ ((holdBody.drop 90).take 90 ++ ((holdBody.drop 180).take 90 ++ holdBody.drop 270)) := by
  decide +kernel
theorem hold_crc : crcOf crc32c (bodyOf holdImage) = 0xE60B63A1 := by
  have h1 := hold_crc1; have h2 := hold_crc2; have h3 := hold_crc3; have h4 := hold_crc4
  unfold crcFeed at h1 h2 h3 h4
  rw [hold_body]
  unfold crcOf crcFeed
  rw [List.foldl_append, List.foldl_append, List.foldl_append]
  show crcFinish crc32c (List.foldl _ (List.foldl _ (List.foldl _ (List.foldl (crcByte crc32c) 0xFFFFFFFF _) _) _) _) = _
  rw [h1, h2, h3, h4]; rfl
theorem hold_stage1 : stage1 holdImage = 0 := by
  unfold stage1; rw [hold_crc]; decide +kernel
theorem test_hold_stages : (stage3 holdLoad holdImage (parseLast holdImage) = 0 &&
    (assumptions holdLoad 3 (parseLast holdImage) (dramHolds holdLoad (parseLast holdImage))).all (fun c => c.2) &&
    assignmentOk (parseLast holdImage).assign && (keyOf holdLoad 1 1).isSome && (keyOf holdLoad 2 1).isSome && writePending holdLoad (imageKey 3)) = true := by decide +kernel
theorem test_hold_stages_bad : (firstFail [(0x0103, u32 holdImage 8 = 535), (0x0104, headerOk (holdImage.set 16 5))] = 0x0103 && !headerOk (holdImage.set 16 5) && stage3 holdLoad (holdImage.set 0xE1 9) (parseLast (holdImage.set 0xE1 9)) = 0x0304 &&
    stage3 holdLoad (holdImage.set 0xE0 0xAB) (parseLast (holdImage.set 0xE0 0xAB)) = 0x0305) = true := by decide +kernel
/-- The image passes where both its signatures verify. -/
theorem test_hold_load (h : ∀ k m g, Config.ecdsaVerify k m g = true) : loadCheck (atTime holdLoad now) 3 holdImage false = 0 := by
  have h2 : stage2 (atTime holdLoad now) holdImage = 0 := by
    have hk : lastKey (atTime holdLoad now) (u32 (sect holdImage 0x0F) 0) = some [1] := by decide +kernel
    have hi : ¬ (atTime holdLoad now).sec.island = 3 := by decide +kernel
    unfold stage2
    dsimp only
    rw [if_neg hi, hk]
    exact if_pos (h _ _ _)
  have h4 : countersigned (atTime holdLoad now) (parseLast holdImage) = true := by
    have hk : keyOf (atTime holdLoad now) 2 (parseLast holdImage).assign.keyId = some [2] := by decide +kernel
    have ha : assignmentOk (parseLast holdImage).assign = true := by decide +kernel
    have hi : decide ((atTime holdLoad now).sec.island ≠ 3) = true := by decide +kernel
    have hz : decide ((parseLast holdImage).assign.keyId ≠ 0) = true := by decide +kernel
    unfold countersigned
    dsimp only
    rw [hk, ha, hz, hi]
    exact h _ _ _
  have h3 : stage3 (atTime holdLoad now) holdImage (parseLast holdImage) = 0 := by decide +kernel
  have h5 : stage4 (atTime holdLoad now) 3 (parseLast holdImage) false = 0 := by
    unfold stage4; rw [h4]; decide +kernel
  unfold loadCheck
  dsimp only
  rw [hold_stage1, h2, h3, h5]; rfl

/-- A last that holds on the device in class A, linked to itself; slots 1 and 2, or 1 and 3, hold it. -/
def lastA : Last := { last0 with family := 0x51, steppings := 2, links := [[1]] }
def ready (f : Lasts → Lasts) : State :=
  { world with
    dict := [(dkey 0x2000 1, .num 0x51), (dkey 0x2000 2, .num 1), (dkey 0x5A00 0, .num 1)]
    lasts := f { world.lasts with
      slots := ⟨#[⟨.valid, [], some lastA, 0, false⟩, ⟨.valid, [], some lastA, 0, false⟩, ⟨.valid, [], some { lastA with role := 2, margin := 2, opPoint := 2 }, 0, false⟩, resetSlot], rfl⟩ } }
theorem test_switch_request : (writeStatus (atTime (ready id) now) svc 0x2216 0 (numData 0x2216 0 0) = stMode &&
    writeStatus (atTime (ready id) now) canOrigin 0x2216 0 (numData 0x2216 0 (105 * 2 ^ 32 + 2)) = 0 && switchStatus (atTime (ready id) now) (105 * 2 ^ 32 + 2) = 0 &&
    runs (.lastSwitchRequest now canOrigin (105 * 2 ^ 32 + 2)) (ready id) (fun u => answers u canOrigin 0x2216 0 stPending &&
      u.lasts.request = some ⟨105, 1, false, false⟩)) = true := by decide +kernel
theorem test_switch_late : (writeStatus (atTime (ready id) now) canOrigin 0x2216 0 (numData 0x2216 0 (101 * 2 ^ 32 + 2)) = 0 &&
    switchStatus (atTime (ready id) now) (101 * 2 ^ 32 + 2) = 0 && runs (.lastSwitchRequest now canOrigin (101 * 2 ^ 32 + 2)) (ready id)
      (fun u => answers u canOrigin 0x2216 0 stState && u.lasts.result = 3 && u.lasts.request = none)) = true := by decide +kernel
def askedS (armed : Bool) : State := ready fun l => { l with request := some ⟨105, 1, armed, false⟩ }
def classB : State := { askedS false with dict := [(dkey 0x2000 1, .num 0x51), (dkey 0x2000 2, .num 1), (dkey 0x5A00 0, .num 2)] }
theorem test_switch_arm : (armResult (atTime (askedS false) (at_ 104 0 0)) ⟨105, 1, false, false⟩ = 0 &&
    runs (.lastSwitchArm (at_ 104 0 0)) (askedS false) (fun u => u.lasts = (askedS true).lasts) &&
    armResult (atTime classB (at_ 104 0 0)) ⟨105, 1, false, false⟩ = 5 &&
    runs (.lastSwitchArm (at_ 104 0 0)) classB (fun u => u.lasts = (ready fun l => { l with result := 5 }).lasts)) = true := by decide +kernel
theorem test_switch_execute : runs (.lastSwitchExecute (at_ 105 0 0) true) (askedS true) (fun u => u.lasts.request = none && u.lasts.result = 1 &&
    u.lasts.active = 2 && u.lasts.cycle = 0) = true := by decide +kernel
theorem test_margin_switch : (slotHolds (atTime (ready fun l => { l with marginAt := some 103 }) (at_ 103 0 0)) 2 false && reserveLinked (ready id) &&
    runs (.marginSwitch (at_ 103 0 0) true) (ready fun l => { l with marginAt := some 103 }) (fun u => u.lasts.marginAt = none && u.lasts.result = 8 &&
      u.lasts.active = 3 && u.mode = .degraded)) = true := by decide +kernel

/-! Row events of the active last, at (0, 10) of the cycle -/

def running (f : Output → Output) : State := { world with outs := vecMod world.outs 0 f }
theorem test_latch : (eventDue (atTime world now) 1 0 0 && reachable (running id) 1 0 && activePlan world 0 = some plan0 &&
    runs (.latch now 0 0) (running fun o => { o with scan := .starting, missing := [(0, 0, 0, 0, 1)] }) (fun u =>
      (outAt u 0).frame = openedFrame (atTime world now) plan0 0 && (outAt u 0).missing = [] && (outAt u 0).bandStart = now)) = true := by decide +kernel
theorem test_gpu_window : (eventDue (atTime world now) 2 0 (5 * 4096 + 3) && reachable world 2 0 && clusterOk world 0 &&
    runs (.gpuWindow now 0 3 5) world (fun u => match (ctxAt u 0).window with
      | some w => w.opened = now && w.closes = at_ 100 15 0 && w.clusters = [0, 1]
      | none => false)) = true := by decide +kernel
theorem test_dram_window : (eventDue (atTime world now) 3 0 0 && runs (.dramWindow now 0) (updL fun l => { l with
      monitors := [⟨5, 6, 1, true, true, now, 0⟩, freshMonitor] }) (fun u => u.lasts.windowOpen && u.lasts.monitors.head? = some ⟨0, 6, 1, false, false, now, 0⟩)) = true := by
  decide +kernel
theorem test_freq_change : (eventDue (atTime world now) 5 0 1 && reachable world 5 0 && dramServing world &&
    runs (.freqChange now 1) world (fun u => u.mem.changing = some 0x0C80 && u.mem.rate = 0x1900)) = true := by decide +kernel
theorem test_check_start : (eventDue (atTime world now) 6 0 0 && reachable world 6 0 && runs (.checkStart now 0 0) world (fun u =>
    !(checkAt u 0).valid && match (checkAt u 0).job with
      | some j => j.start = 0x1000 && j.length = 64 && j.algorithm = 0 && j.item = 1
      | none => false)) = true := by decide +kernel
def scanning : State := { world with touch := vecMod world.touch 0 fun c => { c with st := .scanning, step := 1, fired := [(0, 4)] } }
theorem test_touch_burst : ((burstPlans scanning 0).find? (fun e => e.1 = 0) = some (0, burst0) && measuring (atTime scanning now) 0 &&
    eventDue (atTime scanning now) 4 0 0 && reachable scanning 4 0 && runs (.touchBurst now 0 0) scanning (fun u =>
      (touchAt u 0).fired = [(0, 5)])) = true := by decide +kernel
/-- The parts of the device that events reach. -/
def still (u s : State) : Bool := (outAt u 0).scan = (outAt s 0).scan && (ctxAt u 0).window = (ctxAt s 0).window && u.mem.changing = s.mem.changing && (checkAt u 0).job = (checkAt s 0).job && (touchAt u 0).fired = (touchAt s 0).fired && u.emitted = s.emitted && u.health.history = s.health.history && u.dict = [(dkey 0x221A 0, .num 1)]
def dark : State := { world with power := { powerOn with domains := vecMod (Vector.replicate 18 0) 2 fun _ => 1 }, isolated := [.mgmt] }
theorem test_skipped : (eventDue (atTime dark now) 1 0 0 && !reachable dark 1 0 && runs (.latch now 0 0) dark (still · dark) &&
    eventDue (atTime dark now) 2 0 (5 * 4096 + 3) && !reachable dark 2 0 && runs (.gpuWindow now 0 3 5) dark (still · dark) &&
    eventDue (atTime dark now) 5 0 1 && !reachable dark 5 0 && runs (.freqChange now 1) dark (still · dark) &&
    eventDue (atTime dark now) 6 0 0 && !reachable dark 6 0 && runs (.checkStart now 0 0) dark (still · dark)) = true := by
  decide +kernel
def darkTouch : State := { scanning with power := dark.power, isolated := [.mgmt] }
theorem test_skipped_burst : (measuring (atTime darkTouch now) 0 && eventDue (atTime darkTouch now) 4 0 0 && !reachable darkTouch 4 0 &&
    runs (.touchBurst now 0 0) darkTouch (still · darkTouch)) = true := by decide +kernel
theorem test_skipped_window : (eventDue (atTime dark now) 3 0 0 && !reachable dark 3 0 && runs (.dramWindow now 0) dark (fun u =>
    u.lasts.windowOpen && u.lasts.windowSet = 0 && entryNum u 0x221A 0 = 1)) = true := by decide +kernel

/-- An open window of an item whose requester asks for more than its 100 bytes. -/
def item0 : Item := ⟨0x10, 0, 0, 0xFF, 0, 1, 4⟩
theorem test_violation : (itemAt world 1 = some item0 && allotment world 0 1 = 100 && runs (.contractViolation now 1 101) world (fun u =>
    u.lasts.monitors = [⟨0, 101, 1, true, true, now, 0⟩, freshMonitor] && entryNum u 0x2221 1 = rrpNum now && entryNum u 0x2221 2 = 1 && entryNum u 0x2221 3 = 1)) = true := by
  decide +kernel
theorem test_violation_again : runs (.contractViolation now 1 101) (updL fun l => { l with monitors := [⟨0, 200, 1, true, true, now, 0⟩, freshMonitor] })
    (fun u => u.lasts.monitors = [⟨0, 200, 1, true, true, now, 0⟩, freshMonitor] && u.health = world.health && u.dict = world.dict) = true := by decide +kernel

theorem test_acquiring_dwell : runs (.sourceDwellExpire now 1) { dwell with mode := .bringup, tb := { dwell.tb with st := .acquiring } } (fun u =>
    u.tb.active = 1 && u.tb.st = .acquiring) = true := by decide +kernel
theorem test_margin_switch_runs : runs (.marginSwitch (at_ 103 0 0) false) (ready fun l => { l with marginAt := some 103 }) (fun u =>
    u.lasts.marginAt = none && u.lasts.result = 8 && u.lasts.active = 3) = true := by decide +kernel

/-! ### Rings and doorbells (chapters 06, 09, 10, 14, 15) -/

def regs (l : List (Nat × Nat)) : State := { world with sregs := l.foldl (fun m e => SMap.set zeroReg m (skey 0 e.1) e.2) [] }
def rings : State := regs [(0x100, 0x10000), (0x120, 2 ^ 31), (0x300, 0x20000), (0x400, 0x30000), (0x500, 0x40000), (0x200, 0x50000),
  (0x218, 0x60000), (0x228, 0x800000)]
def enabledAt (c : Instr) (ctrl lg : Nat) : Bool := runs c rings (fun u => sreg u 0 ctrl = lg + 2 ^ 31)
theorem test_ring_enable : (windowOpen rings 0 && SMap.wf zeroReg rings.sregs && enabledAt (.flipRingEnable now 0 (2 ^ 31 + 6)) 0x108 6 &&
    enabledAt (.decRingEnable now 0 (2 ^ 31 + 4)) 0x308 4 && enabledAt (.chkRingEnable now 0 (2 ^ 31 + 12)) 0x408 12 &&
    enabledAt (.touchRingEnable now 0 (2 ^ 31 + 4)) 0x508 4 && enabledAt (.gpuRingEnable now 0 (2 ^ 31 + 4)) 0x208 4) = true := by decide +kernel
/-- LOG2_SIZE out of range, a base that is no page, FLIPC off, a page of no slice, and a ring enabled already. -/
theorem test_ring_refused : (runs (.flipRingEnable now 0 (2 ^ 31 + 5)) rings (fun u => sreg u 0 0x108 = 5) &&
    runs (.chkRingEnable now 0 (2 ^ 31 + 13)) rings (fun u => sreg u 0 0x408 = 13) &&
    runs (.decRingEnable now 0 (2 ^ 31 + 4)) (regs [(0x300, 0x20040)]) (fun u => sreg u 0 0x308 = 4) &&
    runs (.flipRingEnable now 0 (2 ^ 31 + 6)) (regs [(0x100, 0x10000)]) (fun u => sreg u 0 0x108 = 6) &&
    runs (.decRingEnable now 0 (2 ^ 31 + 4)) (regs [(0x300, 2 ^ 34)]) (fun u => sreg u 0 0x308 = 4) &&
    runs (.decRingEnable now 0 6) (regs [(0x308, 2 ^ 31 + 5)]) (fun u => sreg u 0 0x308 = 2 ^ 31 + 5)) = true := by decide +kernel
def bells (f : Slice → Slice) : State :=
  { regs [(0x108, 2 ^ 31 + 6), (0x208, 2 ^ 31 + 4), (0x308, 2 ^ 31 + 4), (0x408, 2 ^ 31 + 4)] with slices := vecMod world.slices 0 f }
theorem test_flip_bell : (bellOk (bells id) 0 0x108 5 && runs (.flipDoorbell now 0 5) (bells fun q => { q with waiting := [[1]] })
    (fun u => (sliceAt u 0).flipTail = 5 && (sliceAt u 0).flipBells = [(5, now)])) = true := by decide +kernel
def noMedia : State := { bells id with power := { powerOn with domains := vecMod powerOn.domains 13 fun _ => 0 } }
theorem test_bells : (bellOk (bells id) 0 0x208 3 && (ctxRecOf (bells id) 0).isSome && !ctxRuns (bells id) 0 &&
    runs (.gpuDoorbell now 0 3) (bells id) (fun u => (ctxAt u 0).tail = 3 && (ctxAt u 0).arrivals = [(3, now)]) &&
    bellOk noMedia 0 0x308 3 && !mediaOn noMedia && runs (.decDoorbell now 0 3) noMedia (fun u => (decRingAt u 0).tail = 3 && (decRingAt u 0).arrivals = [(3, now)]) &&
    bellOk (bells id) 0 0x408 3 && runs (.chkDoorbell now 0 3) (bells id) (fun u => (sliceAt u 0).chkHead = 3 && (sliceAt u 0).chkTail = 3)) = true := by
  decide +kernel
theorem test_bell_discarded : (!bellOk (bells id) 0 0x108 64 && runs (.flipDoorbell now 0 64) (bells id) (fun u => sreg u 0 0x18 = 1 && bit (sreg u 0 0x10) 7 &&
      u.slices = (bells id).slices) &&
    !bellOk world 0 0x208 0 && runs (.gpuDoorbell now 0 0) world (fun u => sreg u 0 0x18 = 1 && bit (sreg u 0 0x10) 7 && u.gpu = world.gpu) &&
    runs (.decDoorbell now 0 16) (bells id) (fun u => sreg u 0 0x18 = 1 && u.media = world.media) &&
    runs (.chkDoorbell now 0 16) (bells id) (fun u => sreg u 0 0x18 = 1 && u.slices = (bells id).slices)) = true := by decide +kernel
theorem test_flipc_read : runs (.flipcReadWrite now 0 0x12345) world (fun u => sreg u 0 0x128 = 0x2345 && sliceAt u 0 = sliceAt world 0) = true := by
  decide +kernel

/-! ### Composition (chapters 06 and 07) -/

def out0 (f : Output → Output) : State := { world with outs := vecMod world.outs 0 fun o => f { o with scan := .running, carrying := true, sendLive := true, frame := at_ 100 5 0 } }
theorem test_band : (planNow (out0 id) 0 = some plan0 && composing (out0 id) 0 && runs (.bandComplete now 0 1 true false) (out0 id) (fun u =>
      bandSource (outAt u 0) 1 = some .engine && (outAt u 0).bandStart = now) &&
    runs (.bandComplete now 0 1 true false) (out0 fun o => { o with spareFrom := some 0 }) (fun u => bandSource (outAt u 0) 1 = some .spare)) = true := by decide +kernel
theorem test_band_fails : (!bySpare (out0 id) 0 && spareFree (out0 id) && runs (.bandComplete now 0 1 false false) (out0 id) (fun u =>
    bandSource (outAt u 0) 1 = some .spare && (outAt u 0).spareFrom = some 1 && (outAt u 0).takeover = .armed && (outAt u 0).armedAt = now && u.spare.jobs = [])) = true := by
  decide +kernel
def desc0 : LayerDesc :=
  { layer := 0, fmt := 1, flags := 1, alpha := 255, csc := 0, plane0 := 0x10000, plane1 := 0, pitch0 := 64, pitch1 := 0,
    srcX := 0, srcY := 0, width := 4, height := 4, dstX := 0, dstY := 0, fence := 0 }
def content0 : Content := ⟨.flip, desc0, 0, 1, at_ 99 0 0, none⟩
def layered (f : Output → Output) : State := out0 fun o => f { o with layers := vecMod o.layers 0 fun _ => some content0 }
theorem test_band_late : ((layerOf (outAt (layered id) 0) 0).isSome && runs (.bandDeadline now 0 0 0 [(1, 0, 2)]) (layered id) (fun u =>
    (outAt u 0).missing = [(0, 0, 1, 0, 2)] && entryNum u 0x3008 0 = 1)) = true := by decide +kernel
def px0 : List Rgb := [⟨1, 2, 3⟩, ⟨4, 5, 6⟩]
theorem test_scanout : (sentLine (out0 fun o => { o with lead := [(9, px0)] }) 0 9 = some px0 && runs (.scanoutLine now 0 9 [] []) (out0 fun o => { o with lead := [(9, px0)] })
    (fun u => u.emitted.head? = some (.video 0 0 9 [1, 2, 3, 4, 5, 6]) && (outAt u 0).lead = [])) = true := by decide +kernel
def pass0 : Pass := { toB := true, records := [], contents := [], done := none, waiting := false }
theorem test_flatten : runs (.flattenPassComplete now 0) { layered (fun o => { o with pass := some pass0 }) with mem := resetMemory } (fun u =>
    (outAt u 0).pass = none && (outAt u 0).ready = some { pass0 with toB := false, done := some now } && layerOf (outAt u 0) 0 = some content0) = true := by decide +kernel
def job0 (seq : Nat) : FlipRec :=
  { slice := 0, seq := seq, offscreen := true, out := 0, descs := [desc0], targetAddr := 0x40000, targetPitch := 64,
    targetWidth := 2, targetHeight := 1, targetFmt := 1, arrival := now, deferred := false, static := false }
theorem test_offscreen : runs (.offscreenComplete now) { world with spare := { world.spare with jobs := [job0 1, job0 2] } } (fun u =>
    u.spare.jobs = [job0 2] && u.outs = world.outs) = true := by decide +kernel
theorem test_offscreen_pixels : runs (.offscreenComplete now) { world with
      dram := SMap.set dramDefault (SMap.set dramDefault (SMap.set dramDefault [] 0x10000 0x55) 0x10003 0xFF) 0x10006 0x77, spare := { world.spare with jobs := [job0 1] } }
    (fun u => memBytes u 0x40000 8 = [0x55, 0, 0, 0xFF, 0, 0, 0, 0]) = true := by decide +kernel
theorem test_record : runs (.recordFrameComplete now 0) { out0 fun o => { o with recActive := true, recCount := 4 } with
      dict := [(dkey 0x3028 1, .num 0x100000), (dkey 0x3028 2, .num 3), (dkey 0x3028 3, .num 1), (dkey 0x3028 4, .num 2)] }
    (fun u => !(outAt u 0).recActive && (outAt u 0).recCount = 5 && recordEntry u 0 4 = 0) = true := by decide +kernel
theorem test_fence : runs (.releaseFenceWrite now) (out0 fun o => { o with fences := [⟨0, 0x20000, 7, 99⟩, ⟨0, 0x20008, 8, 100⟩] }) (fun u =>
    (outAt u 0).fences = [⟨0, 0x20008, 8, 100⟩] && memBytes u 0x20000 5 = [99, 0, 0, 0, 7] && memBytes u 0x20008 2 = [0, 0]) = true := by decide +kernel

/-! ### Protected content and the pair pins (chapter 07) -/

def cellAt0 (kind timeout blink : Nat) : Cell :=
  { flags := 0, kind := kind, shift := 0, bindSub := 0, bindId := 0x2204, timeout := timeout, x := 0, y := 0, glyphs := [0], unknown := 0, blink := blink }
def atlas0 (cs : List Cell) (ss : List SurfaceCfg) : Atlas :=
  { blinkHalf := 30, palettes := [], glyphs := [⟨2, 1, 0, [0]⟩], outs := [⟨0, true, 3, none, ss, cs⟩] }
def run0 : CellRun := { state := 0, since := zeroRrp, blinkOff := false, unwritten := 2, timedOut := false, counting := true }
def sealedOut (cs : List Cell) (ss : List SurfaceCfg) (f : Output → Output) : State :=
  { out0 fun o => f { o with cells := cs.map fun _ => run0 } with sentinel := { world.sentinel with atlas := some (atlas0 cs ss) } }
theorem test_cell_timeout : (cellAt (sealedOut [cellAt0 2 5 0] [] id) 0 0 = some (cellAt0 2 5 0) && runs (.cellTimeout now 0 0) (sealedOut [cellAt0 2 5 0] [] id)
    (fun u => (outAt u 0).cells.all fun r => r.timedOut && 5 < r.unwritten)) = true := by decide +kernel
theorem test_cell_blink : runs (.cellBlinkToggle now 0 0) (sealedOut [cellAt0 2 5 1] [] id) (fun u =>
    (outAt u 0).cells = [{ run0 with blinkOff := blinkOffIn (sealedOut [cellAt0 2 5 1] [] id) (cellAt0 2 5 1) run0 100 }]) = true := by decide +kernel
def surf0 : SurfaceCfg := { x := 0, y := 0, width := 2, height := 1, fmt := 0, slice := 0, standGlyph := 0, standColour := 0, maxAge := 3 }
theorem test_surface_age : (surfaceCfg (sealedOut [] [surf0] id) 0 0 = some surf0 && runs (.surfaceAgeExpire now 0 0) (sealedOut [] [surf0] id) (fun u =>
    3 < (surfaceAt u 0 0).age)) = true := by decide +kernel
theorem test_crc_compare : runs (.protectedCrcCompare now 0) (out0 fun o => { o with crcAny := true, crcReg := 5, crcExp := 6, pairRun := 9 }) (fun u =>
    entryNum u 0x3031 1 = crcFinish crc32c 6 && entryNum u 0x3031 2 = crcFinish crc32c 5 && !(outAt u 0).crcAny && (outAt u 0).pairRun = 0 && entryNum u 0x3032 0 = 1) = true := by
  decide +kernel
theorem test_binding_cutoff : (latchArg (sealedOut [cellAt0 2 5 0] [] id) 0 (rrpAdd .hz60 (at_ 100 9 0) (rlTicks 1)) = some 0 &&
    runs (.bindingCutoff (at_ 100 9 0) 0) (sealedOut [cellAt0 2 5 0] [] id) (fun u => (outAt u 0).cells.length = 1 && (outAt u 0).cells.all fun r => r.counting)) = true := by
  decide +kernel
def paired (st : PairState) (n : Nat) : State := sealedOut [] [] fun o => { o with pair := st, pairRun := n, pairCond := st = .asserted, link := .up, healthyLow := st = .asserted }
theorem test_pair : (runs (.healthyRelease now 0) (paired .asserted 0) (fun u => (outAt u 0).pair = .released && !(outAt u 0).healthyLow) &&
    pairHealthy (paired .starting 2) 0 && runs (.healthyAssert now 0) (paired .starting 2) (fun u => (outAt u 0).pair = .asserted && (outAt u 0).healthyLow) &&
    runs (.healthyAssert now 0) (paired .rearming 60) (fun u => (outAt u 0).pair = .asserted) &&
    runs (.healthyAssert now 0) (paired .rearming 59) (fun u => (outAt u 0).pair = .rearming)) = true := by decide +kernel
theorem test_pair_rearm : (writeStatus (atTime { paired .released 9 with mode := .service } now) svc 0x3034 0 (numData 0x3034 0 1) = 0 &&
    runs (.pairRearm now svc 0 1) { paired .released 9 with mode := .service } (fun u => answers u svc 0x3034 0 stOk && (outAt u 0).pair = .rearming && (outAt u 0).pairRun = 0) &&
    runs (.pairRearm now svc 0 1) { paired .starting 9 with mode := .service } (fun u => answers u svc 0x3034 0 stMode && (outAt u 0).pair = .starting)) = true := by decide +kernel

/-! Writes of an output's entries -/

theorem test_matrix_commit : (writeStatus (atTime (srv (out0 id)) now) svc 0x3012 0x0D (numData 0x3012 0x0D 1) = 0 && runs (.matrixCommit now svc 0 2 1) (srv (out0 id))
    (fun u => answers u svc 0x3012 0x0D stOk && (outAt u 0).matNext = [(2, now, [4096, 0, 0, 0, 4096, 0, 0, 0, 4096, 0, 0, 0])])) = true := by decide +kernel
theorem test_immediate_enable : (writeStatus (atTime (srv (out0 id)) now) svc 0x3048 1 (numData 0x3048 1 0) = 0 && outRuns (srv (out0 id)) 0 &&
    runs (.immediateEnable now svc 0 0) (srv (out0 fun o => { o with immediate := [(now, 0, desc0)] })) (fun u => answers u svc 0x3048 1 stOk && (outAt u 0).immediate = []) &&
    !outRuns (srv world) 1 && runs (.immediateEnable now svc 1 0) (srv world) (fun u => answers u svc 0x3148 1 stMode && u.outs = world.outs)) = true := by decide +kernel

/-! ### Links and AUX (chapter 08) -/

/-- Output 0 runs over DisplayPort on 4 lanes of HBR3, or over LVDS. -/
def linked0 (link : Nat) (f : Output → Output) : State :=
  let l := { last0 with plans := [{ plan0 with link := link, linkRate := if link = 4 then 4 else 0 }] }
  { world with
    lasts := { world.lasts with slots := vecMod world.lasts.slots 0 fun q => { q with last := some l } }
    outs := vecMod world.outs 0 fun o => f { o with scan := .running, carrying := true, sendLive := true, hpd := true } }
theorem test_hpd : (domainOn (linked0 4 id) (dispDomain 0) && (dpPlan (linked0 4 id) 0).isSome && runs (.hpdPlug now 0) (linked0 4 fun o => { o with hpd := false })
      (fun u => (outAt u 0).hpd && (outAt u 0).link = .reading) &&
    runs (.hpdUnplug now 0) (linked0 4 fun o => { o with link := .up }) (fun u => !(outAt u 0).hpd && (outAt u 0).link = .noSink && !(outAt u 0).sendLive)) = true := by
  decide +kernel
def trained (f : Output → Output) : State := { linked0 4 f with dict := [(dkey 0x3042 1, .num 4), (dkey 0x3042 2, .num 4)] }
theorem test_irq : (runs (.irqHpd now 0 []) (trained fun o => { o with link := .training }) (fun u => (outAt u 0).link = .reading) &&
    laneLoss 4 [1, 0, 0x77, 0x17, 1, 0] && runs (.irqHpd now 0 [1, 0, 0x77, 0x17, 1, 0]) (trained fun o => { o with link := .up }) (fun u =>
      (outAt u 0).link = .training && !(outAt u 0).sendLive && entryNum u 0x3043 0 = 1) &&
    !laneLoss 4 [1, 0, 0x77, 0x77, 1, 0] && runs (.irqHpd now 0 [1, 0, 0x77, 0x77, 1, 0]) (trained fun o => { o with link := .up }) (fun u =>
      u.outs = (trained fun o => { o with link := .up }).outs)) = true := by decide +kernel
/-- A sink of HBR2 and 4 lanes. -/
def caps0 : Bytes := [0x12, 0x14, 0x84, 0]
def trainable (l : LinkState) : State := { linked0 4 (fun o => { o with link := l }) with dict := [(dkey 0x3046 0, .raw caps0)] }
theorem test_candidates : candidates (trainable .training) { plan0 with link := 4, linkRate := 4 } (entryBytes (trainable .training) 0x3046 0) =
    [(3, 4), (2, 4), (1, 4), (3, 2), (2, 2), (1, 2), (3, 1), (2, 1), (1, 1)] := by decide +kernel
theorem test_training : (runs (.linkTrainingComplete now 0 [] [] [(3, 4)]) (trainable .training) (fun u => (outAt u 0).link = .up && entryNum u 0x3042 1 = 2 && entryNum u 0x3042 2 = 4) &&
    runs (.linkTrainingComplete now 0 [] [] [(3, 4), (2, 4), (1, 4), (3, 2), (2, 2), (1, 2), (3, 1), (2, 1), (1, 1)]) (trainable .training)
      (fun u => (outAt u 0).link = .failed && entryNum u 0x3042 1 = 0) &&
    runs (.linkTrainingComplete now 0 caps0 [] []) { trainable .reading with dict := [] } (fun u => (outAt u 0).link = .up && entryNum u 0x3042 1 = 3)) = true := by decide +kernel
theorem test_training_retry : runs (.linkTrainingRetry now 0) (trainable .failed) (fun u => (outAt u 0).link = .reading) = true := by decide +kernel
theorem test_phy : (runs (.phyFault now 0) (trained fun o => { o with link := .up }) (fun u => (outAt u 0).link = .phyFault && !(outAt u 0).sendLive && entryNum u 0x3042 1 = 0) &&
    runs (.phyRetry now 0 true) (trained fun o => { o with link := .phyFault, phyAttempts := 1 }) (fun u => (outAt u 0).phyAttempts = 2 && (outAt u 0).link = .phyFault) &&
    runs (.phyRetry now 0 false) (trained fun o => { o with link := .phyFault, phyAttempts := 1 }) (fun u => (outAt u 0).phyAttempts = 2 && (outAt u 0).link = .reading) &&
    runs (.phyRetry now 0 false) (linked0 16 fun o => { o with link := .phyFault, phyAttempts := 1 }) (fun u => (outAt u 0).link = .up)) = true := by decide +kernel
theorem test_test_pattern : (writeStatus (atTime (srv (linked0 16 id)) now) svc 0x3049 0 (numData 0x3049 0 4) = 0 &&
    runs (.testPattern now svc 0 4) (srv (linked0 16 id)) (fun u => answers u svc 0x3049 0 stMode && u.outs = (linked0 16 id).outs) &&
    runs (.testPattern now svc 0 0) (srv (linked0 4 fun o => { o with link := .testPattern })) (fun u => answers u svc 0x3049 0 stOk && (outAt u 0).link = .training)) = true := by
  decide +kernel
def descBytes : Bytes :=
  [0, 1, 1, 255, 0, 0, 0, 0] ++ leBytes 8 0x10000 ++ leBytes 8 0 ++ leBytes 4 64 ++ leBytes 4 0 ++ leBytes 2 0 ++ leBytes 2 0 ++ leBytes 2 4 ++ leBytes 2 4 ++
    leBytes 2 0 ++ leBytes 2 0 ++ zeroBytes 4 ++ leBytes 8 0 ++ zeroBytes 8
def immOn : State := { srv (linked0 4 id) with dict := [(dkey 0x3048 1, .num 1)] }
theorem test_immediate : (descBytes.length = 64 && writeStatus (atTime immOn now) svc 0x3048 2 descBytes = 0 &&
    (if immediateOk immOn plan0 descBytes then runs (.immediateDescriptor now svc 0 descBytes) immOn (fun u => answers u svc 0x3048 2 stOk && (outAt u 0).immediate = [(now, 0, descOf descBytes)])
      else false) && !immediateOk immOn plan0 (zeroBytes 63 ++ [1]) &&
    runs (.immediateDescriptor now svc 0 (zeroBytes 63 ++ [1])) immOn (fun u => answers u svc 0x3048 2 stRange && u.outs = immOn.outs)) = true := by decide +kernel

def auxRead : Bytes := [9, 0, 2, 0, 6]
theorem test_aux : (writeStatus (atTime (srv (linked0 4 id)) now) svc 0x3047 1 auxRead = 0 && auxFormatOk auxRead && !auxProtected auxRead &&
    runs (.auxRequest now svc 0 auxRead) (srv (linked0 4 id)) (fun u => answers u svc 0x3047 1 stOk && u.emitted.drop 1 = [.aux 0 0x200 []] && (outAt u 0).auxQueue = [(0x200, auxRead)]) &&
    !auxFormatOk [9, 0, 2, 0, 17] && runs (.auxRequest now svc 0 [9, 0, 2, 0, 17]) (srv (linked0 4 id)) (fun u => answers u svc 0x3047 1 stRange)) = true := by decide +kernel
theorem test_aux_protected : (writeStatus (atTime (linked0 4 id) now) canOrigin 0x3047 1 [8, 0, 1, 0, 1, 5] = 0 && auxFormatOk [8, 0, 1, 0, 1, 5] && auxProtected [8, 0, 1, 0, 1, 5] &&
    runs (.auxRequest now canOrigin 0 [8, 0, 1, 0, 1, 5]) (linked0 4 id) (fun u => answers u canOrigin 0x3047 1 stOk && entryBytes u 0x3047 2 = [4])) = true := by decide +kernel
theorem test_aux_reply : runs (.auxReply now 0 0 [1, 2, 3, 4, 5, 6, 7] 0) (linked0 4 fun o => { o with auxQueue := [(0x200, auxRead), (5, [])] }) (fun u =>
    (outAt u 0).auxQueue = [(5, [])] && entryBytes u 0x3047 2 = [0, 1, 2, 3, 4, 5, 6]) = true := by decide +kernel
theorem test_scanout_lvds : (sentLine (linked0 16 fun o => { o with lead := [(9, px0)] }) 0 9 = some px0 &&
    runs (.scanoutLine now 0 9 [] []) (linked0 16 fun o => { o with lead := [(9, px0)] }) (fun u => (outAt u 0).lead = [] &&
      match u.emitted.head? with
      | some (.lvds 0 9 a b de hs vs) => a.length = 1 && b.length = 1 && de && !hs && vs
      | _ => false)) = true := by decide +kernel

/-! ### Graphics (chapter 09) -/

def dramOf (l : List (Nat × Bytes)) : SMap Byte := l.foldl (fun m e => (enumFrom e.1 e.2).foldl (fun m q => SMap.set dramDefault m q.1 q.2) m) []
def words (l : List Nat) : Bytes := l.flatMap (leBytes 4)
def jobAt (pos len : Nat) : GpuJob :=
  { cmdAddr := 0x10000, cmdLen := len, seq := 1, fence := 0, frame := false, arrival := now, pos := pos, waiting := false, blocked := false, ended := none }
/-- Context 0 runs a job on cluster 0 whose command buffer holds the words, with more memory beside. -/
def gpuRuns (ws : List Nat) (m : List (Nat × Bytes)) (f : GpuCtx → GpuCtx) : State :=
  { world with
    dram := dramOf ((0x10000, words ws) :: m)
    gpu := { world.gpu with
      clusters := vecMod world.gpu.clusters 0 fun c => { c with holder := some 0 }
      ctxs := vecMod world.gpu.ctxs 0 fun c => f { c with job := some (jobAt 0 (4 * ws.length)), window := some ⟨[0], at_ 100 20 0, now⟩ } } }
/-- A read that is answered changes none of these, and nothing else. -/
def same (u s : State) : Bool := u.gpu.ctxs.toList.map (fun c => c.job) = s.gpu.ctxs.toList.map (fun c => c.job) && u.sregs = s.sregs && u.dict = s.dict && u.emitted = s.emitted && u.free = s.free
/-- `PacketAt`, as a test. -/
def packetAt (s : State) (k op n : Nat) (j : GpuJob) (b : Bytes) : Bool :=
  k < 32 && ctxRuns s k && (ctxAt s k).job = some j && j.ended = none && !j.waiting && (packetWords op = some n || (op = 0 && 1 ≤ n && n < 65536)) &&
    j.pos + 4 * n ≤ j.cmdLen && placeOk op (ctxAt s k).pass.isSome && (jobRead s k (j.cmdAddr + j.pos) 4).1 = leBytes 4 (op * 2 ^ 24 + n) &&
    (jobRead s k (j.cmdAddr + j.pos + 4) (4 * n - 4)).1 = b && same (jobRead s k (j.cmdAddr + j.pos + 4) (4 * n - 4)).2 s
def past (u : State) (n : Nat) : Bool := match (ctxAt u 0).job with
  | some q => q.pos = 4 * n && q.ended = none && !q.waiting
  | none => false
def fails (u : State) (st d : Nat) : Bool := match (ctxAt u 0).job with
  | some q => q.ended = some (st, d)
  | none => false

theorem test_window_close : runs (.gpuWindowClose (at_ 100 20 0) 0) (gpuRuns [1] [] id) (fun u => (ctxAt u 0).window = none && (clusterAt u 0).vacating) = true := by decide +kernel
def leaving : State := { world with gpu := { world.gpu with
  clusters := vecMod world.gpu.clusters 0 fun c => { c with holder := some 0, vacating := true }
  ctxs := vecMod world.gpu.ctxs 3 fun c => { c with window := some ⟨[0], at_ 100 20 0, now⟩ } } }
theorem test_save : (runs (.preemptGraceExpire now 0) leaving (fun u => (clusterAt u 0).saving) &&
    runs (.clusterSaveComplete now 0) leaving (fun u => (clusterAt u 0).holder = some 3 && !(clusterAt u 0).vacating)) = true := by decide +kernel
theorem test_cluster_fault : (runs (.clusterFault now 1 false) world (fun u => (clusterAt u 1).isolated && (clusterAt u 1).faults = [now]) &&
    runs (.clusterFault now 1 true) { world with gpu := { world.gpu with clusters := vecMod world.gpu.clusters 1 fun c => { c with faults := [at_ 100 9 0, at_ 99 0 0] } } }
      (fun u => (clusterAt u 1).isolated && (clusterAt u 1).holder = none)) = true := by decide +kernel
theorem test_job_complete : (runs (.gpuJobComplete now 0) (gpuRuns [1] [] fun c => { c with job := some { jobAt 0 4 with ended := some (7, 5) } }) (fun u =>
      (ctxAt u 0).job = none && sreg u 0 0x234 = 7 * 2 ^ 24 + 5) &&
    runs (.gpuJobComplete now 0) (gpuRuns [1] [] fun c => { c with job := some (jobAt 4 4) }) (fun u => (ctxAt u 0).job = none && sreg u 0 0x234 = 0)) = true := by decide +kernel
def feedPic : FeedPic := ⟨1, 0, 4, 4, false, [], [], false, now⟩
def compRuns : State := { world with gpu := { world.gpu with
  clusters := vecMod world.gpu.clusters 0 fun c => { c with holder := some 32 }, compJobs := [(2, 1), (3, 1)]
  ctxs := vecMod world.gpu.ctxs 32 fun c => { c with window := some ⟨[0], at_ 100 20 0, now⟩ } } }
theorem test_cluster_guest : runs (.clusterFault now 0 true) (gpuRuns [1] [] id) (fun u => (clusterAt u 0).holder = none && (ctxAt u 0).job = none) = true := by
  decide +kernel
theorem test_compositor_done : (ctxRuns compRuns 32 && runs (.gpuJobComplete now 32) compRuns (fun u => u.gpu.compJobs = [(3, 1)])) = true := by decide +kernel
theorem test_compositor : runs (.compositorJobIssue now 2) { world with media := { world.media with feeds := vecMod world.media.feeds 2 fun q => { q with scaling := [feedPic] } } }
    (fun u => u.gpu.compJobs = [(2, 1)] && u.gpu.quads = 1) = true := by decide +kernel

theorem test_nop : (packetAt (gpuRuns [2, 9] [] id) 0 0 2 (jobAt 0 8) (words [9]) && runs (.nop now 0) (gpuRuns [2, 9] [] id) (past · 2) &&
    packetAt (gpuRuns [0x0A000001] [] id) 0 0x0A 1 (jobAt 0 4) [] && runs (.barrier now 0) (gpuRuns [0x0A000001] [] id) (past · 1) &&
    runs (.nop now 0) (gpuRuns [0x0E000001] [] id) (fails · 7 0)) = true := by decide +kernel
/-- A vertex program of 16 bytes of code and no bindings. -/
def shader : Bytes := words [0x31434853, 0x00000001, 0x00020051, 80, 64, 16] ++ leBytes 4 (crcOf crc32c (zeroBytes 16)) ++ words [8, 0, 0, 72] ++ zeroBytes 20 ++ zeroBytes 16
def bind0 : State := gpuRuns [0x01000005, 0, 0x20000, 0, 80] [(0x20000, shader)] id
theorem test_bind_program : (shader.length = 80 && packetAt bind0 0 1 5 (jobAt 0 20) (words [0, 0x20000, 0, 80]) && (jobRead bind0 0 0x20000 80).1 = shader &&
    same (jobRead bind0 0 0x20000 80).2 bind0 && shaderCheck shader 0 80 false = 0 && runs (.bindProgram now 0) bind0 (fun u => past u 5 &&
      (vecAt (ctxAt u 0).progs 0 none).any fun p => p.addr = 0x20000 && p.bindings = [])) = true := by decide +kernel
theorem test_bind_bad : (shaderCheck shader 1 80 false = 3 && shaderCheck shader 0 81 false = 5 && shaderCheck (shader.set 70 1) 0 80 false = 6 &&
    runs (.bindProgram now 0) (gpuRuns [0x01000005, 1, 0x20000, 0, 80] [(0x20000, shader)] id) (fails · 8 3)) = true := by decide +kernel
def resource0 : Bytes := leBytes 8 0x30000 ++ leBytes 4 64 ++ [1, 0] ++ zeroBytes 18
theorem test_bind_resources : (packetAt (gpuRuns [0x02000005, 1, 0x20000, 0, 1] [(0x20000, resource0)] id) 0 2 5 (jobAt 0 20) (words [1, 0x20000, 0, 1]) &&
    runs (.bindResources now 0) (gpuRuns [0x02000005, 1, 0x20000, 0, 1] [(0x20000, resource0)] id) (fun u => past u 5 && vecAt (ctxAt u 0).res 1 [] = [some ⟨0x30000, 64, 1, 0, 0, 0, 0, 0⟩])) = true := by
  decide +kernel
theorem test_set_state : (packetAt (gpuRuns [0x04000003, 5, 6] [] id) 0 4 3 (jobAt 0 12) (words [5, 6]) && runs (.setState now 0) (gpuRuns [0x04000003, 5, 6] [] id)
    (fun u => past u 3 && (ctxAt u 0).state = (5, 6)) && runs (.setState now 0) (gpuRuns [0x04000003, 12, 6] [] id) (fails · 7 0)) = true := by decide +kernel
/-- A pass of one 2 × 1 ARGB8888 target cleared to 0xFF112233. -/
def target0 : List Nat := [0x11, 0x10002, 0x40000, 0, 64, 1, 0xFF112233, 0, 0] ++ List.replicate 28 0
def inPass (ws : List Nat) : State := gpuRuns ws [] fun c => { c with pass := some ⟨1, 2, 1, [⟨0x40000, 64, 1, 0, 0xFF112233, 0⟩], none, 0, [], [], 0, []⟩ }
theorem test_set_target : (packetAt (gpuRuns (0x03000026 :: target0) [] id) 0 3 38 (jobAt 0 152) (words target0) && runs (.setTarget now 0) (gpuRuns (0x03000026 :: target0) [] id)
    (fun u => past u 38 && (ctxAt u 0).pass = some ⟨1, 2, 1, [⟨0x40000, 64, 1, 0, 0xFF112233, 0⟩], none, 0, [], [], 0, []⟩)) = true := by decide +kernel
theorem test_end_pass : (packetAt (inPass [0x09000001]) 0 9 1 (jobAt 0 4) [] && runs (.endPass now 0) (inPass [0x09000001]) (fun u => past u 1 && (ctxAt u 0).pass = none &&
    memBytes u 0x40000 9 = [0x33, 0x22, 0x11, 0xFF, 0x33, 0x22, 0x11, 0xFF, 0])) = true := by decide +kernel
def prog (rays : Bool) : Program := ⟨0x20000, 0, 80, rays, 1, []⟩
def withProgs (s : State) : State := { s with gpu := { s.gpu with ctxs := vecMod s.gpu.ctxs 0 fun c => { c with progs := ⟨#[some (prog false), some (prog false), some (prog true)], rfl⟩ } } }
theorem test_draw_checks : (packetAt (inPass [0x05000005, 3, 0, 1, 0]) 0 5 5 (jobAt 0 20) (words [3, 0, 1, 0]) && workCheck (ctxAt (inPass []) 0) true false = 0x0A &&
    runs (.draw now 0 [] false) (inPass [0x05000005, 3, 0, 1, 0]) (fails · 8 0x0A) && workCheck (ctxAt (withProgs (inPass [])) 0) true false = 0 &&
    0 + 64 ≤ pbBudget { inPass [] with sregs := SMap.set zeroReg [] (skey 0 0x220) 64 } 0) = true := by decide +kernel
theorem test_draw_indexed : (packetAt (inPass [0x06000007, 3, 0, 1, 0, 0, 0]) 0 6 7 (jobAt 0 28) (words [3, 0, 1, 0, 0, 0]) &&
    runs (.drawIndexed now 0 [] false) (inPass [0x06000007, 3, 0, 1, 0, 0, 0]) (fails · 8 0x0A) &&
    runs (.drawIndexed now 0 [] false) (inPass [0x06000007, 3, 0, 2, 0, 0, 0]) (fails · 7 0)) = true := by decide +kernel
theorem test_compute : (packetAt (gpuRuns [0x07000004, 1, 1, 1] [] id) 0 7 4 (jobAt 0 16) (words [1, 1, 1]) && runs (.dispatch now 0 false) (gpuRuns [0x07000004, 1, 1, 1] [] id) (fails · 8 0x0A) &&
    packetAt (gpuRuns [0x08000004, 1, 1, 1] [] id) 0 8 4 (jobAt 0 16) (words [1, 1, 1]) && runs (.traceRays now 0 false) (gpuRuns [0x08000004, 1, 1, 1] [] id) (fails · 8 0x0A) &&
    workCheck (ctxAt (withProgs world) 0) false true = 0 && runs (.dispatch now 0 false) (gpuRuns [0x07000004, 1, 0, 1] [] id) (fails · 7 0)) = true := by decide +kernel
/-- A pass with a parameter buffer of 64 KiB, and a primitive on a tile of its own. -/
def drawing (ws : List Nat) (used : Nat) (samples : Nat) : State :=
  let s := withProgs (inPass ws)
  { s with
    sregs := SMap.set zeroReg (SMap.set zeroReg [] (skey 0 0x218) 0x80000) (skey 0 0x220) 64
    gpu := { s.gpu with ctxs := vecMod s.gpu.ctxs 0 fun c => { c with
      pass := c.pass.map fun p => { p with pbUsed := used, tiles := [(0, 0)], samples := samples } } } }
def prim0 : Prim := ⟨0, [(1, 0)]⟩
/-- What a draw does from here on is free; the conditions under which it runs, and under which its pass overflows, hold. -/
theorem test_draw_runs : (pbBudget (drawing [0x05000005, 3, 0, 1, 0] 0 1) 0 = 65536 && workCheck (ctxAt (drawing [0x05000005, 3, 0, 1, 0] 0 1) 0) true false = 0 &&
    packetAt (drawing [0x05000005, 3, 0, 1, 0] 0 1) 0 5 5 (jobAt 0 20) (words [3, 0, 1, 0]) &&
    packetAt (drawing [0x06000007, 3, 0, 1, 0, 0, 0] 0 1) 0 6 7 (jobAt 0 28) (words [3, 0, 1, 0, 0, 0]) && prim0.bytes ≤ 65536) = true := by
  decide +kernel
theorem test_draw_partial : (packetAt (drawing [0x05000005, 3, 0, 1, 0] 65536 1) 0 5 5 (jobAt 0 20) (words [3, 0, 1, 0]) && 65536 < 65536 + 64 &&
    ((ctxAt (drawing [] 65536 1) 0).pass.any partialOk) && packetAt (drawing [0x05000005, 3, 0, 1, 0] 65536 4) 0 5 5 (jobAt 0 20) (words [3, 0, 1, 0]) &&
    ((ctxAt (drawing [] 65536 4) 0).pass.any fun p => !partialOk p)) = true := by decide +kernel
theorem test_compute_runs : (packetAt (withProgs (gpuRuns [0x07000004, 1, 1, 1] [] id)) 0 7 4 (jobAt 0 16) (words [1, 1, 1]) &&
    packetAt (withProgs (gpuRuns [0x08000004, 1, 1, 1] [] id)) 0 8 4 (jobAt 0 16) (words [1, 1, 1]) && workCheck (ctxAt (withProgs world) 0) false false = 0 &&
    workCheck (ctxAt (withProgs world) 0) false true = 0) = true := by decide +kernel
def wait (v : Nat) : State := gpuRuns [0x0B000005, 0x50000, 0, 5, 0] [(0x50000, leBytes 8 v)] id
theorem test_wait_mem : (packetAt (wait 5) 0 0x0B 5 (jobAt 0 20) (words [0x50000, 0, 5, 0]) && (jobRead (wait 5) 0 0x50000 8).1 = leBytes 8 5 && runs (.waitMem now 0) (wait 5) (past · 5) &&
    runs (.waitMem now 0) (wait 4) (fun u => (ctxAt u 0).job = some { jobAt 0 20 with waiting := true })) = true := by decide +kernel
def waits : State := updJob (wait 9) 0 fun j => { j with waiting := true }
theorem test_wait_satisfied : (packetAt (updJob waits 0 fun j => { j with waiting := false }) 0 0x0B 5 (jobAt 0 20) (words [0x50000, 0, 5, 0]) &&
    runs (.waitMemSatisfied now 0) waits (past · 5)) = true := by decide +kernel
def write0 : State := gpuRuns [0x0C000005, 0x50000, 0, 0x01020304, 0x05060708] [] id
theorem test_write_mem : (packetAt write0 0 0x0C 5 (jobAt 0 20) (words [0x50000, 0, 0x01020304, 0x05060708]) && sliceMay write0 0 true 0x50000 8 false && quiet write0 &&
    (rangeFrom 0 8).all (fun g => !groupLost write0 g && !mirrored write0 (0x50000 + g)) && runs (.writeMem now 0) write0 (fun u => past u 5 &&
      memBytes u 0x50000 8 = [4, 3, 2, 1, 8, 7, 6, 5])) = true := by decide +kernel
def hit : State := { gpuRuns [0x0D000006, 2, 0, 0, 0, 0] [] id with lasts := { world.lasts with lock := some ⟨[1, 1, 1, 1], [(0, 0, 0)], [⟨3, 2, false, 0, 0⟩], [], 1, []⟩ } }
theorem test_hittest : (packetAt hit 0 0x0D 6 (jobAt 0 24) (words [2, 0, 0, 0, 0]) && ownerSlice hit 3 2 = some 0 && runs (.hittestScene now 0) hit (fun u => past u 6 &&
    vecAt u.gpu.hitNext 2 none = some none)) = true := by decide +kernel

/-! ### Video inputs and feeds (chapter 10) -/

def med (f : Media → Media) : State := { world with media := f world.media }
def cap (f : Capture → Capture) : State := med fun m => { m with captures := vecMod m.captures 0 f }
/-- What a source sends: HBR2 on 4 lanes, RGB, 8 bits, 148.5 MHz. -/
def sent0 : Sent := .stream 540 4 true 8 148500
theorem test_signal : (mediaOn world && runs (.captureSignalChange now 0 sent0 1920 1080 148) world (fun u =>
    (captureAt u 0).signal = sent0 && (captureAt u 0).width = 1920 && (captureAt u 0).height = 1080 && (captureAt u 0).job = none)) = true := by decide +kernel
def grab : DecJob :=
  { bsAddr := 0, bsLen := 0, seq := 1, fence := 0, luma := 0x10000, chroma := 0, pitch := 64, stream := 0, flags := 16, dpbAddr := 0, dpbKiB := 0 }
/-- Input 0 enabled, capturing, owned by slice 0; its ring holds the job. -/
def capturing (cur : Option (DecJob × Rrp)) : State :=
  { med (fun m => { m with captures := vecMod m.captures 0 fun c => { c with signal := sent0, width := 1920, height := 1080 }, rings := vecMod m.rings 0 fun q => { q with cur := cur } }) with
    dict := [(dkey 0x5700 1, .num 1)]
    lasts := { world.lasts with lock := some ⟨[1, 1, 1, 1], [(0, 0, 0)], [⟨2, 0, false, 0, 0⟩], [], 1, []⟩ } }
theorem test_capture_start : (captureState (capturing none) 0 = 3 && ownerSlice (capturing none) 2 0 = some 0 &&
    runs (.captureFrameStart now 0) (capturing (some (grab, now))) (fun u => (captureAt u 0).job = some (0, grab)) &&
    runs (.captureFrameStart now 0) (capturing none) (fun u => entryNum u 0x5704 1 = 1 && (captureAt u 0).job = none)) = true := by decide +kernel
/-- Input 0 owned by no slice, feed 2 taking it. -/
def fromInput : State :=
  { capturing none with
    dict := [(dkey 0x5700 1, .num 1), (dkey 0x5742 2, .num 1)]
    lasts := { world.lasts with lock := none }
    media := { (capturing none).media with feeds := vecMod (capturing none).media.feeds 2 fun q => { q with live := true } } }
/-- The job waits behind the head of slice 0's ring. -/
def queued : State :=
  { capturing none with
    sregs := SMap.set zeroReg (SMap.set zeroReg [] (skey 0 0x300) 0x20000) (skey 0 0x308) (2 ^ 31 + 4)
    dram := SMap.set dramDefault [] 0x2002D 16
    media := { (capturing none).media with rings := vecMod (capturing none).media.rings 0 fun q => { q with tail := 1 } } }
theorem test_capture_queued : (captureQueued (atTime queued now) 0 0 && runs (.captureFrameStart now 0) queued (fun u =>
    entryNum u 0x5704 1 = 0 && (captureAt u 0).job = none)) = true := by decide +kernel
theorem test_capture_feeds : (ownerSlice fromInput 2 0 = none && !secureOwned fromInput 2 0 && captureState fromInput 0 = 3 && feedsOn fromInput 1 = [2] &&
    runs (.captureFrameStart now 0) fromInput (fun u => (captureAt u 0).toFeeds)) = true := by decide +kernel
theorem test_capture_complete : runs (.captureFrameComplete now 0 8 [[⟨1, 2, 3⟩], [⟨4, 5, 6⟩]]) (cap fun c => { c with job := some (0, grab) }) (fun u =>
    (captureAt u 0).job = none && (decRingAt u 0).cur = none && memBytes u 0x10000 4 = [3, 2, 1, 255] && memBytes u 0x10040 4 = [6, 5, 4, 255]) = true := by decide +kernel
theorem test_edid : (writeStatus (atTime (srv world) now) svc 0x5703 1 (zeroBytes 256) = 0 && runs (.captureEdidWrite now svc 0 (zeroBytes 256)) (srv world) (fun u =>
      answers u svc 0x5703 1 stOk && entryBytes u 0x5703 1 = zeroBytes 256 && (captureAt u 0).hpdHold) &&
    runs (.captureEdidWrite now svc 0 [1]) (srv world) (fun u => answers u svc 0x5703 1 stLength && !(captureAt u 0).hpdHold) &&
    runs (.captureHpdRestore now 0) (cap fun c => { c with hpdHold := true }) (fun u => !(captureAt u 0).hpdHold)) = true := by decide +kernel
theorem test_edid_open : writeStatus (atTime (srv world) now) svc 0x5703 1 [1] = 0 := by decide +kernel

def pic0 : Picture := { syntaxOk := true, irap := true, refsOk := true, profile := .main, level := 51, yuv420 := true, width := 4, height := 4, deep := false, poc := 0, maxRefs := 1 }
def decode0 : DecJob := { grab with flags := 0, bsAddr := 0x20000, bsLen := 64 }
def decoding : State := med fun m => { m with rings := vecMod m.rings 0 fun q => { q with cur := some (decode0, now) } }
theorem test_decode_complete : (decodesNow decoding 0 now && runs (.decoderJobComplete now 0 pic0) decoding (fun u =>
    (decRingAt u 0).cur = none)) = true := by decide +kernel
/-- Feed 2 takes H.264 of payload type 96 from ETH0, group 5, port 6, for layer 1 of output 0 at (0, 0), 4 × 4, from a pool of 1 MiB. -/
def feedDict (src : Nat) : SMap DVal :=
  [(dkey 0x5720 1, .num 0x100000), (dkey 0x5720 2, .num 1024), (dkey 0x5742 1, .num 1), (dkey 0x5742 2, .num src), (dkey 0x5742 3, .num 5), (dkey 0x5742 4, .num 6),
   (dkey 0x5742 5, .num 96), (dkey 0x5742 7, .num 0x40004), (dkey 0x5742 8, .num 0xFF000000), (dkey 0x5742 0x0A, .num 30)]
def feeding (f : Feed → Feed) : State := { med (fun m => { m with feeds := vecMod m.feeds 2 f }) with dict := feedDict 3 }
def live : Feed → Feed := fun q => { q with joined := true, live := true, ssrc := some 0x01020304, nextSeq := some 7 }
def rtp (seq : Nat) : Bytes := [0x80, 0xE0, 0, BitVec.ofNat 8 seq, 0, 0, 0, 9, 1, 2, 3, 4, 0x65]
theorem test_rtp : (rtpPt (rtp 7) = 96 && rtpOk 0 (rtp 7) && rtpMarker (rtp 7) && rtpSsrc (rtp 7) = 0x01020304 && rtpSeq (rtp 7) = 7 &&
    runs (.rtpPacket now 0 5 6 (rtp 7)) (feeding live) (fun u => (feedAt u 2).pictureReady = [now] && (feedAt u 2).nextSeq = some 8)) = true := by decide +kernel
theorem test_rtp_order : runs (.rtpPacket now 0 5 6 ((rtp 8).set 1 0x60)) (feeding live) (fun u => (feedAt u 2).held.length = 1 && (feedAt u 2).nextSeq = some 7 &&
    runs (.rtpPacket now 0 5 6 (rtp 7)) u (fun u => (feedAt u 2).pictureReady.length = 1 && (feedAt u 2).held = [] && (feedAt u 2).nextSeq = some 9)) = true := by decide +kernel
theorem test_rtp_gap : runs (.rtpPacket now 0 5 6 (rtp 9)) (feeding live) (fun u => (feedAt u 2).pictureReady = [] && (feedAt u 2).waitIrap &&
    (feedAt u 2).nextSeq = some 10) = true := by decide +kernel
/-- Feed 2 with two coded pictures; its buffers stand at the start of the pool. -/
def coded (wait : Bool) : State := feeding fun q => { live q with pictureReady := [at_ 99 0 0, now], waitIrap := wait, place := some 0 }
theorem test_feed_picture : (poolHolds (coded true) 2 && !feedScale (coded true) 2 && pictureLimits 0 pic0 &&
    runs (.feedPictureComplete now 2 { pic0 with width := 8 }) (coded true) (fun u =>
      (feedAt u 2).pictureReady = [now] && !(feedAt u 2).waitIrap && (feedAt u 2).newest = some ⟨0, 0, 8, 4, false, [], [], false, now⟩) &&
    runs (.feedPictureComplete now 2 { pic0 with syntaxOk := false }) (coded false) (fun u =>
      (feedAt u 2).pictureReady = [now] && (feedAt u 2).waitIrap && (feedAt u 2).newest = none && entryNum u 0x5742 0x0E = 1) &&
    runs (.feedPictureComplete now 2 { pic0 with irap := false }) (coded true) (fun u =>
      (feedAt u 2).pictureReady = [now] && (feedAt u 2).waitIrap && (feedAt u 2).newest = none)) = true := by decide +kernel
def scaled : State := { coded true with dict := (coded true).dict.map fun e => if e.1 = dkey 0x5742 8 then (e.1, .num 0xFF000100) else e }
theorem test_feed_scaled : (feedScale scaled 2 && runs (.feedPictureComplete now 2 pic0) scaled (fun u => (feedAt u 2).made = 1 &&
    (feedAt u 2).newest = none && match (feedAt u 2).scaling with
      | [e] => e.no = 0 && e.width = 4 && !e.issued
      | _ => false)) = true := by decide +kernel
theorem test_feed_enable : (writeStatus (atTime (srv (feeding id)) now) svc 0x5742 0x0B (numData 0x5742 0x0B 2) = 0 && feedMayEnable (srv (feeding id)) 2 2 &&
    runs (.feedEnable now svc 2 2) (srv (feeding id)) (fun u => answers u svc 0x5742 0x0B stOk && (feedAt u 2).joined && (feedAt u 2).live) &&
    runs (.feedEnable now svc 2 0) (srv (feeding live)) (fun u => answers u svc 0x5742 0x0B stOk && feedAt u 2 = resetFeed)) = true := by decide +kernel
theorem test_feed_refused : (!feedMayEnable { srv (feeding id) with dict := [] } 2 2 && writeStatus (atTime { srv (feeding id) with dict := [] } now) svc 0x5742 0x0B (numData 0x5742 0x0B 2) = 0 &&
    runs (.feedEnable now svc 2 2) { srv (feeding id) with dict := [] } (fun u => answers u svc 0x5742 0x0B stRange && entryNum u 0x5742 0x0C = 7)) = true := by decide +kernel
theorem test_feed_hold : runs (.feedHoldExpire now 2) (feeding fun q => { live q with lastNew := 70 }) (fun u => (feedAt u 2).fallback) = true := by decide +kernel

/-! ### Touch (chapter 11) -/

/-- A touch channel n of 2 × 2 electrodes with the field die up. -/
def chan (n : Nat) (f : TouchCh → TouchCh) : State :=
  { world with
    dieLink := true
    touch := vecMod world.touch n f
    dict := [(dkey (touchIndex n 2) 0, .num 6), (dkey (touchIndex n 7) 3, .num 2), (dkey (touchIndex n 7) 4, .num 2), (dkey (touchIndex n 9) 0, .num 60)] }
def scanT (f : TouchCh → TouchCh) : TouchCh → TouchCh := fun c => f { c with
  st := .scanning, raw := [100, 100, 100, 100], base := [1600, 1600, 1600, 1600], txSelf := [50, 50], rxSelf := [50, 50], txBase := [800, 800], rxBase := [800, 800] }
def touch0 : Contact := { id := 3, x := 1, y := 1, u := 0, v := 0, area := 1, strength := 9, flags := 0, nodes := [0], opened := at_ 90 0 0 }
theorem test_touch_start : (fieldOn (chan 0 id) && runs (.touchStartScan now 0) (chan 0 id) (fun u => (touchAt u 0).st = .startScan && (touchAt u 0).step = 1) &&
    runs (.startScanComplete now 0 [9, 8, 7, 6] [5, 4] [3, 2]) (chan 0 fun c => { c with st := .startScan }) (fun u => (touchAt u 0).st = .scanning &&
      (touchAt u 0).raw = [9, 8, 7, 6] && (touchAt u 0).base = [144, 128, 112, 96] && (touchAt u 0).first && (touchAt u 0).contacts = [])) = true := by decide +kernel
/-- A slot of step 1 in which plan 0 fired twice, over at a frame boundary, which ends a measuring interval. -/
def slot0 : TouchSlot := ⟨at_ 100 0 0, 255, 1, [(0, burst0)], [(0, 2)]⟩
theorem test_touch_slot : (measureEnds (atTime world (at_ 100 0 0)) 1 && burstPlans (chan 0 (scanT id)) 0 = [(0, burst0)] &&
    runs (.touchSlotEnd (at_ 100 0 0) 0 []) (chan 0 (scanT fun c => { c with step := 1, fired := [(0, 2)], slotNo := 255 })) (fun u =>
      (touchAt u 0).fired = [] && (touchAt u 0).ended = some slot0 && (touchAt u 0).slotNo = 0 && (touchAt u 0).slotEnd = some (at_ 100 0 0) &&
      entryNum u (touchIndex 0 0x17) 0 = 1)) = true := by decide +kernel
theorem test_touch_frame : runs (.touchFrameComplete now 0) (chan 0 (scanT fun c => { c with first := true, ended := some slot0 })) (fun u =>
    !(touchAt u 0).first && (touchAt u 0).ended = none && (touchAt u 0).raw = [100, 100, 100, 100] && (touchAt u 0).known = (touchAt u 0).contacts) = true := by
  decide +kernel
/-- Half an hour after `now`. -/
def late : Rrp := at_ 108100 10 0
theorem test_touch_step : ((rangeFrom 2 5).find? (stepServed (chan 0 (scanT id)) 0) = some 2 && waited (atTime (chan 0 (scanT id)) late) (touchAt (chan 0 (scanT id)) 0).idleSince (entryNum (chan 0 (scanT id)) (touchIndex 0 3) 1) &&
    runs (.touchStepDown late 0) (chan 0 (scanT id)) (fun u => (touchAt u 0).nextStep = some 2)) = true := by
  decide +kernel
theorem test_suspect : runs (.suspectHoldExpire late 0 0) (chan 0 (scanT fun c => { c with suspects := [⟨0, 30, 70, zeroRrp⟩, ⟨1, 30, 70, zeroRrp⟩], contacts := [touch0] })) (fun u =>
    (touchAt u 0).suspects = [⟨1, 30, 70, zeroRrp⟩] && (touchAt u 0).contacts = []) = true := by decide +kernel
theorem test_touch_lost : runs (.touchChannelLost now 0) (chan 0 (scanT fun c => { c with contacts := [touch0], known := [touch0] })) (fun u =>
    (touchAt u 0).st = .lost && (touchAt u 0).contacts = []) = true := by decide +kernel
theorem test_stale : (entryNum (chan 0 id) (touchIndex 0 9) 0 = 60 && runs (.contactStale late 0 3) (chan 0 (scanT fun c => { c with contacts := [touch0] })) (fun u =>
    (touchAt u 0).contacts.all fun q => q.id ≠ 3 || bit q.flags 1)) = true := by decide +kernel
theorem test_self_test : (writeStatus (atTime (srv (chan 0 (scanT id))) now) svc (touchIndex 0 0x10) 0 (numData (touchIndex 0 0x10) 0 1) = 0 &&
    runs (.touchSelfTestRequest now svc 0 1) (srv (chan 0 (scanT id))) (fun u => answers u svc (touchIndex 0 0x10) 0 stPending && (touchAt u 0).testing && entryNum u (touchIndex 0 0x12) 0 = 3) &&
    runs (.touchSelfTestRequest now svc 0 1) (srv (chan 0 id)) (fun u => answers u svc (touchIndex 0 0x10) 0 stMode && !(touchAt u 0).testing) &&
    runs (.touchSelfTestComplete now 0) (chan 0 (scanT fun c => { c with testing := true, testFrames := List.replicate 8 ([9, 9, 9, 1], [5, 5], [5, 5]) })) (fun u =>
      !(touchAt u 0).testing && entryNum u (touchIndex 0 0x12) 0 = 1)) = true := by decide +kernel
theorem test_self_test_open : runs (.touchSelfTestComplete now 0) (chan 0 (scanT fun c => { c with testing := true, testFrames := List.replicate 8 ([9, 9, 1, 1], [5, 5], [5, 8]) })) (fun u =>
    entryNum u (touchIndex 0 0x12) 0 = 1 + 1 && (touchAt u 0).badTx = [1] && (touchAt u 0).badRx = [0]) = false := by decide +kernel
theorem test_reference : (writeStatus (atTime (srv (chan 0 (scanT id))) now) svc (touchIndex 0 0x0D) 0 (numData (touchIndex 0 0x0D) 0 1) = 0 && releaseSets (srv (chan 0 (scanT id))) 0 = [] &&
    runs (.captureReference now svc 0 1) (srv (chan 0 (scanT id))) (fun u => answers u svc (touchIndex 0 0x0D) 0 stOk && (touchAt u 0).capturing) &&
    runs (.captureReferenceComplete now 0) (chan 0 (scanT fun c => { c with capturing := true, captureFrames := List.replicate 64 ([1, 2, 3, 4], [5, 6], [7, 8]) })) (fun u =>
      !(touchAt u 0).capturing && entryBytes u (touchIndex 0 0x0C) 0 = [1, 0, 2, 0, 3, 0, 4, 0, 5, 0, 6, 0, 7, 0, 8, 0] && referenceState u 0 = 1)) = true := by decide +kernel
def pressed : State := srv (chan 0 (scanT fun c => { c with raw := [0, 100, 100, 100], base := [32000, 1600, 1600, 1600] }))
theorem test_reference_refused : (releaseSets pressed 0 ≠ [] && runs (.captureReference now svc 0 1) pressed (fun u => answers u svc (touchIndex 0 0x0D) 0 stState && !(touchAt u 0).capturing)) = true := by
  decide +kernel
/-- An UP frame with its CRC. -/
def up (ty : Nat) (p : Bytes) : Bytes := let b := leBytes 1 ty ++ leBytes 1 p.length ++ p; b ++ leBytes 2 (crcOf crc16Ccitt b)
def vt (f : TouchCh → TouchCh) : State :=
  { chan 2 f with lasts := { world.lasts with slots := vecMod world.lasts.slots 0 fun q => { q with last := some { last0 with bursts := [{ burst0 with ch := 2 }] } } } }
theorem test_identity : (vt40Payload 0x83 (up 0x83 [1, 2, 3, 4]) = some [1, 2, 3, 4] && burstPlans (vt id) 2 ≠ [] && runs (.vt40Identity now 2 (up 0x83 [1, 2, 3, 4]) 5000) (vt fun c => { c with st := .linkDown })
    (fun u => (touchAt u 2).linkUp && (touchAt u 2).st = .startScan && entryNum u (touchIndex 2 0x19) 0 = 0x04030201 && (touchAt u 2).linkDelayNs = 2000)) = true := by decide +kernel
theorem test_vt40_bad : (vt40Payload 0x81 [1] = none && runs (.vt40Counts now 2 [1]) (vt (scanT id)) (fun u => (touchAt u 2).crcFails.length = 1 && (touchAt u 2).st = .scanning) &&
    runs (.vt40Status now 2 [1]) (vt id) (fun u => (touchAt u 2).crcFails.length = 1) && runs (.vt40Identity now 2 [1] 0) (vt id) (fun u => (touchAt u 2).crcFails.length = 1 && entryNum u (touchIndex 2 0x1A) 0 = 1)) = true := by
  decide +kernel
/-- The link is lost by the sixteenth bad frame of a second. -/
theorem test_vt40_sixteen : runs (.vt40Status now 2 [1]) (vt (scanT fun c => { c with linkUp := true, crcFails := List.replicate 15 (at_ 100 9 0) })) (fun u =>
    !(touchAt u 2).linkUp && (touchAt u 2).st = .linkDown) = true := by decide +kernel
def counts0 : Bytes := [0, 0, 0, 0, 3, 0, 3, 0, 11, 0, 12, 0, 13, 0]
def askedFor : State := vt (scanT fun c => { c with ended := some ⟨at_ 100 0 0, 0, 1, [(0, { burst0 with ch := 2 })], [(0, 60)]⟩ })
theorem test_vt40_counts : (vt40Payload 0x81 (up 0x81 counts0) = some counts0 &&
    ((touchAt askedFor 2).ended.any fun o => (completePlans askedFor o).any fun e => e.1 = u16 counts0 2) &&
    runs (.vt40Counts now 2 (up 0x81 counts0)) askedFor (fun u => (touchAt u 2).got = [(0, 3, [11, 12, 13])])) = true := by decide +kernel
/-- The touch frame takes them: the last node, both transmit electrodes. -/
theorem test_vt40_taken : runs (.vt40Counts now 2 (up 0x81 counts0)) askedFor (fun u => runs (.touchFrameComplete now 2) u fun u =>
    (touchAt u 2).raw = [100, 100, 100, 11] && (touchAt u 2).txSelf = [12, 13] && (touchAt u 2).rxSelf = [50, 50]) = true := by decide +kernel
theorem test_vt40_lost : (runs (.vt40LinkLost now 2) (vt (scanT fun c => { c with linkUp := true })) (fun u => !(touchAt u 2).linkUp && (touchAt u 2).st = .linkDown && u.emitted.take 2 = [.vt40 2 4 [], .vt40 2 5 []]) &&
    runs (.vt40Status now 2 (up 0x82 [1, 0, 0, 0])) (vt (scanT fun c => { c with linkUp := true })) (fun u => (touchAt u 2).st = .linkDown && u.emitted.take 2 = [.vt40 2 4 [], .vt40 2 5 []]) &&
    runs (.vt40IdentifyRetry now 2) (vt id) (fun u => u.emitted = [.vt40 2 4 [], .vt40 2 5 []])) = true := by decide +kernel

/-! ### Haptics (chapter 12) -/

def effectB (flags : Byte) : Bytes := [1, flags, 1, 0, 50, 0, 100, 0, 0, 0, 0, 0] ++ leBytes 4 (crcOf crc32c [1, 0]) ++ [1, 0]
def hap (m : Mode) (f : HapticCh → HapticCh) : State :=
  { world with
    mode := m, dieLink := true, haptics := vecMod world.haptics 0 f, dict := [(dkey (hapticIndex 0 4) 1, .num 5), (dkey (hapticIndex 0 4) 2, .num 1), (dkey (effectIndex 5) 0, .raw (effectB 1)), (dkey (effectIndex 6) 0, .raw (effectB 0))]
    lasts := { world.lasts with lock := some ⟨[1, 1, 1, 1], [(0, 0, 0)], [⟨4, 0, false, 0, 0⟩], [], 1, []⟩ } }
def idleH : HapticCh → HapticCh := fun c => { c with st := .idle }
def plays (u : State) (e : Nat) : Bool := (hapticAt u 0).st = .playing && (hapticAt u 0).effect = e && (hapticAt u 0).gain = 100 && (hapticAt u 0).start = now
theorem test_pin : (fieldOn (hap .run idleH) && hapticEnabled (hap .run idleH) 0 && effectReady (hap .run idleH) 5 && effectGain (hap .run idleH) 5 = 100 &&
    runs (.hapticPinTrigger now 0 true 0) (hap .run idleH) (plays · 5) && runs (.hapticPinTrigger now 0 false 0) (hap .run idleH) (fun u => (hapticAt u 0).st = .idle)) = true := by decide +kernel
theorem test_slice_trigger : (ownerSlice (hap .hold idleH) 4 0 = some 0 && !discarding (hap .hold idleH) 0 && runs (.hapticTrigger now 0 6 0) (hap .hold idleH) (plays · 6) &&
    runs (.hapticTrigger now 0 6 0) (hap .run idleH) (fun u => entryNum u (hapticIndex 0 7) 2 = 1 && (hapticAt u 0).st = .idle)) = true := by decide +kernel
theorem test_dict_trigger : (writeStatus (atTime (hap .service idleH) now) svc (hapticIndex 0 6) 1 (numData (hapticIndex 0 6) 1 5) = 0 && runs (.hapticNTrigger now svc 0 5 0) (hap .service idleH)
      (fun u => answers u svc (hapticIndex 0 6) 1 stOk && plays u 5) &&
    writeStatus (atTime (hap .run idleH) now) canOrigin (hapticIndex 0 6) 1 (numData (hapticIndex 0 6) 1 5) = 0 && runs (.hapticNTrigger now canOrigin 0 5 0) (hap .run idleH) (fun u =>
      answers u canOrigin (hapticIndex 0 6) 1 stMode && (hapticAt u 0).st = .idle)) = true := by decide +kernel
theorem test_merge_start : runs (.mergeStart now 0) (hap .run fun c => { c with st := .waiting, merge := some (6, 80) }) (fun u => (hapticAt u 0).st = .playing && (hapticAt u 0).effect = 6 &&
    (hapticAt u 0).gain = 80 && (hapticAt u 0).merge = none) = true := by decide +kernel
theorem test_effect_end : (runs (.effectEnd now 0) (hap .run fun c => { c with st := .playing, effect := 5 }) (fun u => (hapticAt u 0).st = .braking) &&
    runs (.effectEnd now 0) (hap .run fun c => { c with st := .playing, effect := 6 }) (fun u => (hapticAt u 0).st = .idle) &&
    runs (.brakeEnd now 0) (hap .run fun c => { c with st := .braking }) (fun u => (hapticAt u 0).st = .idle && entryNum u (hapticIndex 0 7) 4 = 0) &&
    runs (.brakeTimeout now 0) (hap .run fun c => { c with st := .braking, waiting := some 6 }) (fun u => plays u 6 && entryNum u (hapticIndex 0 7) 4 = 1)) = true := by decide +kernel
theorem test_brake_timeout : runs (.brakeTimeout now 0) (hap .run fun c => { c with st := .braking }) (fun u => (hapticAt u 0).st = .idle && entryNum u (hapticIndex 0 7) 4 = 1) = true := by decide +kernel
theorem test_haptic_fault : (runs (.hapticFault now 0 2) (hap .run idleH) (fun u => (hapticAt u 0).st = .fault && entryNum u (hapticIndex 0 7) 7 = 2) &&
    writeStatus (atTime (hap .service id) now) svc (hapticIndex 0 6) 2 (numData (hapticIndex 0 6) 2 1) = 0 && runs (.hapticRestart now svc 0 1) (hap .service fun c => { c with st := .fault })
      (fun u => answers u svc (hapticIndex 0 6) 2 stOk && (hapticAt u 0).st = .idle)) = true := by decide +kernel
theorem test_measure : (runs (.hapticMeasureDue now 0) (hap .run idleH) (fun u => (hapticAt u 0).st = .measuring) &&
    writeStatus (atTime (hap .service idleH) now) svc (hapticIndex 0 6) 3 (numData (hapticIndex 0 6) 3 1) = 0 && runs (.measureRequest now svc 0 1) (hap .service idleH) (fun u =>
      answers u svc (hapticIndex 0 6) 3 stOk && (hapticAt u 0).st = .measuring) &&
    runs (.hapticMeasureRetry late 0) (hap .run fun c => { c with st := .idle, measureDue := true, aborted := true, retryFrom := some now }) (fun u => (hapticAt u 0).st = .measuring && !(hapticAt u 0).aborted) &&
    runs (.hapticMeasureComplete now 0 470) (hap .run fun c => { c with st := .measuring }) (fun u => entryNum u (hapticIndex 0 7) 5 = 470 && entryNum u (hapticIndex 0 7) 6 = rrpNum now && (hapticAt u 0).st = .idle)) = true := by
  decide +kernel
theorem test_measure_mode : (openTickets (hap .run idleH) .can < 16 && !pathRemoved (hap .run idleH) .can (hapticIndex 0 6) &&
    runs (.measureRequest now canOrigin 0 1) (hap .run idleH) (fun u => answers u canOrigin (hapticIndex 0 6) 3 stMode && (hapticAt u 0).st = .idle)) = true := by decide +kernel

/-! ### The audio router (chapter 13) -/

/-- An operation word of Table 13-3: OP, DEST, SRC_A, SRC_B, COEF, FLAGS. -/
def opW (op d a b c f : Nat) : Nat := (op * 2 ^ 56) + (d * 2 ^ 44) + (a * 2 ^ 32) + (b * 2 ^ 20) + (c * 2 ^ 8) + f
def prog0 : AudioProg := ⟨[opW 0 0 0 0 0 0, opW 1 0x40 1 0 0 0, opW 2 0x40 1 2 0 0, opW 3 0x40 1 0 0 0, opW 3 0x40 1 0 0 1, opW 4 0x40 1 0 0 0, opW 5 0x40 1 0 0 2,
  opW 6 0x40 1 0 2 0, opW 7 0x40 1 2 0 0, opW 8 0x40 1 0 1 0], [0x8000000, 50, 3, 10], []⟩
def mem0 : ProgMem := { prog := prog0, regs := [(1, 100), (2, -8), (0x40, 7)], hpf := [], delay := [(11, 5)], execs := 4 }
def aud (f : Audio → Audio) : State := { world with audio := f { world.audio with mems := world.audio.mems.set 0 (some mem0), running := some 0 } }
/-- What the command leaves in output register 0x40 of the program. -/
def leaves (i : Instr) (v : Int) : Bool :=
  runs i (aud id) fun u => match memAt u 0 with
    | some m => audReg m 0x40 = v && audReg m 1 = 100 && audReg m 2 = -8
    | none => false
theorem test_audio_quiet : Quiescent (aud id) ∧ memAt (aud id) 0 = some mem0 ∧ SMap.wf zeroSample mem0.regs = true := ⟨⟨rfl, rfl, rfl⟩, rfl, by decide⟩
theorem test_codes : (rangeFrom 0 10).map (fun i => opCode (progWord mem0 i)) = [0, 1, 2, 3, 3, 4, 5, 6, 7, 8] ∧ opDest (progWord mem0 2) = 0x40 ∧ opB (progWord mem0 2) = 2 := by decide
theorem test_copy : (leaves (.audioNop 0 0) 7 && leaves (.copy 0 1) 100 && leaves (.mix 0 2) 92) = true := by decide +kernel
/-- 100 × 0.5 is 50, added to 7 or alone. -/
theorem test_mac : (leaves (.mac 0 3) 57 && leaves (.mac 0 4) 50) = true := by decide +kernel
/-- A gain of 0 dB is 2^28: the value itself; mute is 0. -/
theorem test_gain : (linearGain (some 0) = 2 ^ 28 ∧ linearGain none = 0 ∧ leaves (.gainRamp 0 5) (sat32 ((100 * linearGain (gainAt (aud id) 0).cur + 2 ^ 27).fdiv (2 ^ 28))) = true) := by decide +kernel
/-- A first sample of 100 through the 80 Hz filter at rest: 100 × 0.992623 rounded. -/
theorem test_hpf : leaves (.hpf 0 6) 99 = true := by decide +kernel
/-- The word of execution 4 in a line of 3 words at 10 is 11. -/
theorem test_delay_select : (leaves (.delay 0 7) 5 && leaves (.select 0 8) 100 && leaves (.clamp 0 9) 50) = true := by decide +kernel

def gainS : State := { aud (fun a => { a with gains := vecMod a.gains 3 fun g => { g with cur := some 0 } }) with mode := .service, dict := [(dkey 0x5103 2, .num 10)] }
theorem test_gain_write : (opens gainS now svc 0x5103 1 (ofSint 16 (-1536)) && runs (.gainTargetWrite now svc 3 (ofSint 16 (-1536))) gainS fun u =>
    answers u svc 0x5103 1 stOk && gainAt u 3 = ⟨some 0, 0, some (-1536), 480, 0⟩) = true := by decide +kernel
def sampleS : State := { aud (fun a => { a with mems := Vector.replicate 3 none, running := none, gains := vecMod a.gains 0 fun _ => ⟨some 0, 0, some 100, 4, 1⟩ }) with sregs := [] }
/-- Half-way of a ramp of 4 samples from 0 to 100. -/
theorem test_sample : (audioOnRaster (atTime sampleS (at_ 100 0 0)) && sampleS.audio.restart.isNone && runs (.audioSample (at_ 100 0 0) []) sampleS fun u => gainAt u 0 = ⟨some 50, 0, some 100, 4, 2⟩ && u.audio.tx.length = 64) = true := by decide +kernel

def streamS (f : Stream → Stream) : State :=
  { aud (fun a => { a with streams := vecMod a.streams 2 f }) with
    lasts := { world.lasts with lock := some ⟨[1, 1, 1, 1], [(0, 0, 0)], [⟨6, 2, false, 0, 0⟩], [], 1, []⟩ }
    sec := { world.sec with divMode := 1 } }
def based : Stream → Stream := fun q => { q with base := 0x100000 }
def enW : Nat := 2 ^ 31 + 6
def mayStart (s : State) : Bool := !captures s 2 && sliceMay s 0 false 0x100000 1 false && sliceMay s 0 false (0x100000 + streamFrames 6 * streamFrame 6 - 1) 1 false
theorem test_stream_start : (windowOpen (streamS based) 0 && streamOwner (streamS based) 2 = some 0 && !discarding (streamS based) 0 && mayStart (streamS based) &&
    runs (.audStreamEnable now 0 2 enW) (streamS based) fun u => (streamAt u 2).ctrl = enW && (streamAt u 2).starting && (streamAt u 2).startRrp = at_ 101 0 0) = true := by decide +kernel
theorem test_stream_refused : runs (.audStreamEnable now 0 2 (2 ^ 31 + 5)) (streamS based) (fun u => (streamAt u 2).ctrl = 5 && !(streamAt u 2).starting) = true := by decide +kernel
theorem test_stream_stop : (runs (.audStreamDisable now 0 2 0x20000007) (streamS based) (fun u => (streamAt u 2).ctrl = 0x20000007) &&
    runs (.audStreamDisable now 0 2 0) (streamS fun q => { based q with ctrl := enW }) (fun u => (streamAt u 2).ctrl = 6) &&
    runs (.audStreamEnable now 0 2 enW) (streamS fun q => { based q with ctrl := enW, hwPos := 9 }) (fun u => (streamAt u 2).hwPos = 9)) = true := by decide +kernel
def fadeS : State := aud fun a => { a with mems := a.mems.set 1 (some { mem0 with regs := [] }), incoming := some 1, waiting := some 2, fadeLen := 480, fadePos := 480 }
theorem test_fade_end : runs (.swapFadeEnd now) fadeS (fun u => u.audio.running = some 1 && u.audio.incoming = some 2 && u.audio.waiting = none && u.audio.fadeLen = 0 && memAt u 0 = none) = true := by decide +kernel

/-! ### DRAM and check units (chapter 14) -/

def reqW (a : Nat) (d : Option Bytes) (n : Nat) : DramReq := ⟨.slice 0, 0x20, a, n, d, 0, false, false⟩
def ram (f : Memory → Memory) : State := { contract with dram := [(0x100001, 9)], sec := { world.sec with divMode := 1 }, mem := f world.mem }
theorem test_ram_quiet : Quiescent (ram id) := ⟨by decide, rfl, rfl⟩
theorem test_dram_write : (admitted (ram id) (reqW 0x100001 (some [0, 7]) 0) && accessAllowed (ram id) (.slice 0) true 0x100FFF 1 && (rangeFrom 0 4).all (fun g => !groupLost (ram id) g) && !mirrored (ram id) 0x100000 &&
    runs (.dramAccess now (reqW 0x100001 (some [0, 7]) 0)) (ram id) (fun u => u.dram = [(0x100002, 7)])) = true := by decide +kernel
theorem test_dram_read : (admitted (ram id) (reqW 0x100000 none 3) && poisonedWords (ram id) 0x100000 3 = [] && accessAllowed (ram id) (.slice 0) false 0x100000 3 && !inEcc (ram id) 0x100000 && physBytes (ram id) 0x100000 3 = some [0, 9, 0] &&
    runs (.dramAccess now (reqW 0x100000 none 3)) (ram id) (fun u => u.emitted = [.dramRead 0x20 0x100000 [0, 9, 0]] && u.dram = [(0x100001, 9)])) = true := by decide +kernel
theorem test_dram_blocked : (admitted (ram id) (reqW 0x200000000 (some [5]) 0) && !accessAllowed (ram id) (.slice 0) true 0x200000000 1 && runs (.dramAccess now (reqW 0x200000000 (some [5]) 0)) (ram id) (fun u =>
    u.emitted.head? = some (.dramRefused 0x20 0x200000000 false) && u.dram = [(0x100001, 9)])) = true := by decide +kernel
/-- A requester without an item waits. -/
theorem test_dram_waits : (dramItem (ram id) 0x48 = none && runs (.dramAccess now { reqW 0x100000 none 3 with requester := 0x48 }) (ram id) (fun u =>
    u.lasts.waiting = [⟨none, { reqW 0x100000 none 3 with requester := 0x48 }⟩] && u.emitted = [] && u.dram = [(0x100001, 9)])) = true := by decide +kernel
def mir (g : Nat) (e : List (Nat × Nat)) : State :=
  ram fun m => { m with mirrors := [(0x100000, 4096)], eccs := e, groups := vecMod m.groups (groupOf (ram id) 0x100010) fun _ => g }
theorem test_reread : (mirrored (mir 2 []) 0x100010 && groupLost (mir 2 []) (groupOf (mir 2 []) 0x100010) &&
    runs (.mirrorReread now 0x100010 0 false) (mir 2 []) (fun u => entryNum u 0x560A 0 = 1 && entryNum u 0x5609 0 = 0) &&
    inEcc (mir 1 [(0x100000, 4096)]) 0x100010 && runs (.mirrorReread now 0x100010 1 true) (mir 1 [(0x100000, 4096)]) (fun u => entryNum u 0x560A 0 = 1 && entryNum u 0x5609 0 = 1) &&
    !groupLost (mir 1 []) (groupOf (mir 1 []) 0x100010) && runs (.mirrorReread now 0x100010 2 false) (mir 1 []) (fun u => entryNum u 0x560A 0 = 1 && entryNum u 0x5609 0 = 0)) = true := by decide +kernel
theorem test_panic : (runs (.panicEvaluate now 9 false 0 20000 3) (ram id) (fun u => vecAt u.mem.panic 9 0 = 1 && vecAt u.mem.panicChannels 9 0 = 3) &&
    runs (.panicEvaluate now 11 false 0 100000 5) (ram id) (fun u => vecAt u.mem.panic 11 0 = 2) && panicLevel (ram id) 10 false 0 19999 = 0) = true := by decide +kernel
def panics : State := ram fun m => { m with panic := m.panic.set 3 2, panicChannels := m.panicChannels.set 3 4, owed := m.owed.set 2 7 }
theorem test_refresh : (channelPanics panics 2 && runs (.dramRefresh now 2) panics (fun u => vecAt u.mem.owed 2 0 = 8 && entryNum u 0x560B 0 = 1) &&
    runs (.dramRefresh now 2) (ram fun m => { m with owed := m.owed.set 2 7 }) (fun u => vecAt u.mem.owed 2 0 = 0)) = true := by decide +kernel
def changing : State := ram fun m => { m with changing := some 0x0C80 }
theorem test_rate : (runs (.freqChangeComplete now true false) changing (fun u => u.mem.rate = 0x0C80 && u.mem.setInUse && u.mem.changing.isNone && entryNum u 0x560C 0 = 1) &&
    runs (.freqChangeComplete now false true) changing (fun u => u.mem.rate = 0x1900 && !u.mem.setInUse && u.mem.changing.isNone && entryNum u 0x560D 0 = 1)) = true := by decide +kernel
theorem test_group_lost : (dramServing (ram id) && runs (.channelGroupLost now 1) (ram id) (fun u => (rangeFrom 0 4).map (groupLost u) = [false, true, false, false]) &&
    runs (.wckDqCompensation now 9 false) (ram id) (fun u => groupLost u 2) && runs (.wckDqCompensation now 9 true) (ram id) (fun u => !groupLost u 2)) = true := by decide +kernel
theorem test_bank : (runs (.combBankFault now false 40 0) (ram id) (fun u => vecAt u.mem.banks 40 false && u.net.restarting && !u.mem.pairLost) &&
    runs (.combBankFault now false 40 0) (ram fun m => { m with banks := m.banks.set 8 true }) (fun u => u.mem.pairLost)) = true := by decide +kernel
def withAtlas (f : Memory → Memory) : State := { ram f with sentinel := { world.sentinel with atlas := some ⟨1, [], [], []⟩ } }
theorem test_secure_bank : (runs (.combBankFault now true 6 0) (withAtlas id) (fun u => vecAt u.mem.secBanks 6 false && u.sentinel.atlas.isSome) &&
    runs (.combBankFault now true 6 0) (withAtlas fun m => { m with secBanks := m.secBanks.set 2 true }) (fun u => u.sentinel.atlas.isNone)) = true := by decide +kernel
/-- A check start of Table 14-10: start, length, algorithm, target. -/
def startB (a n alg tgt : Nat) : Bytes := leBytes 8 a ++ leBytes 8 n ++ leBytes 1 alg ++ leBytes 1 tgt ++ zeroBytes 6
def checkJob0 : CheckJob := ⟨.dict, 0x100000, 3, 1, false, 0, 0, 0, false⟩
def chk (f : CheckCh → CheckCh) : State := { ram fun m => { m with checks := vecMod m.checks 2 f } with mode := .service }
theorem test_check_begin : (writeStatus (atTime (chk id) now) svc (checkIndex 2) 3 (startB 0x100000 3 1 0) = 0 && parseCheckStart (startB 0x100000 3 1 0) = some checkJob0 && ownerSlice (chk id) 7 2 = none &&
    runs (.checkCStart now svc 2 (startB 0x100000 3 1 0)) (chk id) (fun u => answers u svc (checkIndex 2) 3 stOk && (checkAt u 2).job = some checkJob0) &&
    runs (.checkCStart now svc 2 (startB 0x100000 3 1 0)) (chk fun c => { c with job := some checkJob0 }) (fun u => answers u svc (checkIndex 2) 3 stBusy && (checkAt u 2).refused)) = true := by decide +kernel
/-- The CRC-32 of the three bytes 00 09 00 that the job of the management core reads. -/
theorem test_check_end : ((checkBytes (atTime (chk id) now) checkJob0).1 = .ok [0, 9, 0] && checkArgsOk 2 checkJob0 && runs (.checkJobComplete now 2 false) (chk fun c => { c with job := some checkJob0, seq := 255 }) (fun u =>
    (checkAt u 2).job = none && (checkAt u 2).valid && (checkAt u 2).seq = 0 && (checkAt u 2).error = 0 && (checkAt u 2).result.take 8 = leBytes 8 (crcOf crc32Ieee [0, 9, 0]))) = true := by decide +kernel
theorem test_check_fails : (runs (.checkJobComplete now 2 true) (chk fun c => { c with job := some checkJob0 }) (fun u => (checkAt u 2).error = 1 && (checkAt u 2).result = zeroBytes 32) &&
    !checkArgsOk 2 { checkJob0 with algorithm := 5 } && runs (.checkJobComplete now 2 false) (chk fun c => { c with job := some { checkJob0 with algorithm := 5 } }) (fun u => (checkAt u 2).error = 3)) = true := by decide +kernel

/-! ### Slices and ports (chapter 15) -/

def sl (f : Slice → Slice) : State := { contract with slices := vecMod world.slices 0 f, sregs := [(skey 0 0x18, 2), (skey 0 0x700, 5)], sec := { world.sec with divMode := 1 } }
/-- The slice's RESULT and state. -/
def shows (u : State) (r : Nat) (st : SliceState) : Bool := (sliceAt u 0).result = r && (sliceAt u 0).st = st
theorem test_drain : (windowOpen (sl id) 0 && runs (.drain now 0 1) (sl id) (shows · 1 .draining) && runs (.drain now 0 3) (sl id) (shows · 3 .active) &&
    runs (.drain now 0 1) (sl fun q => { q with st := .idle }) (shows · 3 .idle)) = true := by decide +kernel
theorem test_resume : (runs (.resume now 0 4) (sl fun q => { q with st := .idle }) (shows · 1 .active) && runs (.resume now 0 4) (sl id) (shows · 3 .active) &&
    runs (.resume now 0 6) (sl fun q => { q with st := .idle }) (shows · 3 .idle)) = true := by decide +kernel
/-- The scratch register goes back to 0, SLICE_DISCARDS stays. -/
theorem test_reset : (busyMask (sl id) 0 = 0 && SMap.wf zeroReg (sl id).sregs && runs (.reset now 0 2) (sl fun q => { q with st := .idle }) (fun u =>
    shows u 0 .active && sreg u 0 0x700 = 0 && sreg u 0 0x18 = 2)) = true := by decide +kernel
def busyS : State := sl fun q => { q with chkTail := 1 }
theorem test_reset_busy : (busyMask busyS 0 = 8 && runs (.reset now 0 2) busyS (fun u => shows u 2 .active && sreg u 0 0x700 = 5) && runs (.reset now 0 7) busyS (shows · 3 .active)) = true := by decide +kernel
def draining : State := sl fun q => { q with st := .draining }
theorem test_drain_done : runs (.drainDone now 0) draining (fun u => (sliceAt u 0).st = .idle && bit (sreg u 0 0x10) 4) = true := by decide +kernel
theorem test_forced : (opens (srv (sl id)) now svc 0x5410 4 1 && runs (.sliceForcedReset now svc 0 1) (srv (sl fun q => { q with waiting := [[1]] })) (fun u =>
    answers u svc 0x5410 4 stOk && (sliceAt u 0).st = .resetting && (sliceAt u 0).forced && (sliceAt u 0).waiting = [])) = true := by decide +kernel
theorem test_forced_unbound : runs (.sliceForcedReset now svc 0 1) (srv (sl fun q => { q with st := .unbound })) (fun u => answers u svc 0x5410 4 stState && (sliceAt u 0).st = .unbound) = true := by decide +kernel
theorem test_forced_end : runs (.forcedResetComplete now 0) (sl fun q => { q with st := .resetting, forced := true }) (fun u =>
    (sliceAt u 0).st = .active && !(sliceAt u 0).forced && bit (sreg u 0 0x10) 5) = true := by decide +kernel

theorem test_scratch : (SMap.wf zeroReg world.sregs && runs (.registerWrite now (.slice 0) 0x7F8 4 (some 77)) world (fun u => sreg u 0 0x7F8 = 77) &&
    runs (.registerWrite now (.slice 0) 0x300 8 (some (2 ^ 64 - 1))) world (fun u => sreg u 0 0x300 = 2 ^ 64 - 1) &&
    runs (.registerWrite now (.slice 0) 0x702 4 (some 77)) world (fun u => u.sregs = [] && entryNum u 0x5400 5 = 1)) = true := by decide +kernel
theorem test_bar0 : (portUp (sl id) 0 && windowCheckOk (sl id) 0 0 (some 0) && runs (.bar0Access now 0 0x700 4 none (some 0)) (sl id) (fun u => u.emitted = [.hostRead 0 5]) &&
    runs (.bar0Access now 0 0x10700 4 none none) (sl id) (fun u => u.emitted = [.hostRead 0 0])) = true := by decide +kernel
theorem test_bar0_unbound : runs (.bar0Access now 0 0x10700 4 (some 9) none) (sl id) (fun u => u.emitted = [] && u.sregs = (sl id).sregs) = true := by decide +kernel
/-- A read of MBX_CTRL. -/
theorem test_mailbox_read : (mailboxServed world 0 && runs (.registerWrite now (.mailbox 0) 0 4 none) world (fun u =>
    u.emitted = [.hostRead 0 (mailboxWord world 0 0)] && u.net = world.net)) = true := by decide +kernel
def bar4S : State := { sl (fun q => { q with pasid := 7 }) with dram := [(0x100001, 9)] }
theorem test_bar4 : (admitted bar4S ⟨.slice 0, 0x20, 0x100000, 2, none, 0, false, false⟩ && admitted bar4S ⟨.slice 0, 0x20, 0x100002, 1, some [4], 0, false, false⟩ && (bar4Who bar4S 0 (some 7)).1 = .slice 0 && accessAllowed bar4S (.slice 0) false 0x100000 2 && accessAllowed bar4S (.slice 0) true 0x100002 1 &&
    runs (.bar4Access now 0 0x100000 2 none (some 7)) bar4S (fun u => u.emitted = [.hostData 0 [0, 9]]) &&
    runs (.bar4Access now 0 0x100002 1 (some [4]) (some 7)) bar4S (fun u => u.dram = [(0x100001, 9), (0x100002, 4)])) = true := by decide +kernel
theorem test_bar4_refused : (admitted bar4S ⟨.port 0, 0x41, 0x200000000, 2, none, 0, false, false⟩ && admitted bar4S ⟨.port 0, 0x41, 0x200000000, 1, some [4], 0, false, false⟩ && (bar4Who bar4S 0 none).1 = .port 0 && !accessAllowed bar4S (.port 0) false 0x200000000 2 && !accessAllowed bar4S (.port 0) true 0x200000000 1 &&
    runs (.bar4Access now 0 0x200000000 2 none none) bar4S (fun u => u.emitted = [.hostData 0 [0, 0]] && entryNum u 0x5400 6 = 1) &&
    runs (.bar4Access now 0 0x200000000 1 (some [4]) none) bar4S (fun u => u.dram = [(0x100001, 9)])) = true := by decide +kernel

def port (f : Port → Port) : State := { world with ports := vecMod world.ports 0 f }
theorem test_perst : (runs (.perstDeassert now 1) world (fun u => !(portAt u 1).perst && (portAt u 1).link = 1) &&
    runs (.perstDeassert now 0) (port fun q => { q with perst := true, disabled := true }) (fun u => !(portAt u 0).perst && (portAt u 0).link = 3)) = true := by decide +kernel
theorem test_link_up : (mayTrain world 0 && runs (.portLinkUp now 0 4 2) (port fun q => { q with link := 1 }) (fun u => (portAt u 0).link = 2 && (portAt u 0).speed = 4 && (portAt u 0).width = 2)) = true := by decide +kernel
theorem test_retry : (runs (.configRetryTimeout now 0) (port fun q => { q with retryOver := false }) (fun u => (portAt u 0).retryOver) &&
    runs (.pcieConfigRequest now 0 .vendorDevice none) (port fun q => { q with retryOver := false }) (fun u => u.emitted = [.cfgRetry 0])) = true := by decide +kernel
/-- Vendor 0x1F8C, device 0x8840. -/
theorem test_config : (runs (.pcieConfigRequest now 0 .vendorDevice none) world (fun u => u.emitted = [.cfgRead 0 0x88401F8C]) &&
    runs (.pcieConfigRequest now 0 .msixControl (some 0x4000)) world (fun u => !(portAt u 0).msixEnable && (portAt u 0).msixMask) &&
    runs (.pcieConfigRequest now 0 .pasidControl (some 1)) world (fun u => (portAt u 0).pasidEnable) && runs (.pcieConfigRequest now 0 .powerControl (some 3)) world (fun u => (portAt u 0).d3hot)) = true := by decide +kernel
def noPort : State := updPort world 0 fun q => { q with disabled := true }
theorem test_perst_disabled : ((portAt noPort 0).disabled && runs (.portReset now 0 0) noPort (fun u => u.slices = noPort.slices &&
    u.net.mailboxes = noPort.net.mailboxes && (portAt u 0).perst)) = true := by decide +kernel
theorem test_port_reset : runs (.portReset now 0 1) world (fun u => (sliceAt u 0).st = .resetting && !(portAt u 0).msixEnable && (mailboxAt u 0) = resetMailbox) = true := by decide +kernel

/-! ### The secure island (chapter 16) -/

def callD (c n : Nat) (a : Bytes) : Bytes := padTo 252 (leBytes 2 c ++ leBytes 2 n ++ leBytes 4 9 ++ a)
def vsAtlas : Atlas := ⟨1, [], [], [⟨0, false, 0, none, [⟨0, 0, 1, 1, 1, 0, 0, 0, 3⟩], []⟩]⟩
/-- Slice 0 of the safety port 0 with a call of the island in hand. -/
def secOf (d : Bytes) (f : Secure → Secure) : State :=
  { world with
    slices := vecMod world.slices 0 fun q => { q with call := some ⟨d, false, none⟩ }
    lasts := { world.lasts with lock := some ⟨[3, 1, 1, 1], [(0, 0, 0)], [], [], 1, []⟩ }
    sentinel := { world.sentinel with atlas := some vsAtlas }
    dram := [(0x100001, 9)], sec := f { world.sec with divMode := 1 } }
def replies (i : Instr) (d : Bytes) (f : Secure → Secure) (st : Nat) (b : Bytes) (p : State → Bool) : Bool :=
  runs i (secOf d f) fun u => (sliceAt u 0).call = some ⟨d, true, some (st, b)⟩ && p u
/-- VS_POST of surface k of output 0, frame tag 5, one pixel of 00 09 00 00 at 0x100000. -/
def postD (k crc : Nat) : Bytes := callD 1 24 ([0, BitVec.ofNat 8 k, 0, 0] ++ leBytes 4 5 ++ leBytes 8 0x100000 ++ leBytes 4 64 ++ leBytes 4 crc)
def goodCrc : Nat := crcOf crc32c [0, 9, 0, 0]
theorem test_vs_post : (callNo (postD 0 goodCrc) = 1 && safetySlice (secOf [] id) 0 && surfaceFits (secOf [] id) 0 0 && (surfaceCfg (secOf [] id) 0 0).isSome &&
    (readStaging 0 0x100000 64 4 1 (atTime (secOf [] id) now)).1 = some [0, 9, 0, 0] &&
    replies (.vsPost now 0) (postD 0 goodCrc) id 0 (leBytes 8 (rrpNum now)) (fun u => (surfaceAt u 0 0).eligible = some now && (surfaceAt u 0 0).eligibleTag = 5 && [0, 9, 0, 0] ∈ (surfaceAt u 0 0).bufs.toList)) = true := by
  decide +kernel
theorem test_vs_post_crc : (replies (.vsPost now 0) (postD 0 (goodCrc + 1)) id 1 [] (fun u => (surfaceAt u 0 0).eligible = none) && replies (.vsPost now 0) (postD 1 goodCrc) id 4 [] fun _ => true) = true := by decide +kernel
def unsafeS : State := { secOf (postD 0 goodCrc) id with lasts := world.lasts }
theorem test_vs_post_owner : (!safetySlice unsafeS 0 && runs (.vsPost now 0) unsafeS fun u => (sliceAt u 0).call = some ⟨postD 0 goodCrc, true, some (3, [])⟩) = true := by decide +kernel
def tagged : State := let s := secOf (postD 0 goodCrc) id; updSurface s 0 0 fun v => { v with lastTag := some 5 }
theorem test_vs_post_stale : (frameLater 5 5 = false && runs (.vsPost now 0) tagged fun u => (sliceAt u 0).call = some ⟨postD 0 goodCrc, true, some (2, [])⟩) = true := by decide +kernel
/-- A guest word of slice 0 on port 0 in page-owner mode. -/
def pageMode : Secure → Secure := fun q => { q with divMode := 2 }
def pageD (n w : Nat) : Bytes := callD 2 16 (leBytes 8 0x100000 ++ leBytes 4 n ++ leBytes 4 w)
theorem test_pages : ((rangeFrom 256 2).all (fun p => mayTransfer (secOf [] pageMode) 0 0x80020000 (ownerWord (secOf [] pageMode) (p * 4096))) &&
    replies (.pageTransfer now 0) (pageD 2 0x80020000) pageMode 0 [] (fun u => u.sec.owners = [(256, some 0x80020000), (257, some 0x80020000)])) = true := by decide +kernel
theorem test_pages_refused : ((rangeFrom 256 2).all (fun p => !mayTransfer (secOf [] pageMode) 0 0x84020000 (ownerWord (secOf [] pageMode) (p * 4096))) &&
    replies (.pageTransfer now 0) (pageD 2 0x84020000) pageMode 3 [] (fun u => u.sec.owners = [])) = true := by decide +kernel
theorem test_query : (ownerWord (secOf [] id) 0x100000 = 0x801E0000 && wordMine (secOf [] id) 0 0x801E0000 && replies (.pageQuery now 0) (callD 3 8 (leBytes 8 0x100000)) id 0 (leBytes 4 0x801E0000) fun _ => true) = true := by
  decide +kernel
theorem test_svar : (replies (.svarWrite now 0) (callD 4 8 ([7, 0, 0, 0] ++ leBytes 4 99)) id 0 [] (fun u => u.sentinel.vars = [(7, 99)]) &&
    runs (.svarWrite now 0) { secOf (callD 4 8 ([7, 0, 0, 0] ++ leBytes 4 99)) id with lasts := world.lasts } fun u => u.sentinel.vars = []) = true := by decide +kernel
theorem test_extend : (replies (.measureExtend now 0) (callD 5 36 ([12, 0, 0, 0] ++ zeroBytes 32)) id 0 (sha256 (zeroBytes 64)) (fun u => mrAt u 12 = sha256 (zeroBytes 64)) &&
    replies (.measureExtend now 0) (callD 5 36 ([11, 0, 0, 0] ++ zeroBytes 32)) id 4 [] fun u => mrAt u 11 = zeroBytes 32) = true := by decide +kernel
theorem test_quote : callNo (callD 6 32 (zeroBytes 32)) = 6 ∧ u16 (callD 6 32 (zeroBytes 32)) 2 = 32 ∧ ((sliceAt (secOf (callD 6 32 (zeroBytes 32)) id) 0).call).isSome := by decide +kernel
theorem test_busy_call : (replies (.quote now 0) (callD 6 32 []) (fun q => { q with island := 2 }) 6 [] (fun _ => true) && replies (.quote now 0) (callD 6 31 []) id 4 [] fun _ => true) = true := by decide +kernel

/-! ### Records that the island checks -/

/-- A first owner key record of counter 1 whose fields stand as Table 16-5 has them. -/
def keyRec : Bytes := ascii "KEY1" ++ [0, 0, 0, 0] ++ leBytes 4 1 ++ zeroBytes 284
def mbx (f : Secure → Secure) : State := { world with sec := f world.sec }
def recD (c n : Nat) : Bytes := callD c 12 (leBytes 8 0x100000 ++ leBytes 4 n)
theorem test_key_form : (keyRecordForm keyRec && world.sec.counter < u32 keyRec 8 && (keyMaterial keyRec).isSome) = true := by decide +kernel
/-- Such a record is accepted exactly where its signature verifies. -/
theorem test_key_signed : keyRecordOk world keyRec = Config.ecdsaVerify (sub keyRec 24 96) (keyRec.take 200) (sub keyRec 200 96) := by
  have h : (keyRecordForm keyRec && world.sec.counter < u32 keyRec 8 && (keyMaterial keyRec).isSome) = true := test_key_form
  have k : u8 keyRec 4 = 0 ∧ bit (u8 keyRec 5) 0 = false := by decide +kernel
  unfold keyRecordOk
  simp only [h, k.1, k.2, Bool.true_and, if_true]
  simp [world, resetSecure]
theorem test_key_refused : (keyRecordOk world [1] = false && runs (.mailboxKeyRecord now [1]) world (fun u => u.emitted.head? = some (.debugReply false) && u.sec.counter = 0)) = true := by decide +kernel
theorem test_key_call : ((sliceRead (atTime (secOf [] id) now) 0 0x100000 296 false).1 = .ok ((0 :: 9 :: zeroBytes 294)) && replies (.keyProvision now 0) (callD 7 8 (leBytes 8 0x100000)) id 9 [] fun u => u.sec.counter = 0) = true := by
  decide +kernel
/-- A division record of one grant of one page at 0 to slice 0 with a reserve of 256 MiB. -/
def divRec : Bytes := ascii "DIV1" ++ leBytes 2 1 ++ leBytes 2 256 ++ leBytes 4 1 ++ zeroBytes 8 ++ leBytes 8 0 ++ leBytes 4 1 ++ leBytes 4 0x801E0000 ++ zeroBytes 96
/-- A division record in form is accepted exactly where the owner's signature verifies. -/
theorem test_division_signed : divisionOk (mbx fun q => { q with ownerHash := some [1] }) divRec = Config.ecdsaVerify (Config.ownerKey [1]) (divRec.take 36) (sub divRec 36 96) := by
  have h : (20 ≤ divRec.length && divRec.take 4 = ascii "DIV1" && 1 ≤ u16 divRec 4 && u16 divRec 4 ≤ 64 && 64 ≤ u16 divRec 6 && u16 divRec 6 ≤ 4096 &&
      divRec.length = 20 + 16 * u16 divRec 4 + 96 && (mbx fun q => { q with ownerHash := some [1] }).sec.counter < u32 divRec 8 && unitOk (sub divRec 12 8) &&
      ((records divRec 20 16 (u16 divRec 4)).map grantRec).all grantOk) = true := by decide +kernel
  have n : 20 + 16 * u16 divRec 4 = 36 := by decide +kernel
  simp only [n] at h
  unfold divisionOk
  simp only [n, h, Bool.true_and]
  simp [ownerSigned, keysUsable, mbx, world, resetSecure]
theorem test_division_refused : (divisionOk world [1] = false && runs (.mailboxDivisionRecord now [1]) world (fun u => u.emitted.head? = some (.debugReply false) && u.sec.counter = 0) &&
    divisionOk (secOf [] id) (0 :: 9 :: zeroBytes 130) = false && replies (.divisionSet now 0) (recD 8 132) id 9 [] fun u => u.sec.counter = 0) = true := by decide +kernel
/-- A response of debug key 3 for enable 1. -/
def resp (e k : Nat) : Bytes := leBytes 1 e ++ [0] ++ leBytes 2 k ++ zeroBytes 100
def debugKeyed : State := mbx fun q => { q with keys := [⟨4, 3, [7]⟩], lifeCycle := 1 }
/-- A response in form is signed exactly where its signature verifies over the standing challenge. -/
theorem test_response_signed : responseSigned debugKeyed (resp 1 3) = Config.ecdsaVerify [7] (debugKeyed.sec.challenge ++ leBytes 8 Config.unitId ++ (resp 1 3).take 8) (sub (resp 1 3) 8 96) := by
  have h : ((resp 1 3).length = 104 && zeros (resp 1 3) 1 1 && zeros (resp 1 3) 4 4 && !debugKeyed.sec.holdoff) = true := by decide +kernel
  have k : responseKey debugKeyed (u16 (resp 1 3) 2) = some [7] := by decide +kernel
  unfold responseSigned
  simp only [h, k, Bool.true_and]
theorem test_response_mask : andMask (u8 (resp 1 3) 0) (andMask (unlockable debugKeyed (0x8000 ≤ u16 (resp 1 3) 2)) 15) = u8 (resp 1 3) 0 ∧ u8 (resp 1 3) 0 < 4 ∧ andMask (unlockable debugKeyed (0x8000 ≤ u16 (resp 1 3) 2)) 3 = 3 := by
  decide +kernel
theorem test_response_refused : (responseSigned world [1] = false && runs (.mailboxDebugResponse now [1]) world (fun u => u.emitted.head? = some (.debugReply false) && u.sec.holdoff && u.sec.debug = 0) &&
    responseSigned (secOf [] id) (0 :: 9 :: zeroBytes 102) = false && replies (.debugUnlock now 0) (callD 9 8 (leBytes 8 0x100000)) id 9 [] fun u => u.sec.holdoff && u.sec.debug = 0) = true := by decide +kernel
theorem test_token : tokenAllowed world 3 0x8000 = true ∧ tokenAllowed world 4 0 = true ∧ tokenAllowed world 4 5 = false ∧ u8 (resp 132 0) 0 % 128 = 4 ∧ domainOn world 2 = true := by decide +kernel
theorem test_token_refused : runs (.lifeCycleToken now (resp 3 0)) world (fun u => u.emitted.head? = some (.debugReply false) && u.sec.holdoff && u.sec.lifeCycle = 2) = true := by decide +kernel
/-- A reply of 4 bytes sets the mailbox registers and frees the slice. -/
theorem test_reply : runs (.secureCallReply now 0) (let s := secOf [] id; updSlice s 0 fun q => { q with call := some ⟨callD 3 8 [], true, some (0, [1, 2, 3, 4])⟩ }) (fun u =>
    (sliceAt u 0).call = none && sreg u 0 0x1000 = 2 ^ 31 + 3 && sreg u 0 0x1004 = 9 && sreg u 0 0x1008 = 4 && sreg u 0 0x1010 = 0x04030201) = true := by decide +kernel

theorem test_holdoff : runs (.challengeHoldoffExpire now) (mbx fun q => { q with holdoff := true }) (fun u => !u.sec.holdoff && u.sec.challenge.length = 32) = true := by decide +kernel
theorem test_watchdog : (runs (.islandWatchdogExpire now) (secOf (callD 3 8 []) id) (fun u => u.sec.island = 2 && (sliceAt u 0).call = some ⟨callD 3 8 [], true, some (6, [])⟩) &&
    runs (.islandWatchdogExpire now) (mbx fun q => { q with restartTimes := [at_ 90 0 0, at_ 91 0 0] }) (fun u => u.sec.island = 3)) = true := by decide +kernel
theorem test_island_return : (runs (.islandRestartComplete now true [4]) (mbx fun q => { q with island := 2, mr1Digest := [4] }) (fun u => u.sec.island = 1) &&
    runs (.islandRestartComplete now true [5]) (mbx fun q => { q with island := 2, mr1Digest := [4] }) (fun u => u.sec.island = 3)) = true := by decide +kernel
theorem test_tamper : (domainOn world 3 && runs (.tamperAssert now) (secOf [] id) (fun u => u.sentinel.atlas.isNone && entryNum u 0x5E04 1 = 1) && runs (.secureCombWipe now 2) (secOf [] id) (fun u => u.sentinel.atlas.isNone && entryNum u 0x5E04 1 = 2) &&
    runs (.tamperAssert now) { world with power := { powerOn with domains := powerOn.domains.set 3 0 } } (fun u => u.sec.tamperLatched)) = true := by decide +kernel
/-- A bank whose atlas component is three bytes: it is not accepted. -/
def atlasBank : State :=
  { world with dict := [(dkey 0x5E04 1, .num 3)], update := { world.update with banks := world.update.banks.map fun b => { b with comps := [(6, 0, [1, 2, 3], [])] } } }
theorem test_atlas_replace : (entryNum atlasBank 0x5E04 1 = 3 && runningComp atlasBank 6 0 = some [1, 2, 3] && atlasCheck [1, 2, 3] ≠ 0 &&
    runs (.atlasReplaceComplete now) atlasBank (fun u => u.sentinel.state = 2 && u.sentinel.error = atlasCheck [1, 2, 3] && u.sentinel.atlas.isNone)) = true := by decide +kernel

/-- The smallest atlas: one palette of zeros, one glyph of one pixel, no output. -/
def glyphTail : Bytes := [1, 0, 1, 0, 0, 0, 0, 0] ++ leBytes 4 1104 ++ zeroBytes 5
def minAtlas : Bytes := padTo 64 (ascii "GLA1" ++ [1, 0, 1, 0] ++ leBytes 4 1105 ++ [1, 1, 0, 0] ++ leBytes 4 2549780749) ++ (zeroBytes 1024 ++ glyphTail)
/-- The registers of the CRC after each 64 of a run of zero bytes. -/
def chained : Nat → List Nat → Bool
  | _, [] => true
  | r, q :: qs => crcFeed crc32c r (zeroBytes 64) = q && chained q qs
theorem feed_append (r : Nat) (a b : Bytes) : crcFeed crc32c r (a ++ b) = crcFeed crc32c (crcFeed crc32c r a) b := List.foldl_append
theorem feed_chained (qs : List Nat) : ∀ r, chained r qs = true → crcFeed crc32c r (zeroBytes (64 * qs.length)) = qs.getLast?.getD r := by
  induction qs with
  | nil => intro r _; rfl
  | cons q qs ih =>
    intro r h
    simp only [chained, Bool.and_eq_true, decide_eq_true_eq] at h
    have z : zeroBytes (64 * (q :: qs).length) = zeroBytes 64 ++ zeroBytes (64 * qs.length) := by
      rw [zeroBytes, zeroBytes, zeroBytes, List.replicate_append_replicate, List.length_cons, Nat.mul_succ, Nat.add_comm]
    rw [z, feed_append, h.1, ih q h.2]
    cases qs <;> simp [List.getLast?_cons]
def paletteRegs : List Nat :=
  [422112319, 618208239, 4091630545, 4134711778, 3427118016, 2467008674, 3820557363, 4232626419,
   3593837980, 2361400312, 806865390, 2671977379, 3386359359, 52686512, 1522960387, 3246688904]
theorem palette_chained : chained 0xFFFFFFFF paletteRegs = true := by decide +kernel
theorem atlas_crc : crcOf crc32c (zeroBytes 1024 ++ glyphTail) = 2549780749 := by
  have h := feed_chained paletteRegs _ palette_chained
  have l : 64 * paletteRegs.length = 1024 := rfl
  have g : paletteRegs.getLast?.getD 0xFFFFFFFF = 3246688904 := rfl
  rw [l, g] at h
  have i : crc32c.init = 0xFFFFFFFF := rfl
  rw [crcOf, i, feed_append, h]
  decide +kernel
theorem test_atlas_accepted : atlasCheck minAtlas = 0 := by
  have d : minAtlas.drop 64 = zeroBytes 1024 ++ glyphTail := by decide +kernel
  unfold atlasCheck
  rw [d, atlas_crc]
  decide +kernel

/-! ### Modes, supplies and Bring-up (chapter 17) -/

def pw (m : Mode) (f : Power → Power) : State := { world with mode := m, power := f powerOn }
def cano : Origin := ⟨.can, 0, 0, 0⟩
/-- What the device answers to a write of Mode Request on CAN. -/
def asksFor (v : Nat) (s : State) (st r : Nat) (p : State → Bool) : Bool :=
  writeStatus (atTime s now) cano 0x2002 0 (numData 0x2002 0 v) = 0 && runs (.modeRequest now .can v) s fun u => answers u cano 0x2002 0 st && u.power.result = r && u.mode = s.mode && p u
/-- From Hold: Quiet is not of Table 1-5, Run is, 9 is no mode, Service wants its path. -/
theorem test_mode_request : (asksFor 2 (pw .hold id) stMode 7 (fun u => u.power.transition.isNone) && asksFor 4 (pw .hold id) stOk 1 (fun u => u.power.transition = some ⟨.hold, .run, false, nextBoundary world.tb.rate now 4⟩) &&
    asksFor 9 (pw .hold id) stMode 7 (fun u => u.power.transition.isNone)) = true := by decide +kernel
theorem test_mode_service : asksFor 7 { pw .hold id with dict := [(dkey 0x2005 0, .num 0)] } stState 8 (fun u => u.power.transition.isNone) = true := by decide +kernel
def going (a b : Mode) (c : Bool) : Power → Power := fun p => { p with transition := some ⟨a, b, c, 101⟩ }
theorem test_mode_queue : (asksFor 4 (pw .hold (going .run .hold true)) stOk 4 (fun u => u.power.slot = some (.run, false)) &&
    asksFor 4 (pw .run (going .run .hold false)) stOk 3 (fun u => u.power.transition.isNone)) = true := by decide +kernel
/-- A main last and a hold last that hold on the device. -/
def mainL : Last := { last0 with family := 0x51, steppings := 2, links := [[1]], rows := [] }
def holdL : Last := { mainL with role := 3, rates := [], items := [], margin := 4, opPoint := 4, bindings := [], ctxs := [], checks := [] }
def held (m : Mode) (f : Power → Power) : State :=
  { pw m f with
    lasts :=
      { world.lasts with
        active := if m = .hold then 4 else 1
        verdict := ⟨100, true, true⟩
        slots := vecMod (vecMod world.lasts.slots 0 fun _ => ⟨.valid, [], some mainL, 0, false⟩) 3 fun _ => ⟨.valid, [], some holdL, 0, false⟩ } }
def boundary : Rrp := at_ 101 0 0
theorem test_slots_hold : (rangeFrom 0 4).map (fun i => slotHolds (held .run id) i true) = [true, false, false, true] ∧ returnSlot (held .hold id) = 0 := by decide +kernel
/-- The transition commits in a mode with a slot. -/
def commits (u : State) (m : Mode) (n : Nat) : Bool := (u.power.transition.any fun t => t.committed) && u.mode = m && u.lasts.active = n
theorem test_commit_hold : runs (.transitionCommit boundary true true []) (held .run (going .run .hold false)) (commits · .hold 4) = true := by decide +kernel
theorem test_commit_quiet : runs (.transitionCommit boundary true true [14]) (held .run (going .run .quiet false)) (fun u => commits u .run 4 && vecAt u.power.domains 14 0 = 2) = true := by decide +kernel
theorem test_commit_return : runs (.transitionCommit boundary true true []) (held .hold (going .hold .run false)) (commits · .run 1) = true := by decide +kernel
theorem test_commit_fails : (runs (.transitionCommit boundary true false []) (held .hold (going .hold .run false)) (fun u => u.power.transition.isNone && u.mode = .hold) &&
    runs (.transitionCommit boundary true true []) (pw .run (going .run .hold false)) (fun u => u.power.transition.isNone && u.mode = .run)) = true := by decide +kernel
theorem test_commit_others : (runs (.transitionCommit boundary true true []) (pw .run (going .run .service false)) (commits · .service 1) &&
    runs (.transitionCommit now true true []) (pw .quiet (going .quiet .watch false)) (commits · .quiet 1)) = true := by decide +kernel
theorem test_commit_judged : (switchJudged (atTime (held .run id) boundary) && switchJudged (atTime (held .run id) now) &&
    runs (.transitionCommit boundary true true []) (let s := held .run (going .run .hold false); { s with lasts := { s.lasts with verdict := ⟨100, false, true⟩ } }) (fun u => u.power.transition.isNone && u.mode = .run)) = true := by decide +kernel
theorem test_commit_early : (runs (.transitionCommit now true true []) (held .run (going .run .hold false)) fun u => (u.power.transition.any fun t => !t.committed) && u.lasts.active = 1) = true := by decide +kernel
def ends (u : State) (m : Mode) : Bool := u.power.transition.isNone && u.mode = m
theorem test_complete_quiet : (runs (.transitionComplete now) (pw .run (going .run .quiet true)) (fun u => ends u .quiet && u.mem.selfRefresh) &&
    runs (.transitionComplete now) (pw .hold (going .run .hold true)) (fun u => ends u .hold && u.mem.selfRefresh) &&
    runs (.transitionComplete now) { pw .hold (going .run .hold true) with dict := [(dkey 0x210A 0, .num 1)] } (fun u => ends u .hold && u.mem.off && u.dram = [])) = true := by decide +kernel
theorem test_complete_watch : (runs (.transitionComplete now) (pw .quiet (going .quiet .watch true)) (fun u => ends u .watch && u.power.enables = Vector.replicate 6 false && u.power.guard.cycles = 0) &&
    runs (.transitionComplete now) (pw .service (going .service .bringup true)) (fun u => ends u .bringup && u.power.step = 0 && domainOn u 1 && domainOn u 3 && !domainOn u 2) &&
    runs (.transitionComplete now) (pw .run (going .hold .run true)) (ends · .run)) = true := by decide +kernel
theorem test_complete_delayed : runs (.transitionComplete now) (pw .run fun p => { going .run .quiet true p with asking := [(12, true)] }) (fun u => u.power.transition.isSome) = true := by decide +kernel
/-- Domain Off Request of GFX, which the active last does not use, and of one it does. -/
def domOff (d : Nat) (ready : Bool) (s : State) (st a v : Nat) : Bool :=
  writeStatus (atTime s now) svc 0x2104 0 (numData 0x2104 0 d) = 0 && runs (.domainOffRequest now .svc d ready) s fun u => answers u svc 0x2104 0 st && u.power.offAnswer = a && vecAt u.power.domains d 0 = v
def serving (f : Power → Power) : State := { pw .service f with lasts := { world.lasts with active := 0 } }
theorem test_domain_off : (domOff 12 true (serving id) stOk 0 0 && domOff 12 false (serving id) stOk 1 2 && domOff 0 true (serving id) stState 3 1 && domOff 12 true (pw .service id) stState 2 1 &&
    domOff 12 true (serving fun p => { p with domains := p.domains.set 12 0 }) stOk 0 0) = true := by decide +kernel
theorem test_domain_off_others : (domOff 2 true (serving id) stOk 0 0 && domOff 15 true (serving id) stOk 0 0 && domOff 1 true (serving id) stOk 0 0) = true := by decide +kernel
def asking12 : Power → Power := fun p => { p with domains := p.domains.set 12 2, asking := [(12, false)] }
theorem test_handshake : (runs (.handshakeRetry now 12 true) (pw .service asking12) (fun u => !asked u 12 && vecAt u.power.domains 12 0 = 0) &&
    runs (.handshakeRetry now 12 false) (pw .service asking12) (fun u => asked u 12) &&
    runs (.delayLimitExpire now 12) (pw .service asking12) (fun u => !asked u 12 && vecAt u.power.domains 12 0 = 3 && isolatedRegion u .gpu)) = true := by decide +kernel
theorem test_switch_good : (entryNum world 0x2109 3 ≠ 0 && runs (.switchGoodTimeout now 14) world (fun u => vecAt u.power.switchTries 14 0 = 1 && domainOn u 14) &&
    runs (.switchGoodTimeout now 14) (pw .run fun p => { p with switchTries := p.switchTries.set 14 9 }) (fun u => vecAt u.power.domains 14 0 = 4 && isolatedRegion u .audio)) = true := by decide +kernel

def aon (f : Power → Power) : State := { State.reset with power := f { resetPower with domains := resetPower.domains.set 0 1 } }
/-- The first n groups raised and the first k of them good. -/
def raised (n k : Nat) (osc : Bool) : Power → Power := fun p => { p with
  waking := true, resetN := false, oscEnable := true, oscReady := osc, enables := Vector.ofFn fun i => i.val < n, goods := Vector.ofFn fun i => i.val < k }
theorem test_aon : (!aonOn State.reset && runs (.aonPowerOnReset true) State.reset (fun u => aonOn u && u.power.waking && u.power.enables.toList = [true, false, false, false, false, false]) &&
    runs (.aonPowerOnReset false) State.reset (fun u => aonOn u && !u.power.waking)) = true := by decide +kernel
theorem test_power_good : (runs (.powerGood 0) (aon (raised 1 0 false)) (fun u => vecAt u.power.goods 0 false && vecAt u.power.enables 1 false && u.power.oscEnable) &&
    runs (.powerGood 1) (aon (raised 2 1 false)) (fun u => !vecAt u.power.enables 2 false) && runs (.powerGood 1) (aon (raised 2 1 true)) (fun u => vecAt u.power.enables 2 false) &&
    runs (.powerGood 5) (aon (raised 6 5 true)) (fun u => u.mode = .bringup && !u.power.waking)) = true := by decide +kernel
theorem test_osc : runs .oscReady (aon (raised 2 2 false)) (fun u => u.power.oscReady && vecAt u.power.enables 2 false) = true := by decide +kernel
theorem test_wait : (entryNum (aon id) 0x2109 3 ≠ 0 && runs .powerGoodTimeout (aon (raised 3 2 true)) (fun u => u.power.wakeTries = 1 && u.power.waking && u.power.enables.toList = [true, false, false, false, false, false]) &&
    runs .powerGoodTimeout (aon fun p => { raised 3 2 true p with wakeTries := 9 }) (fun u => u.mode = .watch && !u.power.waking && u.power.wakeHoldoff && u.power.wakeFailCause = 3 && u.power.faultN = [1]) &&
    runs .wakeHoldoffExpire (aon fun p => { p with wakeHoldoff := true }) (fun u => !u.power.wakeHoldoff)) = true := by decide +kernel
def darkened (u : State) : Bool := u.mode = .off && u.power.enables = Vector.replicate 6 false && u.power.goods = Vector.replicate 6 false && u.power.transition.isNone && u.dram = []
def lit : State := { world with dram := [(5, 5)] }
theorem test_off : (aonOn lit && runs .epoAssert lit darkened && runs .thermalTrip lit (fun u => darkened u && u.power.tripped) && runs (.supplyGroupFail 3) lit darkened && runs (.supplyGroupFail 0) lit (fun u => darkened u && !aonOn u) &&
    runs .tripCoolDown (pw .off fun p => { p with tripped := true }) (fun u => !u.power.tripped)) = true := by decide +kernel
/-- The latest time of the record of class 0x71. -/
def recordAt (u : State) (cls : Nat) (t : Rrp) : Bool := match findRecord u (causeKey cls 0) with
  | some (_, r) => r.st = .active && r.latest = t
  | none => false
theorem test_ranges : (freeSlot world = some 0 && runs (.supplyOutOfRange now 2) world (recordAt · 0x71 now) && runs (.overTemperature now 1 11001) world (recordAt · 0x71 now) &&
    runs (.overTemperature now 1 11000) world (fun u => (findRecord u (causeKey 0x71 0)).isNone)) = true := by decide +kernel

theorem test_reset_pin : (runs .resetAssert lit (fun u => u.mode = .off && u.power.resetN && u.dram = [] && u.power.domains.toList = 1 :: List.replicate 17 0) &&
    runs (.resetRelease true) { pw .off (fun p => { p with resetN := true }) with dram := [] } (fun u => u.mode = .bringup && !u.power.resetN) &&
    runs (.resetRelease true) (aon id) (fun u => !u.power.resetN && u.power.waking && vecAt u.power.enables 0 false)) = true := by decide +kernel
/-- An empty component with its digest: the SHA-256 of nothing. -/
def emptySha : Bytes := sha256 []
def booting (n : Nat) (f : Power → Power) : State :=
  { world with
    mode := .bringup, power := f { powerOn with step := n, domains := Vector.ofFn fun i => if i.val = 0 then 1 else 0 }
    update := { world.update with banks := world.update.banks.map fun b => { b with st := 4, comps := [(1, 0, [], emptySha), (2, 0, [], emptySha), (3, 0, [], emptySha)] } } }
def boots (k : Nat) (s : State) (p : State → Bool) : Bool := runs (.bringupStep now k 0x81 [] [] 800 true) s fun u => u.power.step = k && p u
theorem test_boot_firmware : ((rangeFrom 1 3).all fun t => firmwareOk (booting 0 id) 0 t) = true := by decide +kernel
theorem test_boot_island : boots 1 (booting 0 id) (fun u => domainOn u 3 && u.power.sampled = ⟨1, false, true⟩ && u.sec.divMode = 2 && u.sec.island = 1 && !u.sec.bootStopped) = true := by decide +kernel
theorem test_boot_stops : (boots 1 { booting 0 id with sec := { world.sec with lifeCycle := 4 } } (fun u => u.sec.bootStopped) && boots 1 { booting 0 id with update := world.update } (fun u => u.sec.bootStopped) &&
    boots 2 { booting 1 id with update := world.update } (fun u => u.sec.bootStopped && u.power.faultN = [0]) && boots 3 { booting 2 id with update := world.update } (fun u => u.sec.bootStopped && u.power.faultN = [0])) = true := by decide +kernel
theorem test_boot_field : boots 2 (booting 1 id) (fun u => domainOn u 1 && !u.sec.bootStopped) = true := by decide +kernel
theorem test_boot_mgmt : boots 3 (booting 2 id) (fun u => domainOn u 2 && u.net.nmt = .preOperational && u.sec.grantsInForce = world.sec.grants && u.sec.reserveInForce = 256) = true := by decide +kernel
theorem test_boot_rest : (boots 4 (booting 3 id) (domainOn · 14) && boots 5 (booting 4 id) (fun u => u.power.domains = (booting 4 id).power.domains) && boots 6 (booting 5 id) (domainOn · 16) &&
    boots 7 (booting 6 id) (fun u => domainOn u 15 && domainOn u 17) && boots 8 (booting 7 id) (fun u => domainOn u 13 && domainOn u 12)) = true := by decide +kernel
def last9 : State := { held .bringup id with power := { powerOn with step := 8 } }
theorem test_boot_service : (bringupSlot last9 = some 0 && runs (.bringupStep boundary 9 0 [] [] 800 true) last9 fun u => u.mode = .run && u.lasts.active = 1 && u.power.step = 9) = true := by decide +kernel
def untrained : State := { held .bringup (fun p => { p with step := 6 }) with mem := { world.mem with bitsN := 0 } }
theorem test_training_ends : (domainOn untrained 16 && runs (.dramTrainingComplete now (Vector.replicate 4 8) true) untrained fun u => u.mem.bitsN = 35 && entryNum u 0x5600 0 = 32 && u.mem.groups = Vector.replicate 4 1) = true := by
  decide +kernel
theorem test_training_fails : (slotHolds untrained 3 true && runs (.dramTrainingComplete now (Vector.replicate 4 8) false) untrained (fun u => u.mem.bitsN = 0 && u.mode = .hold) &&
    runs (.dramTrainingComplete now (Vector.ofFn fun i => if i.val = 3 then 4 else 8) true) untrained (fun u => u.mem.bitsN = 0 && u.mode = .hold)) = true := by decide +kernel

/-! ### The guard (R466 to R471) -/

def watch (f : Power → Power) : State :=
  { pw .watch (fun p => f { p with waking := false, nodeId := 3, enables := Vector.replicate 6 false, goods := Vector.replicate 6 false }) with
    dict := [(dkey 0x2106 1, .num 1), (dkey 0x2106 2, .num 3), (dkey 0x2107 0, .num 0x1F), (dkey 0x2108 1, .num 1), (dkey 0x2108 2, .num 0x700)] }
def wakes (u : State) (c : Nat) : Bool := u.power.waking && u.power.wakeCause = c && vecAt u.power.enables 0 false
theorem test_wake_pin : (runs (.wakePin 0 false) (watch id) (wakes · 1) && runs (.wakePin 1 true) (watch id) (wakes · 2) && runs (.wakePin 1 false) (watch id) (fun u => !u.power.waking)) = true := by decide +kernel
theorem test_wake_frame : (entryNum (watch id) 0x2108 1 = 1 && runs (.can0WakeFrame (entryNum (watch id) 0x2108 2) [3]) (watch id) (wakes · 5) && runs (.can0WakeFrame (entryNum (watch id) 0x2108 2) [4]) (watch id) (fun u => !u.power.waking)) = true := by
  decide +kernel
/-- A step that compares a sensor with 100, twice, with an action. -/
def stepG (action : Nat) : GuardStep := ⟨3, 0, 1, 2, 100, action, 0⟩
def guarding (action hits : Nat) : Power → Power := fun p => { p with guard := { p.guard with steps := [stepG action], hits := [hits], prev := [none] } }
theorem test_guard : (guardHolds (stepG 1) none 101 && !guardHolds (stepG 1) none 100 && runs (.guardPeriod [101]) (watch (guarding 1 1)) (wakes · 0x20) &&
    runs (.guardPeriod [101]) (watch (guarding 1 0)) (fun u => u.power.guard.hits = [1] && u.power.guard.prev = [some 101] && !u.power.waking && u.power.guard.cycles = 1) &&
    runs (.guardPeriod [100]) (watch (guarding 1 1)) (fun u => u.power.guard.hits = [0] && u.power.guard.watchMs = u.power.guard.period)) = true := by decide +kernel
theorem test_guard_usdo : (guardEntry (watch id) 0x2001 0 = some [1] && runs (.guardUsdoRead ⟨0, 3, false, 0x2001, 0, []⟩) (watch id) (fun u => u.emitted = [.usdo 0 0x2001 0 [1]]) &&
    guardEntry (watch id) 0x2002 0 = none && runs (.guardUsdoRead ⟨0, 3, false, 0x2002, 0, []⟩) (watch id) (fun u => u.emitted = [.usdoAbort 0 0x2002 0 stMode]) &&
    runs .guardHeartbeat (watch id) (fun u => u.emitted = [.can 0 0x703 [4]])) = true := by decide +kernel
def quietS : State := { watch id with mode := .quiet, power := powerOn }
def toRun (u : State) : Bool := u.mode = .quiet && u.power.transition.any fun t => t.target = .run
theorem test_quiet_wake : (bit (entryNum quietS 0x2107 0) 0 && runs (.wakePin 0 false) quietS toRun && runs (.can0WakeFrame (entryNum quietS 0x2108 2) [BitVec.ofNat 8 (nodeIdOf quietS)]) quietS toRun &&
    runs (.guardPeriod [101]) quietS (fun u => u.power.guard.cycles = 0) && runs .guardHeartbeat quietS (fun u => u.emitted = [])) = true := by decide +kernel

/-! ### Health (chapter 18) and update (chapter 19) -/

def rec0 (key : Nat) (st : FaultState) (first : Rrp) (decided : Bool) : FaultRec := ⟨key, 1, st, 1, 1, first, first, 2, classCode (key / 2 ^ 24), decided, zeroRrp⟩
def hlt (f : Health → Health) : State := { world with health := f world.health }
/-- Slot 0 holds a record. -/
def withRec (r : FaultRec) : State := hlt fun h => { h with slots := h.slots.set 0 (some r) }
/-- What stands of a key's record: slot, effect, state, echoes, devices, reporter. -/
def recIs (u : State) (key : Nat) (x : Nat × Nat × FaultState × Nat × Nat × Nat) : Bool :=
  (findRecord u key).map (fun e => (e.1, e.2.effect, e.2.st, e.2.echoes, e.2.devices, e.2.reporter)) = some x
theorem test_report : (causeKey 0x33 5 = 0x33000005 && runs (.faultReport now 0x33 5 2) world (fun u => recIs u 0x33000005 (0, 2, .active, 0, 1, 1) && entryNum u 0x5807 0 = 1) &&
    runs (.faultReport now 0x33 5 2) (withRec (rec0 0x33000005 .clearing (at_ 90 0 0) true)) (fun u => recIs u 0x33000005 (0, 2, .active, 3, 1, 1))) = true := by decide +kernel
def full : State := hlt fun h => { h with slots := Vector.ofFn fun i => if i.val < 63 then some (rec0 (0x33000000 + i.val) .active zeroRrp true) else none }
theorem test_overflow : (freeSlot full = none && runs (.faultReport now 0x34 5 2) full (fun u => entryNum u 0x5806 0 = 1 && (findRecord u overflowKey).isSome && recIs u 0x33000007 (7, 1, .active, 2, 1, 1))) = true := by decide +kernel
/-- A TOKEN cell of node n for key 0x01800000. -/
def tokenB (n : Nat) : Bytes := let h := leBytes 1 5 ++ leBytes 1 n ++ [0xFF, 0] ++ padTo 24 (tokenPayload 0x01800000 (at_ 90 0 0) n 2); h ++ leBytes 4 (crcOf crc32c h)
theorem test_token_cell : (cellOk (tokenB 9) && nodeIdOf world = 1 && runs (.hiveTokenReceive now (tokenB 9)) (withRec (rec0 0x01800000 .active now false)) (fun u =>
    u.health.tokens = [⟨0x01800000, at_ 90 0 0, 9, 2⟩] && recIs u 0x01800000 (0, 1, .active, 2, 2, 1)) && runs (.hiveTokenReceive now (tokenB 1)) world (fun u => u.health.tokens = []) &&
    runs (.hiveTokenReceive now (tokenB 9 ++ [0])) world (fun u => u.hive.cellErrors = 1)) = true := by decide +kernel
theorem test_token_no_net : (!netOn { world with isolated := [.net] } && runs (.hiveTokenReceive now (tokenB 9)) { world with isolated := [.net] } (fun u => u.health.tokens = [])) = true := by decide +kernel
def tok9 : Health → Health := fun h => { h with tokens := [⟨0x01800000, at_ 90 0 0, 9, 2⟩], slots := h.slots.set 0 (some (rec0 0x01800000 .active (at_ 91 0 0) false)) }
theorem test_token_expire : (waited (atTime world (at_ 5000 0 0)) (at_ 90 0 0) 60000 && runs (.hiveTokenExpire (at_ 5000 0 0) 0x01800000 9) (hlt tok9) (fun u => u.health.tokens = []) &&
    runs (.hiveTokenExpire now 0x01800000 9) (hlt tok9) (fun u => u.health.tokens.length = 1)) = true := by decide +kernel
theorem test_reporter : (reporterOf (hlt tok9) (rec0 0x01800000 .active (at_ 91 0 0) false) = 9 && runs (.reporterDecision now 0x01800000) (hlt tok9) (fun u => recIs u 0x01800000 (0, 1, .active, 2, 1, 9) && entryNum u 0x5808 0 = 1) &&
    runs (.reporterDecision (at_ 91 1 0) 0x01800000) (hlt tok9) (fun u => (findRecord u 0x01800000).any fun e => !e.2.decided)) = true := by decide +kernel
def later_ : Rrp := at_ 5000 0 0
def open0 (cls : Nat) (st : FaultState) : FaultRec := rec0 (cls * 2 ^ 24) st now true
theorem test_clear : (classClears 0x30 && clearDue (atTime world later_) (open0 0x30 .active) && runs (.faultClear later_ 0x30000000) (withRec (open0 0x30 .active)) (fun u =>
      (findRecord u 0x30000000).map (·.2) = some { open0 0x30 .active with st := .clearing, clearedAt := later_ }) &&
    !clearDue world (open0 0x30 .active) && runs (.faultClear now 0x30000000) (withRec (open0 0x30 .active)) (recIs · 0x30000000 (0, 1, .active, 2, 1, 1)) &&
    !classClears 0x33 && runs (.faultClear later_ 0x33000000) (withRec (open0 0x33 .active)) (recIs · 0x33000000 (0, 1, .active, 2, 1, 1))) = true := by decide +kernel
theorem test_close : (waited (atTime world later_) zeroRrp 60000 && runs (.faultRecordClose later_ 0x30000000) (withRec (open0 0x30 .clearing)) (fun u => (findRecord u 0x30000000).isNone && u.health.history = [open0 0x30 .closed]) &&
    !waited world (at_ 90 0 0) 60000 && runs (.faultRecordClose now 0x30000000) (withRec { open0 0x30 .clearing with clearedAt := at_ 90 0 0 }) (recIs · 0x30000000 (0, 1, .clearing, 2, 1, 1)) &&
    runs (.faultRecordClose later_ 0x30000000) (withRec (open0 0x30 .active)) (recIs · 0x30000000 (0, 1, .active, 2, 1, 1))) = true := by decide +kernel
def heldE (n : Nat) : Emcy := ⟨0xFF42, 0x33000000, 2, now, n, none⟩
def holding (n : Nat) : State := { world with net := { world.net with inhibit := [n], emcyHeld := [heldE n] } }
theorem test_inhibit : (runs (.emcyInhibitExpire now 1) (holding 1) (fun u => u.net.emcyHeld = [] && .can 0 0x81 (emcyBytes (holding 1) (heldE 1)) ∈ u.emitted) &&
    runs (.emcyInhibitExpire now 7) (holding 7) (fun u => u.net.emcyHeld = [] && .can 0 0x87 (emcyBytes (holding 7) (heldE 7)) ∈ u.emitted) &&
    runs (.emcyInhibitExpire now 1) { world with net := { world.net with inhibit := [1] } } (fun u => u.net.inhibit = [] && u.emitted = [])) = true := by decide +kernel
/-- 24 h at 60 Hz are 5 184 000 frames. -/
def nextDay : Rrp := at_ 6000000 0 0
theorem test_day : (dayOver (atTime world nextDay) 8 && runs (.inspectionDayEnd nextDay 8) (hlt fun h => { h with insp := { h.insp with day := 65535 } }) (fun u => u.health.insp.day = 0 && u.health.insp.start = nextDay &&
      u.health.insp.startTime = 0 && u.health.records.length = 1 && entryNum u 0x5A11 0 = 1 && u.health.boundaryAt = nextDay) &&
    !dayOver (atTime world (at_ 6000000 1 0)) 8 && !dayOver (atTime world (at_ 101 0 0)) 8 && runs (.inspectionDayEnd (at_ 101 0 0) 8) world (fun u => u.health.records = []) &&
    runs (.inspectionCheckpoint now) world (fun u => u.health.checkpoint = some world.health.insp)) = true := by decide +kernel
def clocked (start : Nat) : State := { world with tb := { world.tb with ptpEver := true }, health := { world.health with insp := { resetInspection with startTime := start } } }
theorem test_day_ptp : (dayOver (atTime (clocked 86400) (at_ 101 0 0)) 172800 && !dayOver (atTime (clocked 86400) (at_ 101 0 0)) 172799 &&
    runs (.inspectionDayEnd (at_ 101 0 0) 172800) (clocked 86400) (fun u => u.health.insp.startTime = 172800)) = true := by decide +kernel
/-- Path slack of 7.9 % is grade C, and holds after three evaluations. -/
def slow : Vector Int 64 := Vector.ofFn fun i => if i.val = 5 then 79 else 500
theorem test_path : (runs (.pathDelayEval now slow) world (fun u => entryNum u 0x5A02 1 = 79 && entryNum u 0x5A03 1 = 3 && entryNum u 0x5A04 6 = 79 && marginClass u = 1) &&
    runs (.pathDelayEval now slow) (hlt fun h => { h with ledger := { h.ledger with grades := h.ledger.grades.set 0 [3, 3] } }) (fun u => marginClass u = 3)) = true := by decide +kernel
theorem test_drift : (runs (.oscDriftEval now (-300)) { world with tb := { world.tb with st := .locked } } (fun u => entryNum u 0x5A02 4 = 300 && entryNum u 0x5A03 4 = 2) &&
    runs (.oscDriftEval now (-300)) { world with tb := { world.tb with st := .freeRun } } (fun u => u.health.ledger.grades = world.health.ledger.grades)) = true := by decide +kernel
def eyes : State := { world with dict := (rangeFrom 1 16).map fun i => (dkey 0x5A05 i, .num 400) }
theorem test_eye : (runs (.eyeMarginStep now 3 260 40 true) eyes (fun u => entryNum u 0x5A05 4 = 260 && entryNum u 0x5A02 3 = 260 && entryNum u 0x5A03 3 = 3) &&
    runs (.eyeMarginStep now 3 149 40 false) eyes (fun u => entryNum u 0x5A05 4 = 149 && groupLost u 0) && runs (.eyeMarginStep now 3 150 35 false) eyes (fun u => !groupLost u 0)) = true := by decide +kernel
theorem test_prediction : runs (.predictionDaily now) (hlt fun h => { h with ledger := { h.ledger with today := h.ledger.today.set 0 (some 90) } }) (fun u =>
    vecAt u.health.ledger.daily 0 [] = [90] && u.health.ledger.today = Vector.replicate 4 none && entryNum u 0x5A01 0 = 0xFFFF) = true := by decide +kernel

def upd (f : Update → Update) : State := { world with update := f world.update }
/-- The inactive bank B in a state, with an image. -/
def bankB (st : Nat) (img : Bytes) : Update → Update := fun q => { q with banks := q.banks.set 1 ⟨st, img, []⟩ }
/-- A pending write of the image in Run, with the CAN path that may make one. -/
def msgQ : Msg := ⟨1, 6, 0, 0, 0x5C01, 4, 5, 0, [], [], false, false⟩
def cano5 : Origin := ⟨.can, 0, 0, 0⟩
def loads : State := { upd (bankB 1 [1, 2, 3]) with net := { world.net with tickets := [⟨5, svc, msgQ, updateKey, false, none, none⟩] } }
theorem test_load_refused : (writePending loads updateKey && imageCheck (atTime loads now) [1, 2, 3] = 0x0C01 && runs (.updateLoadComplete now) loads (fun u =>
    (bankAt u 1).st = 3 && u.update.st = 3 && u.update.status = 0x0C01 && !writePending u updateKey)) = true := by decide +kernel
/-- A partial image of one configuration-store record, for any unit, under key 3 of kind 1. -/
def storeB : Bytes := leBytes 2 0x2105 ++ [0, 5, 0, 0, 0, 0, 1] ++ zeroBytes 7
def image0 : Bytes :=
  padTo 128 (padTo 64 (ascii "PLV1" ++ [1, 0, 1, 0] ++ leBytes 4 240 ++ leBytes 2 (entryNum world 0x2000 1) ++ leBytes 2 0xFFFF ++ zeroBytes 16 ++ leBytes 4 3) ++
    [7, 0] ++ zeroBytes 6 ++ leBytes 4 128 ++ leBytes 4 16 ++ sha256 storeB) ++ storeB ++ zeroBytes 96
def keyed : State := { world with sec := { world.sec with keys := [⟨1, 3, [7]⟩] } }
theorem test_image_key : imageKeyOf keyed image0 = some [7] := by decide +kernel
/-- Its checks all pass where its signature verifies. -/
theorem test_image (h : Config.ecdsaVerify [7] (image0.take 144) (image0.drop 144) = true) : imageCheck keyed image0 = 0 := by
  have n : image0.length - 96 = 144 := by decide +kernel
  unfold imageCheck
  simp only [test_image_key, n, h]
  decide +kernel
def activates (i : Instr) (f : Nat) (s : State) (st : Nat) (p : State → Bool) : Bool :=
  writeStatus (atTime s now) cano5 0x5C05 0 (numData 0x5C05 0 f) = 0 && runs i s fun u => answers u cano5 0x5C05 0 st && p u
theorem test_activation : (activates (.updateActivationFrame now cano5 102) 102 (upd (bankB 2 [])) stOk (fun u => u.update.activation = some (102, false) && u.update.st = 4) && activates (.updateActivationFrame now cano5 101) 101 (upd (bankB 2 [])) stState (fun u => u.update.result = 3) &&
    activates (.updateActivationFrame now cano5 102) 102 (upd id) stState (fun u => u.update.result = 5) && activates (.updateActivationFrame now cano5 100) 100 (upd (bankB 2 [])) stRange (fun u => u.update.activation.isNone)) = true := by decide +kernel
theorem test_activation_mode : activates (.updateActivationFrame now cano5 102) 102 { upd (bankB 2 []) with mode := .service } stMode (fun u => u.update.activation.isNone) = true := by decide +kernel
def ptp : State := { upd (bankB 2 []) with tb := { world.tb with status := world.tb.status.set 1 .qualified, active := 2 } }
def ns102 : Nat := 1700000000
theorem test_activation_time : (writeStatus (atTime ptp now) cano5 0x5C06 0 (numData 0x5C06 0 ns102) = 0 && (frameAt ptp ns102).1 = 102 && runs (.updateActivationTime now cano5 ns102) ptp (fun u =>
    answers u cano5 0x5C06 0 stOk && u.update.activation = some (102, false)) && runs (.updateActivationTime now cano5 ns102) (upd (bankB 2 [])) (fun u => answers u cano5 0x5C06 0 stMode)) = true := by decide +kernel
def sched : Update → Update := fun q => { bankB 2 [] q with activation := some (101, false) }
theorem test_activate : runs (.updateActivate (at_ 101 0 0)) (upd sched) (fun u => u.mode = .bringup && u.power.step = 0 && u.update.activation.isNone && u.update.result = 1 && onTrial u && confirmedBank u = 0 && (bankAt u 1).st = 5) = true := by
  decide +kernel
theorem test_activate_not : (runs (.updateActivate (at_ 101 0 0)) { upd sched with power := { powerOn with transition := some ⟨.quiet, .watch, true, 101⟩ } } (fun u => u.mode = .run && u.update.result = 4 && u.update.st = 2) &&
    runs (.updateActivate now) (upd sched) (fun u => u.update.activation.isSome)) = true := by decide +kernel
/-- Bank B on trial in its first boot. -/
def trial : Update → Update := fun q => { bankB 5 [] q with boot := Vector.replicate 2 ⟨0, 0, true, 1⟩, oldStore := some [], bootFrames := 1000000000 }
theorem test_confirm : (onTrial (upd trial) && writeStatus (atTime (upd trial) now) cano5 0x5C08 0 (numData 0x5C08 0 1) = 0 && runs (.updateConfirm now cano5 1) (upd trial) (fun u =>
    answers u cano5 0x5C08 0 stOk && confirmedBank u = 1 && !onTrial u && (bankAt u 1).st = 4 && (bankAt u 0).st = 2 && u.update.oldStore.isNone) &&
    runs (.updateConfirm now cano5 1) (upd id) (fun u => answers u cano5 0x5C08 0 stMode)) = true := by decide +kernel
def backTo (c : Nat) (u : State) : Bool :=
  u.mode = .bringup && u.power.step = 0 && !onTrial u && confirmedBank u = 0 && u.update.fallbackCause = c && u.update.fallbackReport && u.update.oldStore.isNone && (bankAt u 1).st = 2
theorem test_fall_back : (entryNum (upd trial) 0x5C09 0 ≤ 1000000000 && runs (.confirmationTimeout now) (upd trial) (backTo 1) && runs (.confirmationTimeout now) (upd fun q => { trial q with bootFrames := 0 }) onTrial && runs .noServiceTimeout { upd trial with mode := .bringup } (backTo 2)) = true := by decide +kernel

/-! ### Parts that are lost and return -/

def dieLinked : State := { world with dieLink := true }
theorem test_die_link : (runs (.dieLinkTransfer now 4) dieLinked (fun u => u.dieLink && (findRecord u (causeKey 0x42 0)).isSome) && runs (.dieLinkTransfer now 3) dieLinked (fun u => (findRecord u (causeKey 0x42 0)).isNone) &&
    runs (.dieLinkLoss now) dieLinked (fun u => !u.dieLink && u.fioUnknown && u.power.fioSafe) && runs (.dieLinkRestored now) { world with dieLink := false, fioUnknown := true } (fun u => u.dieLink && !u.fioUnknown)) = true := by decide +kernel
def busyBox : State := { loads with net := { loads.net with mailboxes := vecMod loads.net.mailboxes 2 fun m => { m with busy := true, req := [], sent := msgBytes msgQ }, forwards := [] } }
def fieldless (b : Bool) : State := { world with dieLink := b, power := { powerOn with domains := powerOn.domains.set 1 0 } }
theorem test_die_link_field_off : (runs (.dieLinkLoss now) (fieldless true) (fun u => u.fioUnknown && u.power.fioSafe) && runs (.dieLinkRestored now) (fieldless false) (fun u => u.dieLink && u.fioUnknown)) = true := by decide +kernel
theorem test_mgmt_restart : (runs (.mgmtCoreRestart now) busyBox (fun u => u.net.restarting && u.net.tickets = [] && u.net.domains = [] && u.net.forwards = [] &&
      (mailboxAt u 2).ready = some (unavailableReply (msgBytes msgQ) 1) && u.lasts.active = 1) &&
    runs (.mgmtRestartComplete now) { world with net := { world.net with restarting := true } } (fun u => !u.net.restarting && u.net.nmt = .preOperational)) = true := by decide +kernel
theorem test_isolate : runs (.regionIsolate now .audio) world (fun u => isolatedRegion u .audio && vecAt u.power.domains 14 0 = 4) = true := by decide +kernel
def fwd0 : Forwarded := ⟨7, svc, { msgQ with node := 9 }, false, [], []⟩
def forwards0 : State := { world with net := { world.net with forwards := [fwd0], sources := [⟨7, 9, some 4, [], []⟩] } }
theorem test_forward_lost : runs (.forwardTimeout now 7) forwards0 (fun u => u.net.forwards = [] && u.emitted.length = 1) = true := by decide +kernel
theorem test_source_idle : runs (.sourceIdleDrop now 7 9) forwards0 (fun u => u.net.sources = [] && u.net.forwards = [fwd0]) = true := by decide +kernel
theorem test_later : (frameLater 5 4294967290 = true ∧ frameLater 4294967290 5 = false ∧ frameLater 2147483648 0 = false ∧ frameLater 2147483647 0 = true) := by decide
/-- A write, a segment write or its end, in a datagram. -/
def req (op : Nat) : Msg := if op = 5 then { msgQ with op := 5, length := 5, payload := [1, 0, 0, 0, 7] } else { msgQ with op := op, payload := [1, 0, 0, 0] }
def wired : State := { world with dict := [(dkey 0x1D04 1, .num 0x0A000001)] }
/-- Datagram writes without a key. -/
theorem test_auth : (ethServed wired eth.eth && dictOn wired && formatOk (req 2) && (datagramKey wired).isNone && runs (.write now eth (req 2) false) wired (fun u => entryNum u 0x1D0A 0 = 1 && u.emitted.length = 1)) = true := by
  decide +kernel
theorem test_auth_segments : (formatOk (req 5) && formatOk (req 6) && runs (.writeSeg now eth (req 5)) wired (fun u => entryNum u 0x1D0A 0 = 1 && u.net.domains = []) &&
    runs (.writeSegEnd now eth (req 6) false) wired (fun u => entryNum u 0x1D0A 0 = 1)) = true := by decide +kernel
def wiredKey : State := { wired with sec := { world.sec with keys := [⟨3, 1, [7]⟩] } }
theorem test_auth_mac : (datagramKey wiredKey = some [7] ∧ (req 2).mac ≠ (hmacSha256 [7] (msgBytes (req 2))).take 16 ∧ runs (.write now eth (req 2) false) wiredKey (fun u => entryNum u 0x1D0A 0 = 1) = true) := by decide +kernel

/-! ### Form: an ill-formed command for each check, and words of the table -/

def farRrp : Rrp := ⟨2 ^ 32, 0, 0⟩
def wideOrigin : Origin := ⟨.eth, 2 ^ 128, 0, 0⟩
def good : Msg := ⟨1, 2, 0, 0, 0x1000, 1, 0, 0, [1], [], false, false⟩
def picOf (w : Nat) : Picture := { syntaxOk := true, irap := true, refsOk := true, profile := .main, level := 51, yuv420 := true, width := w, height := 1, deep := false, poc := 0, maxRefs := 0 }
theorem test_wf_good : (Instr.wf (.dieLinkLoss now) && Instr.wf (.write now eth good true) && Instr.wf (.usdoRequest now ⟨0, 3, true, 0x1000, 0, [1]⟩ false) && Instr.wf .oscReady && Instr.wf (.dramAccess now (⟨.mgmt, 1, 2 ^ 40 - 1, 4, none, 0, false, false⟩))) = true := by
  decide
theorem test_wf_rrp : Instr.wf (.dieLinkLoss farRrp) = false ∧ Instr.wf (.dieLinkLoss ⟨0, 65536, 0⟩) = false ∧ Instr.wf (.dieLinkLoss ⟨0, 0, 65536⟩) = false := by decide
theorem test_wf_number : Instr.wf (.dieLinkTransfer now 256) = false ∧ Instr.wf (.bandComplete now 0 65536 true true) = false ∧ Instr.wf (.guardUsdoRead ⟨0, 256, false, 0, 0, []⟩) = false := by decide
theorem test_wf_message : Instr.wf (.read now wideOrigin good) = false ∧ Instr.wf (.read now eth { good with op := 256 }) = false ∧ Instr.wf (.read now eth { good with mac := zeroBytes 17 }) = false := by decide
theorem test_wf_cell : Instr.wf (.barrierArm now (zeroBytes 31)) = false ∧ Instr.wf (.barrierArm now (zeroBytes 32)) = true := by decide
theorem test_wf_int : Instr.wf (.oscDriftEval now (2 ^ 63)) = false ∧ Instr.wf (.oscDriftEval now (-(2 ^ 63))) = true ∧ Instr.wf (.guardPeriod [2 ^ 63]) = false := by decide
theorem test_wf_optional : Instr.wf (.bar0Access now 0 0 4 (some (2 ^ 64)) none) = false ∧ Instr.wf (.bar0Access now 0 0 4 none (some (2 ^ 20))) = false := by decide
theorem test_wf_lists : Instr.wf (.scanoutLine now 0 0 [2 ^ 32] []) = false ∧ Instr.wf (.scanoutLine now 0 0 [] [(0, 2 ^ 32)]) = false ∧ Instr.wf (.bandDeadline now 0 0 3 [(65536, 0, 0)]) = false := by decide
theorem test_wf_units : Instr.wf (.captureFrameComplete now 0 8 [[⟨65536, 0, 0⟩]]) = false ∧ Instr.wf (.touchSlotEnd now 0 [(256, [])]) = false ∧ Instr.wf (.dramAccess now ⟨.mgmt, 1, 2 ^ 40, 4, none, 0, false, false⟩) = false ∧
    Instr.wf (.feedPictureComplete now 0 (picOf 65536)) = false ∧ Instr.wf (.guardHeartbeat) = true ∧ Instr.wf (.pcieConfigRequest now 0 (.other 4096) none) = false := by decide
/-- The table gives no row any bits, so no word spells a command and nothing is put in front of the queue. -/
theorem test_words : decodeTableWord 32 5 = none ∧ (State.withFetchWord world 32 5).pending = [] := by decide +kernel

end Sys2Proof.Tests
end

section
/-! PROOFS. What a datagram that writes without a good MAC does (R34), for the family of the dictionary and the networks. -/

namespace Sys2Proof.Machine

/-! ### The end of a command that leaves memory alone -/

/-- After a command that leaves the queue and memory as they were, its end changes nothing more. -/
theorem finish_of_quiescent {s t : State} (hq : Quiescent s) (hp : t.pending = s.pending) (hd : t.dram = s.dram)
    (hs : t.stores = s.stores) (hl : t.dramLost = s.dramLost) : finish s t = t := by
  obtain ⟨-, hstores, hlost⟩ := hq
  have hs' : t.stores = [] := hs.trans hstores
  have hl' : t.dramLost = false := hl.trans hlost
  simp only [finish, applyStores, SMap.setAll, hs', hl', ← hp, ← hd, Bool.false_eq_true, if_false, List.reverse_nil,
    List.foldl_nil]
  rw [← hs', ← hl']

/-! ### Dictionary keys and counters -/

/-- Entries with subindices of one byte have keys of their own. -/
theorem dkey_inj {ix sub jx jsub : Nat} (h : sub < 256) (h' : jsub < 256) (he : dkey ix sub = dkey jx jsub) :
    (ix, sub) = (jx, jsub) := by
  simp only [dkey] at he
  ext <;> dsimp only <;> omega

/-- A counter below its top is set to the next number, and no free value is drawn. -/
theorem bump_of_lt {s : State} {ix sub : Nat} (h : entryNum s ix sub + 1 < 2 ^ 32) :
    bump s ix sub = setNum s ix sub (entryNum s ix sub + 1) := by
  simp only [bump, if_pos h]

/-! ### Requests -/

/-- The rows of the three writing operations bring their request to its path. -/
theorem exec_write (t : Rrp) (o : Origin) (m : Msg) (slow : Bool) (s : State) :
    exec (.write t o m slow) s = .next (finish s (request (atTime s t) o (withOp m 2) slow)) := rfl
theorem exec_writeSeg (t : Rrp) (o : Origin) (m : Msg) (s : State) :
    exec (.writeSeg t o m) s = .next (finish s (request (atTime s t) o (withOp m 5) false)) := rfl
theorem exec_writeSegEnd (t : Rrp) (o : Origin) (m : Msg) (slow : Bool) (s : State) :
    exec (.writeSegEnd t o m slow) s = .next (finish s (request (atTime s t) o (withOp m 6) slow)) := rfl

/-- A message of a row's own operation stays as it came. -/
theorem withOp_self {m : Msg} {op : Nat} (h : m.op = op) : withOp m op = m := by
  subst h
  simp [withOp]

/-- A MAC fails exactly where no installation key is present, or it is not the one that the key gives (R33, R34). -/
theorem macOk_eq_false_iff {s : State} {m : Msg} : macOk s m = false ↔
    datagramKey s = none ∨ ∃ k, datagramKey s = some k ∧ m.mac ≠ (hmacSha256 k (msgBytes m)).take 16 := by
  unfold macOk
  cases datagramKey s with
  | none => simp
  | some k => simp

/-- The dictionary is served only while the management core is not restarting and its region is in service. -/
theorem mgmt_inService_of_dictOn {s : State} (h : dictOn s = true) :
    s.net.restarting = false ∧ isolatedRegion s .mgmt = false := by
  simp only [dictOn, Bool.and_eq_true, Bool.not_eq_true'] at h
  obtain ⟨⟨-, hrun⟩, hreg⟩ := h
  exact ⟨hrun, hreg⟩

/-- A refusal of a datagram sends the reply with its MAC, and does nothing else (R33). -/
theorem refuse_eth {o : Origin} (h : o.path = .eth) (s : State) (m : Msg) (st : Nat) :
    refuse s o m st = emit s (.reply o (msgBytes (replyMsg m (nodeIdOf s) st []) ++
      macOf s (msgBytes (replyMsg m (nodeIdOf s) st [])))) := by
  simp only [refuse, sendReply, h]

/-- A well-formed datagram that writes without a good MAC is counted and refused (R34). -/
theorem datagram_badMac {s : State} {o : Origin} {m : Msg} (slow : Bool) (hshort : m.short = false)
    (heth : ethServed s o.eth = true) (hdict : dictOn s = true) (hform : formatOk m = true) (hw : isWrite m.op = true)
    (hmac : macOk s m = false) : datagram s o m slow = refuse (bump s 0x1D0A 0) o m stAuthFail := by
  obtain ⟨hrun, hreg⟩ := mgmt_inService_of_dictOn hdict
  simp [datagram, hshort, heth, hrun, hreg, hdict, hform, hw, hmac]

/-! ### The refusal -/

/-- The state after a write refused for its MAC at time t: Authentication Failures risen by one, and AUTH_FAIL answered. -/
def authRefused (s : State) (t : Rrp) (o : Origin) (m : Msg) : State :=
  let b := msgBytes (replyMsg m (nodeIdOf s) stAuthFail [])
  emit (setNum (atTime s t) 0x1D0A 0 (entryNum s 0x1D0A 0 + 1)) (.reply o (b ++ macOf s b))

theorem entryNum_authRefused (s : State) (t : Rrp) (o : Origin) (m : Msg) :
    entryNum (authRefused s t o m) 0x1D0A 0 = entryNum s 0x1D0A 0 + 1 :=
  entryNum_setNum (atTime s t) _ _ _

theorem entry_authRefused_ne (s : State) (t : Rrp) (o : Origin) (m : Msg) {ix sub : Nat} (h : sub < 256)
    (hne : (ix, sub) ≠ (0x1D0A, 0)) : entry (authRefused s t o m) ix sub = entry s ix sub :=
  entry_setNum_ne (atTime s t) _ _ _ _ _ fun he => hne (dkey_inj h (by decide) he)

/-- A write in a datagram without a good MAC ends in the refused state: neither its replay nor its entry is looked at (R34). -/
theorem finish_request_badMac {s : State} {o : Origin} {m : Msg} (t : Rrp) (slow : Bool) (hpath : o.path = .eth)
    (hshort : m.short = false) (heth : ethServed s o.eth = true) (hdict : dictOn s = true) (hform : formatOk m = true)
    (hw : isWrite m.op = true) (hmac : macOk s m = false) (hcount : entryNum s 0x1D0A 0 + 1 < 2 ^ 32) (hq : Quiescent s) :
    finish s (request (atTime s t) o m slow) = authRefused s t o m := by
  have hrun : request (atTime s t) o m slow = authRefused s t o m :=
    calc request (atTime s t) o m slow
        = datagram (atTime s t) o m slow := by simp only [request, hpath]
      _ = refuse (bump (atTime s t) 0x1D0A 0) o m stAuthFail := datagram_badMac slow hshort heth hdict hform hw hmac
      _ = refuse (setNum (atTime s t) 0x1D0A 0 (entryNum s 0x1D0A 0 + 1)) o m stAuthFail :=
        congrArg (refuse · o m stAuthFail) (bump_of_lt (s := atTime s t) hcount)
      _ = authRefused s t o m := refuse_eth hpath _ _ _
  rw [hrun]
  exact finish_of_quiescent hq rfl rfl rfl rfl

end Sys2Proof.Machine

namespace Sys2Proof

open Machine

/-- Settles O57: the checks of a datagram stop at the MAC, and all they have done by then is the count and the reply. -/
theorem writesWithoutAGoodMacAreRefused : Obligations.WritesWithoutAGoodMacAreRefused := by
  unfold Obligations.WritesWithoutAGoodMacAreRefused
  intro s t o m slow hpath hshort heth hdict hkey hcount hq Refused hform
  have refused : Refused (authRefused s t o m) :=
    ⟨entryNum_authRefused s t o m, ⟨_, rfl⟩, rfl, fun _ _ => entry_authRefused_ne s t o m⟩
  have run : ∀ slow, isWrite m.op = true → Refused (finish s (request (atTime s t) o m slow)) := fun slow hw =>
    finish_request_badMac t slow hpath hshort heth hdict hform hw (macOk_eq_false_iff.2 hkey) hcount hq ▸ refused
  refine ⟨fun hop => ⟨_, exec_write t o m slow s, ?_⟩, fun hop => ⟨_, exec_writeSeg t o m s, ?_⟩,
    fun hop => ⟨_, exec_writeSegEnd t o m slow s, ?_⟩⟩
  all_goals
    rw [withOp_self hop]
    exact run _ (by simp [isWrite, hop])

end Sys2Proof
end

section
/-! PROOFS. The order of frame numbers (R61), for the family of the reference and the raster. -/

namespace Sys2Proof.Machine

/-! ### The difference of two frame numbers -/

/-- The difference is that of the integers, modulo 2^32. -/
theorem intCast_frameDiff (a b : Nat) : (frameDiff a b : Int) = ((a : Int) - b) % 2 ^ 32 := by
  simp only [frameDiff]
  omega

/-- The difference of a 32-bit frame number from another is the count of increments that lead to it. -/
theorem frameDiff_eq_iff {a b d : Nat} (ha : a < 2 ^ 32) (hd : d < 2 ^ 32) :
    frameDiff a b = d ↔ a = (b + d) % 2 ^ 32 := by
  simp only [frameDiff]
  omega

@[simp] theorem frameDiff_self (a : Nat) : frameDiff a a = 0 := by
  simp only [frameDiff]
  omega

/-- The ways from one frame number to another and back make one whole turn. -/
theorem frameDiff_add_frameDiff {a b : Nat} (h : frameDiff a b ≠ 0) : frameDiff a b + frameDiff b a = 2 ^ 32 := by
  simp only [frameDiff] at h ⊢
  omega

/-! ### The later of two frames -/

theorem frameLater_iff {a b : Nat} : frameLater a b = true ↔ 1 ≤ frameDiff a b ∧ frameDiff a b ≤ 2 ^ 31 - 1 := by
  simp only [frameLater, Bool.and_eq_true, decide_eq_true_eq]
  omega

/-- A 32-bit frame number is later than another where fewer than 2^31 increments, at least one, lead to it. -/
theorem frameLater_iff_exists_add {a b : Nat} (ha : a < 2 ^ 32) :
    frameLater a b = true ↔ ∃ d, 1 ≤ d ∧ d ≤ 2 ^ 31 - 1 ∧ a = (b + d) % 2 ^ 32 := by
  rw [frameLater_iff]
  constructor
  · rintro ⟨hpos, hhalf⟩
    exact ⟨frameDiff a b, hpos, hhalf, (frameDiff_eq_iff ha (by omega)).1 rfl⟩
  · rintro ⟨d, hpos, hhalf, hadd⟩
    rw [(frameDiff_eq_iff ha (by omega)).2 hadd]
    exact ⟨hpos, hhalf⟩

/-- The order in the integers, as R61 writes it. -/
theorem frameLater_iff_int {a b : Nat} :
    frameLater a b = true ↔ 1 ≤ ((a : Int) - b) % 2 ^ 32 ∧ ((a : Int) - b) % 2 ^ 32 ≤ 2 ^ 31 - 1 := by
  rw [frameLater_iff, ← intCast_frameDiff]
  omega

theorem frameLater_irrefl (a : Nat) : frameLater a a = false := by
  simp [frameLater]

/-- Both ways below a half turn would not make a whole one. -/
theorem frameLater_asymm {a b : Nat} : ¬ (frameLater a b = true ∧ frameLater b a = true) := by
  rintro ⟨hab, hba⟩
  obtain ⟨hpos, hab'⟩ := frameLater_iff.1 hab
  obtain ⟨-, hba'⟩ := frameLater_iff.1 hba
  have turn : frameDiff a b + frameDiff b a = 2 ^ 32 := frameDiff_add_frameDiff (by omega)
  omega

end Sys2Proof.Machine

namespace Sys2Proof

open Machine

/-- Settles O56: every clause reads the difference of the two frame numbers on the circle of 2^32. -/
theorem laterFramesFollowSerialArithmetic : Obligations.LaterFramesFollowSerialArithmetic := by
  unfold Obligations.LaterFramesFollowSerialArithmetic
  intro a b ha _
  exact ⟨frameLater_iff_exists_add ha, frameLater_iff_int, frameLater_irrefl a, frameLater_asymm⟩

end Sys2Proof
end

section
/-! PROOFS. What the shared operations leave of the last executor, for the family of the lasts. -/

namespace Sys2Proof.Machine

variable (s : State)

/-! ### Counters, faults and events of a slice -/

/-! The frames of counters, reports and events say in particular that the last executor stays as it is. -/

theorem lasts_of_lessCounters {s u : State} (h : lessCounters u = lessCounters s) : u.lasts = s.lasts :=
  (congrArg State.lasts h :)
theorem lasts_of_lessFaults {s u : State} (h : lessFaults u = lessFaults s) : u.lasts = s.lasts :=
  (congrArg State.lasts h :)
theorem lasts_of_lessEvents {s u : State} (h : lessEvents u = lessEvents s) : u.lasts = s.lasts :=
  (congrArg State.lasts h :)

@[simp] theorem bump_lasts (ix sub : Nat) : (bump s ix sub).lasts = s.lasts := lasts_of_lessCounters (bump_frame s ix sub)
@[simp] theorem bumpBy_lasts (ix sub k : Nat) : (bumpBy s ix sub k).lasts = s.lasts :=
  lasts_of_lessCounters (bumpBy_frame s ix sub k)
@[simp] theorem report_lasts (cls inst effect : Nat) : (report s cls inst effect).lasts = s.lasts :=
  lasts_of_lessFaults (report_frame s cls inst effect)
@[simp] theorem raiseCause_lasts (k c : Nat) : (raiseCause s k c).lasts = s.lasts :=
  lasts_of_lessEvents (raiseCause_frame s k c)
@[simp] theorem sliceEvent_lasts (k b : Nat) : (sliceEvent s k b).lasts = s.lasts :=
  lasts_of_lessEvents (sliceEvent_frame s k b)
@[simp] theorem sliceBlocked_lasts (k : Nat) : (sliceBlocked s k).lasts = s.lasts := sliceEvent_lasts s k 2

/-- A repetition of what leaves the last executor alone leaves it alone. -/
theorem each_lasts {α : Type} {f : State → α → State} (h : ∀ s a, (f s a).lasts = s.lasts) (xs : List α) :
    (each xs s f).lasts = s.lasts := each_same State.lasts h xs s

/-! ### DRAM and host memory -/

@[simp] theorem uncorrectable_lasts (covered : Bool) : (uncorrectable s covered).lasts = s.lasts := by simp [uncorrectable]

@[simp] theorem blockedFault_lasts (who : Principal) : (blockedFault s who).lasts = s.lasts := by
  unfold blockedFault
  dsimp only
  split
  · rfl
  · split <;> simp

@[simp] theorem memRead_lasts (who : Principal) (a n : Nat) : (memRead s who a n).2.lasts = s.lasts := by
  unfold memRead
  extract_lets again s1
  have h1 : s1.lasts = s.lasts := by dsimp only [s1]; split <;> simp
  split
  · split
    · simp [h1]
    · split <;> exact h1
  · simp

/-- The state without the writes to DRAM that a command has made. -/
def lessStores (s : State) : State := { s with stores := [] }

theorem lasts_of_lessStores {s u : State} (h : lessStores u = lessStores s) : u.lasts = s.lasts :=
  (congrArg State.lasts h :)

theorem writeByte_frame (a : Nat) (b : Byte) : lessStores (writeByte s a b) = lessStores s := by
  unfold writeByte
  extract_lets g s1
  have h1 : lessStores s1 = lessStores s := by dsimp only [s1]; split <;> rfl
  split
  · exact h1
  · exact h1

@[simp] theorem writeByte_lasts (a : Nat) (b : Byte) : (writeByte s a b).lasts = s.lasts :=
  lasts_of_lessStores (writeByte_frame s a b)

theorem writeBytes_frame (xs : List (Nat × Byte)) :
    lessStores (each xs s fun s e => writeByte s e.1 e.2) = lessStores s := by
  refine each_same lessStores ?_ xs s
  exact fun s e => writeByte_frame s e.1 e.2

@[simp] theorem healWords_lasts (a n : Nat) : (healWords s a n).lasts = s.lasts := by
  unfold healWords
  split <;> rfl

@[simp] theorem memWrite_lasts (who : Principal) (a : Nat) (bs : Bytes) : (memWrite s who a bs).2.lasts = s.lasts := by
  unfold memWrite
  split
  · exact (lasts_of_lessStores (writeBytes_frame _ _)).trans (healWords_lasts s a bs.length)
  · simp

@[simp] theorem hostRead_lasts (n : Nat) : (hostRead s n).2.lasts = s.lasts := by
  unfold hostRead
  dsimp only [takeFree, takeBytes]
  split <;> rfl

@[simp] theorem sliceRead_lasts (k v n : Nat) (host : Bool) : (sliceRead s k v n host).2.lasts = s.lasts := by
  unfold sliceRead
  split
  · split <;> simp
  · split <;> simp

@[simp] theorem sliceWrite_lasts (k v : Nat) (bs : Bytes) (host : Bool) : (sliceWrite s k v bs host).2.lasts = s.lasts := by
  unfold sliceWrite
  split
  · split <;> simp
  · split <;> simp

@[simp] theorem recordWrite_lasts (k v : Nat) (bs : Bytes) (host : Bool) : (recordWrite s k v bs host).lasts = s.lasts := by
  unfold recordWrite
  dsimp only
  split <;> simp

/-! ### An access that the DRAM controller serves -/

@[simp] theorem answerRead_lasts (requester a : Nat) (r : MemRes) : (answerRead s requester a r).lasts = s.lasts := by
  cases r <;> rfl

@[simp] theorem eccRead_lasts (q : DramReq) : (eccRead s q).2.lasts = s.lasts := by
  unfold eccRead
  dsimp only
  split
  · simp
  · split <;> simp

@[simp] theorem mergeWrite_lasts (q : DramReq) (n : Nat) : (mergeWrite s q n).lasts = s.lasts := by
  unfold mergeWrite
  dsimp only
  split
  · rfl
  · split <;> simp

@[simp] theorem serveAccess_lasts (q : DramReq) : (serveAccess s q).lasts = s.lasts := by
  unfold serveAccess
  dsimp only
  split
  · split <;> simp
  · split
    · split <;> simp
    · simp

/-! ### Flip completions and offscreen jobs -/

@[simp] theorem writeFence_lasts (k addr seq v : Nat) : (writeFence s k addr seq v).lasts = s.lasts := by simp [writeFence]

@[simp] theorem fencesNow_lasts (r : FlipRec) (p : LayerDesc → Bool) : (fencesNow s r p).lasts = s.lasts :=
  each_lasts s (fun s d => by split <;> simp) _

@[simp] theorem postCompletion_lasts (k : Nat) (b : Bytes) : (postCompletion s k b).lasts = s.lasts := by
  unfold postCompletion
  split <;> simp [writeCompletion]

@[simp] theorem dropFlip_lasts (r : FlipRec) (status reason : Nat) : (dropFlip s r status reason).lasts = s.lasts := by
  simp [dropFlip, completeFlip]

@[simp] theorem undefineBytes_lasts (who : Principal) (a n : Nat) : (undefineBytes s who a n).lasts = s.lasts :=
  each_lasts s (fun s x => by split <;> simp) _

@[simp] theorem failOffscreen_lasts (r : FlipRec) (reason : Nat) : (failOffscreen s r reason).lasts = s.lasts :=
  (dropFlip_lasts _ _ _ _).trans (each_lasts s (fun _ _ => undefineBytes_lasts _ _ _ _) _)

/-! ### Decoder jobs -/

@[simp] theorem updMedia_lasts (f : Media → Media) : (updMedia s f).lasts = s.lasts := rfl

@[simp] theorem keepStreams_lasts (p : StreamCtx → Bool) : (keepStreams s p).lasts = s.lasts := rfl

@[simp] theorem endDecJob_lasts (k : Nat) (j : DecJob) (status mid : Nat) : (endDecJob s k j status mid).lasts = s.lasts := by
  unfold endDecJob jobFence
  dsimp only
  split <;> simp

@[simp] theorem failDecJob_lasts (k : Nat) (j : DecJob) (status : Nat) : (failDecJob s k j status).lasts = s.lasts :=
  endDecJob_lasts _ _ _ _ _

@[simp] theorem takeDecJobs_lasts (k n : Nat) : (takeDecJobs k n s).lasts = s.lasts := by
  induction n generalizing s with
  | zero => rfl
  | succ n ih =>
    unfold takeDecJobs
    dsimp only
    split
    · rfl
    · split
      · split
        · simp [ih]
        · split <;> simp [ih]
      · simp [ih]

@[simp] theorem discardPicture_lasts (f : Nat) : (discardPicture s f).lasts = s.lasts := by
  unfold discardPicture feedResync
  split
  · split <;> simp
  · rfl

@[simp] theorem beginStream_lasts (k : Nat) (j : DecJob) : (beginStream s k j).2.lasts = s.lasts := by
  unfold beginStream
  dsimp only
  split
  · rfl
  · split <;> simp

@[simp] theorem endStream_lasts (k : Nat) (j : DecJob) : (endStream s k j).lasts = s.lasts := by
  unfold endStream
  split <;> simp

/-! ### What an engaged action ends -/

/-- The state without the memories' part of it. -/
def lessMem (s : State) : State := { s with mem := resetMemory }

theorem pauseScans_frame (i : Nat) (paused : Bool) : lessMem (pauseScans s i paused) = lessMem s := by
  unfold pauseScans
  refine each_same lessMem ?_ _ s
  exact fun _ _ => rfl

theorem lasts_of_lessMem {s u : State} (h : lessMem u = lessMem s) : u.lasts = s.lasts :=
  (congrArg State.lasts h :)

@[simp] theorem pauseScans_lasts (i : Nat) (paused : Bool) : (pauseScans s i paused).lasts = s.lasts :=
  lasts_of_lessMem (pauseScans_frame s i paused)

@[simp] theorem dropDecoding_lasts : (dropDecoding s).lasts = s.lasts := by
  unfold dropDecoding
  split
  · simp [decoderDone]
  · split
    · simp [decoderDone, streamWaits]
    · rfl

@[simp] theorem dropCapture_lasts : (dropCapture s).lasts = s.lasts :=
  each_lasts s (fun s i => by dsimp only; split <;> simp) _

@[simp] theorem dropPasses_lasts : (dropPasses s).lasts = s.lasts := by
  unfold dropPasses
  refine each_lasts s ?_ _
  exact fun _ _ => rfl

@[simp] theorem dropWriteback_lasts : (dropWriteback s).lasts = s.lasts := by
  unfold dropWriteback
  dsimp only
  refine (each_lasts _ ?_ _).trans ?_
  · exact fun _ _ => rfl
  · split <;> simp

@[simp] theorem engage_lasts (i : Nat) (item : Item) : (engage s i item).lasts = s.lasts := by
  unfold engage
  split
  · simp
  · split
    · rfl
    · split <;> simp

/-! ### Flattening passes -/

@[simp] theorem startPass_lasts (n : Nat) : (startPass s n).lasts = s.lasts := by
  unfold startPass
  exact each_lasts s (fun s r => dropFlip_lasts s r 2 0) _

@[simp] theorem startPasses_lasts : (startPasses s).lasts = s.lasts :=
  each_lasts s (fun s n => by
    dsimp only
    split
    · split <;> simp
    · split <;> simp) _

end Sys2Proof.Machine
end

section
/-! PROOFS. The open DRAM window while requests are judged and served, and the rows of the last that open one (R99, R104). -/

namespace Sys2Proof.Machine

variable (s : State)

/-- The DRAM window as the controller sees it: the allotment set in force, and whether a window is open. -/
def windowInForce (s : State) : Nat × Bool := (s.lasts.windowSet, s.lasts.windowOpen)

theorem windowInForce_of_lasts {s u : State} (h : u.lasts = s.lasts) : windowInForce u = windowInForce s := by
  simp only [windowInForce, h]

/-! ### Requests judged and served -/

@[simp] theorem updMonitor_window (i : Nat) (f : Monitor → Monitor) : windowInForce (updMonitor s i f) = windowInForce s := rfl

@[simp] theorem hold_window (h : Held) : windowInForce (hold s h) = windowInForce s := rfl

/-- A violation is counted and recorded in the window in which it happens. -/
@[simp] theorem violate_window (i measure : Nat) : windowInForce (violate s i measure) = windowInForce s := by
  unfold violate
  split
  · rfl
  · dsimp only
    split
    · rfl
    · split <;> simp [windowInForce, updMonitor]

@[simp] theorem countBytes_window (requester bytes : Nat) : windowInForce (countBytes s requester bytes) = windowInForce s := by
  unfold countBytes
  split
  · dsimp only
    split <;> simp
  · rfl

@[simp] theorem judgeRequest_window (q : DramReq) : windowInForce (judgeRequest s q).2 = windowInForce s := by
  have hv : ∀ i n item, windowInForce (engage (violate s i n) i item) = windowInForce s := fun i n item =>
    (windowInForce_of_lasts (engage_lasts _ i item)).trans (violate_window s i n)
  unfold judgeRequest
  split
  · rfl
  · split
    · rfl
    · extract_lets n past s1
      have h1 : windowInForce s1 = windowInForce s := by
        dsimp only [s1]
        split
        · rfl
        · exact hv _ _ _
      split
      · rfl
      · split
        · rfl
        · split
          · exact h1
          · split <;> exact h1

/-- A request that is served moves its bytes on its item, and its access leaves the last executor alone. -/
@[simp] theorem serveHeld_window (h : Held) : windowInForce (serveHeld s h) = windowInForce s := by
  unfold serveHeld
  extract_lets q s1
  have h1 : windowInForce s1 = windowInForce s := by
    dsimp only [s1]
    split <;> simp
  refine (windowInForce_of_lasts ?_).trans h1
  split
  · simp
  · dsimp only
    split <;> simp
  · have hr := memRead_lasts s1 q.who q.addr q.len
    split
    next hok => simpa [hok] using hr
    next hbad => simpa [hbad] using hr

@[simp] theorem present_window (h : Held) : windowInForce (present s h) = windowInForce s := by
  have hj := judgeRequest_window s h.req
  unfold present
  split
  · rfl
  · split <;> next hj' => simpa [hj'] using hj

/-- The requests that wait are presented again in the window that is open. -/
theorem drainWaiting_window : windowInForce (drainWaiting s) = windowInForce s :=
  each_same windowInForce present_window _ _

/-- Where nothing waits, there is nothing to present again. -/
theorem drainWaiting_of_nil {s : State} (h : s.lasts.waiting = []) : drainWaiting s = s := by
  simp only [drainWaiting, h, List.foldl_nil, each]
  rw [← h]

/-- A step of a repetition that changes nothing, repeated, changes nothing. -/
theorem each_of_fixed {α : Type} {f : State → α → State} {s : State} (h : ∀ a, f s a = s) (xs : List α) : each xs s f = s := by
  induction xs with
  | nil => rfl
  | cons x xs ih => exact (congrArg (each xs · f) (h x)).trans ih

/-- Where no output has a pass or asks for one, none begins. -/
theorem startPasses_of_none {s : State} (h : ∀ n, (outAt s n).pass = none ∧ (outAt s n).passAsked = false) :
    startPasses s = s :=
  each_of_fixed (fun n => by
    obtain ⟨hpass, hasked⟩ := h n
    simp [hpass, hasked]) _

/-! ### DRAM_WINDOW -/

/-- Skipped Events counts a row event whose target may not be reached (R99). -/
def countIfSkipped (s : State) (kind target : Nat) : State := if reachable s kind target then s else bump s 0x221A 0

/-- The monitors restarted and a set opened (R103, R104). -/
def openSet (s : State) (set : Nat) : State :=
  { s with lasts := { s.lasts with
    monitors := (enumFrom 0 s.lasts.monitors).map (windowMonitor (activeItems s)), windowSet := set, windowOpen := true } }

/-- Paused scans whose item has an allotment in a set resume (Table 4-6). -/
def resumeScans (s : State) (set : Nat) : State :=
  each (enumFrom 1 (activeItems s)) s fun s e =>
    if e.2.requester = 0x50 && allotment s set e.1 ≠ 0 then pauseScans s e.1 false else s

theorem resumeScans_frame (set : Nat) : lessMem (resumeScans s set) = lessMem s :=
  each_same lessMem (fun s e => by
    split
    · exact pauseScans_frame s e.1 false
    · rfl) _ s

/-- What a DRAM_WINDOW does at its place in the row, in the order in which it does it. -/
theorem dramWindow_of_index {s : State} {set i : Nat} (h : eventIndex s 3 0 set = some i) :
    dramWindow s set =
      startPasses (drainWaiting (resumeScans (openSet (countIfSkipped (passEvent s i) 3 0) set) set)) := by
  unfold dramWindow
  rw [h]
  rfl

/-- A DRAM_WINDOW that is due opens its set, skipped or not (R99). -/
theorem dramWindow_window {s : State} {set : Nat} (h : eventDue s 3 0 set = true) :
    windowInForce (dramWindow s set) = (set, true) := by
  obtain ⟨i, hi⟩ := Option.isSome_iff_exists.1 h
  rw [dramWindow_of_index hi]
  generalize countIfSkipped (passEvent s i) 3 0 = c
  calc windowInForce (startPasses (drainWaiting (resumeScans (openSet c set) set)))
      = windowInForce (drainWaiting (resumeScans (openSet c set) set)) := windowInForce_of_lasts (startPasses_lasts _)
    _ = windowInForce (resumeScans (openSet c set) set) := drainWaiting_window _
    _ = windowInForce (openSet c set) := windowInForce_of_lasts (lasts_of_lessMem (resumeScans_frame _ set))
    _ = (set, true) := rfl

/-- Where no request waits and no pass is asked for, a skipped DRAM_WINDOW is counted, and opens its set (R99). -/
theorem dramWindow_of_unreachable {s : State} {set i : Nat} (hi : eventIndex s 3 0 set = some i)
    (hoff : reachable s 3 0 = false) (hwait : s.lasts.waiting = [])
    (hpass : ∀ n, (outAt s n).pass = none ∧ (outAt s n).passAsked = false) :
    dramWindow s set = resumeScans (openSet (bump (passEvent s i) 0x221A 0) set) set := by
  have hskip : countIfSkipped (passEvent s i) 3 0 = bump (passEvent s i) 0x221A 0 :=
    if_neg (Bool.eq_false_iff.1 hoff)
  rw [dramWindow_of_index hi, hskip]
  generalize hr : resumeScans (openSet (bump (passEvent s i) 0x221A 0) set) set = r
  have hframe : lessMem r = lessMem (openSet (bump (passEvent s i) 0x221A 0) set) := hr ▸ resumeScans_frame _ set
  have hwait' : r.lasts.waiting = [] := by
    rw [lasts_of_lessMem hframe]
    simpa [openSet, passEvent] using hwait
  have houts : r.outs = s.outs :=
    (congrArg State.outs hframe :).trans (congrArg State.outs (bump_frame (passEvent s i) 0x221A 0) :)
  have hpass' : ∀ n, (outAt r n).pass = none ∧ (outAt r n).passAsked = false := by
    simpa only [outAt, houts] using hpass
  rw [drainWaiting_of_nil hwait', startPasses_of_none hpass']

/-- Entries are read in the dictionary alone. -/
theorem entryNum_of_dict {s u : State} (h : u.dict = s.dict) (ix sub : Nat) : entryNum u ix sub = entryNum s ix sub := by
  simp only [entryNum, entry, h]

theorem entryNum_dramWindow_of_unreachable {s : State} {set : Nat} (hdue : eventDue s 3 0 set = true)
    (hoff : reachable s 3 0 = false) (hcount : entryNum s 0x221A 0 + 1 < 2 ^ 32) (hwait : s.lasts.waiting = [])
    (hpass : ∀ n, (outAt s n).pass = none ∧ (outAt s n).passAsked = false) :
    entryNum (dramWindow s set) 0x221A 0 = entryNum s 0x221A 0 + 1 := by
  obtain ⟨i, hi⟩ := Option.isSome_iff_exists.1 hdue
  rw [dramWindow_of_unreachable hi hoff hwait hpass]
  generalize hc : bump (passEvent s i) 0x221A 0 = c
  calc entryNum (resumeScans (openSet c set) set) 0x221A 0
      = entryNum c 0x221A 0 := entryNum_of_dict (congrArg State.dict (resumeScans_frame (openSet c set) set) :) _ _
    _ = entryNum s 0x221A 0 + 1 := hc ▸ entryNum_bump (passEvent s i) 0x221A 0 hcount

end Sys2Proof.Machine
end

section
/-! PROOFS. Row events whose target may not be reached (R99), for the family of the lasts. -/

namespace Sys2Proof.Machine

/-- The state after an event at place i of its row is skipped at time t. -/
def skippedAt (s : State) (t : Rrp) (i : Nat) : State :=
  setNum (passEvent (atTime s t) i) 0x221A 0 (entryNum s 0x221A 0 + 1)

/-- A row event that is due and whose target may not be reached is skipped, whatever it would have done (R99). -/
theorem rowEvent_of_unreachable {s : State} {t : Rrp} {kind target arg : Nat} (f : State → State)
    (hcount : entryNum s 0x221A 0 + 1 < 2 ^ 32) (hdue : eventDue (atTime s t) kind target arg = true)
    (hoff : reachable s kind target = false) : ∃ i, rowEvent (atTime s t) kind target arg f = skippedAt s t i := by
  obtain ⟨i, hi⟩ := Option.isSome_iff_exists.1 hdue
  have hoff' : reachable (passEvent (atTime s t) i) kind target = false := hoff
  refine ⟨i, ?_⟩
  simp only [rowEvent, hi, hoff', Bool.false_eq_true, if_false]
  exact bump_of_lt (s := passEvent (atTime s t) i) hcount

/-- A number set in an entry leaves what the map holds under every other key. -/
theorem get_setNum_ne (s : State) (ix sub v : Nat) {k : Nat} (h : k ≠ dkey ix sub) :
    SMap.get unsetVal (setNum s ix sub v).dict k = SMap.get unsetVal s.dict k := by
  simp [setNum, setEntry, SMap.set, unsetVal, SMap.get_put, h]

/-- Skipped Events has risen by one, and besides that count, the time and the place that the row has reached the device is
what it was. -/
def SkippedOnly (s u : State) : Prop :=
  entryNum u 0x221A 0 = entryNum s 0x221A 0 + 1 ∧
    { u with dict := s.dict, now := s.now, lasts := { u.lasts with row := s.lasts.row } } = s ∧
    ∀ k, k ≠ dkey 0x221A 0 → SMap.get unsetVal u.dict k = SMap.get unsetVal s.dict k

theorem skippedOnly_skippedAt (s : State) (t : Rrp) (i : Nat) : SkippedOnly s (skippedAt s t i) :=
  ⟨entryNum_setNum _ _ _ _, rfl, fun _ hk => get_setNum_ne (passEvent (atTime s t) i) _ _ _ hk⟩

/-! ### The rows of the last as commands -/

theorem exec_latch (t : Rrp) (n : Fin 8) (j : Fin 2) (s : State) : exec (.latch t n j) s =
    .next (finish s (rowEvent (atTime s t) 1 n.val j.val fun s => latchOutput s n.val j.val)) := rfl
theorem exec_gpuWindow (t : Rrp) (k : Fin 34) (set len : Nat) (s : State) : exec (.gpuWindow t k set len) s =
    .next (finish s (rowEvent (atTime s t) 2 k.val (len * 4096 + set) fun s => openWindow s k.val set len)) := rfl
theorem exec_dramWindow (t : Rrp) (set : Nat) (s : State) :
    exec (.dramWindow t set) s = .next (finish s (dramWindow (atTime s t) set)) := rfl
theorem exec_touchBurst (t : Rrp) (n : Fin 8) (plan : Nat) (s : State) :
    exec (.touchBurst t n plan) s = .next (finish s (touchBurst (atTime s t) n.val plan)) := rfl
theorem exec_freqChange (t : Rrp) (rate : Nat) (s : State) :
    exec (.freqChange t rate) s = .next (finish s (freqChange (atTime s t) rate)) := rfl
theorem exec_checkStart (t : Rrp) (c : Fin 16) (plan : Nat) (s : State) :
    exec (.checkStart t c plan) s = .next (finish s (checkStart (atTime s t) c.val plan)) := rfl

/-- A burst plan that serves the step of its channel, inside a measuring interval, makes TOUCH_BURST a row event (R294). -/
theorem touchBurst_of_measuring {s : State} {n plan : Nat} {e : Nat × BurstPlan}
    (hplan : (burstPlans s n).find? (fun e => e.1 = plan) = some e) (hstep : bit e.2.rates ((touchAt s n).step - 1) = true)
    (hmeas : measuring s n = true) : touchBurst s n plan =
      rowEvent s 4 n plan fun u => if (touchAt s n).st = .scanning then fireBurst u n plan e.2 else u := by
  simp [touchBurst, hplan, hstep, hmeas]

end Sys2Proof.Machine

namespace Sys2Proof

open Machine

/-- A command that is a row event, due and with a target that may not be reached, is skipped. -/
theorem gives_skippedOnly {s : State} {t : Rrp} {c : Instr} {kind target arg : Nat} (hq : Quiescent s)
    (hcount : entryNum s 0x221A 0 + 1 < 2 ^ 32) (hdue : eventDue (atTime s t) kind target arg = true)
    (hoff : reachable s kind target = false) (f : State → State)
    (hexec : exec c s = .next (finish s (rowEvent (atTime s t) kind target arg f))) : Gives c s (SkippedOnly s) := by
  obtain ⟨i, hi⟩ := rowEvent_of_unreachable f hcount hdue hoff
  have hend : finish s (skippedAt s t i) = skippedAt s t i := finish_of_quiescent hq rfl rfl rfl rfl
  exact ⟨skippedAt s t i, by rw [hexec, hi, hend], skippedOnly_skippedAt s t i⟩

/-- A DRAM_WINDOW that is due opens its set; a skipped one is counted where nothing waits for it. -/
theorem gives_dramWindow {s : State} {t : Rrp} {set : Nat} (hdue : eventDue (atTime s t) 3 0 set = true) :
    Gives (.dramWindow t set) s fun u => u.lasts.windowSet = set ∧ u.lasts.windowOpen = true ∧
      (reachable s 3 0 = false → entryNum s 0x221A 0 + 1 < 2 ^ 32 → s.lasts.waiting = [] →
        (∀ n : Nat, (outAt s n).pass = none ∧ (outAt s n).passAsked = false) →
        entryNum u 0x221A 0 = entryNum s 0x221A 0 + 1) := by
  obtain ⟨hset, hopen⟩ := Prod.mk.inj (dramWindow_window hdue)
  refine ⟨_, exec_dramWindow t set s, hset, hopen, fun hoff hcount hwait hpass => ?_⟩
  exact (entryNum_of_dict (finish_dict s _) _ _).trans
    (entryNum_dramWindow_of_unreachable (s := atTime s t) hdue hoff hcount hwait hpass)

/-- Settles O18: each of the five other row events is skipped as a row event is, and DRAM_WINDOW opens its set all the same. -/
theorem skippedRowEventsHaveNoEffect : Obligations.SkippedRowEventsHaveNoEffect := by
  unfold Obligations.SkippedRowEventsHaveNoEffect
  refine ⟨fun s t c kind target arg hq hcount hrow hdue hoff => ?_, fun s t set hdue => gives_dramWindow hdue⟩
  have skip := gives_skippedOnly (c := c) hq hcount hdue hoff
  obtain ⟨n, j, rfl, rfl, rfl, rfl⟩ | ⟨k, set, len, rfl, rfl, rfl, rfl⟩ | ⟨n, e, rfl, rfl, rfl, hplan, hstep, hmeas⟩ |
    ⟨rfl, rfl, rfl⟩ | ⟨k, rfl, rfl, rfl⟩ := hrow
  · exact skip _ (exec_latch t n j s)
  · exact skip _ (exec_gpuWindow t k set len s)
  · have hburst := touchBurst_of_measuring (s := atTime s t) hplan hstep hmeas
    exact skip _ ((exec_touchBurst t n arg s).trans (congrArg (Host.Outcome.next ∘ finish s) hburst))
  · exact skip _ (exec_freqChange t arg s)
  · exact skip _ (exec_checkStart t k arg s)

end Sys2Proof
end
